-- ==== Sys2Proof/Word.lean ====
section
/-!
DEFINITION. The smallest unit the part's links carry: one byte.
Every other quantity of the manual is an unsigned whole number with a stated range (00_scope.md, 1.6), so it
is a `Nat`; the signed ones (the headroom of R73, the trim error of R166) are `Int`.
-/

namespace Sys2Proof

/-- One byte of a frame (R122, R178). -/
abbrev Byte := BitVec 8

end Sys2Proof
end

