-- ==== Sys2Proof/Machine/Types.lean ====
section
/-!
DEFINITION. The record types of the 4806: the settings the host agrees, the records each block owns, the
frames of the two links. Plain data only; what the machine does with them stands in the other files of
Machine/. Codes are numbered in the order in which the manual first lists the values (R182).
-/

namespace Sys2Proof.Machine

/-! ### Stations (Section 1) -/

/-- Station states, Table 1-9 (codes 0 to 5). -/
inductive StationState where
  | vacant | seeking | attaching | active | lost | isolated
  deriving DecidableEq, Repr, Inhabited

/-- Contract class (Table 1-10). -/
inductive ContractClass where
  | firm | flex
  deriving DecidableEq, Repr, Inhabited

/-- dt_mode (Table 1-10). -/
inductive DtMode where
  | enforced | tracking
  deriving DecidableEq, Repr, Inhabited

/-- A set of capabilities (Table 1-10; bits as Table 7-3). -/
structure Caps where
  rest : Bool
  track : Bool
  meter : Bool
  index : Bool
  deriving DecidableEq, Repr, Inhabited

/-- A station's advertisement (Table 1-10, R7). -/
structure Advert where
  caps : Caps
  standaloneKw : Nat
  presentCap : Nat
  revision : Nat
  deriving DecidableEq, Repr, Inhabited

/-- The host-agreed fields of a station, the complete set a STN-DEF carries (R2). -/
structure HostFields where
  cls : ContractClass
  contractKw : Nat
  floorKw : Nat
  fallbackKw : Nat
  designDt : Nat
  dtMode : DtMode
  offered : Caps
  deriving DecidableEq, Repr, Inhabited

/-- A differential pressure with its age in seconds (R20, R25). -/
structure DpReading where
  value : Nat
  age : Nat
  deriving DecidableEq, Repr, Inhabited

/-- A station's standing in its branch's rest (R142); `uninvolved` is the manual's standing "none". -/
inductive Standing where
  | uninvolved | offerOwed | accepted | wakeOwed
  deriving DecidableEq, Repr, Inhabited

/-- One station record (Table 1-10) with the figures the other blocks keep beside it: the grant ΔT (R63), the
rest standing (R142) and the time since the last POLL (R154). The resolved caps are not stored: they are a
function of `host.offered` and `advert` (R8). -/
structure Station where
  state : StationState
  host : HostFields
  advert : Option Advert
  requestKw : Nat
  clamped : Bool
  supply : Option Nat
  ret : Option Nat
  measuredDt : Option Nat
  dtHold : Nat
  indexDp : Option DpReading
  grantKw : Nat
  grantDt : Nat
  confirmedKw : Nat
  confirmedFlow : Nat
  confirmedDt : Nat
  missCount : Nat
  nextSeq : Nat
  debounce : Nat
  hold : Option Nat
  boundCount : Nat
  standing : Standing
  sincePoll : Option Nat
  deriving DecidableEq, Repr, Inhabited

/-- A range of station numbers: a branch window (R116) or the isolation range (R120). -/
structure Range where
  base : Nat
  limit : Nat
  deriving DecidableEq, Repr, Inhabited

/-! ### Plant (Section 2) -/

/-- The settings a CH-DEF carries (Table 2-2). -/
structure ChillerSettings where
  ratedKw : Nat
  minRun : Nat
  minOff : Nat
  startConfirm : Nat
  stopConfirm : Nat
  deriving DecidableEq, Repr, Inhabited

/-- Chiller states, Table 2-3. A held start is START_HELD and a held stop is STOP_HELD. -/
inductive ChillerState where
  | unknown | off | startHeld | starting | run | stopHeld | stopping | tripped
  deriving DecidableEq, Repr, Inhabited

/-- One chiller record (Table 2-2). The contribution is a function of the record (R28). -/
structure Chiller where
  settings : ChillerSettings
  state : ChillerState
  available : Option Nat
  minRunTimer : Option Nat
  minOffTimer : Option Nat
  confirmTimer : Option Nat
  deriving DecidableEq, Repr, Inhabited

/-- The run condition of a chiller report (Table 2-1). -/
inductive RunCondition where
  | run | stopped | tripped
  deriving DecidableEq, Repr, Inhabited

/-- Tank modes, and the modes of a schedule slot (R45); codes 0 to 2. -/
inductive TankMode where
  | hold | charge | discharge
  deriving DecidableEq, Repr, Inhabited

/-- The tank's condition from its reports (Table 2-6). -/
structure Tank where
  soc : Option Nat
  mode : Option TankMode
  rate : Option Nat
  enabled : Bool
  deriving DecidableEq, Repr, Inhabited

/-- The pump group's reported condition (R38). -/
structure PumpGroup where
  running : Bool
  speed : Option Nat
  deriving DecidableEq, Repr, Inhabited

/-- The freshness watch of one plant bus address (R26): whether the device is silent and for how many
seconds it has been unheard. -/
structure Watch where
  silent : Bool
  unheard : Nat
  deriving DecidableEq, Repr, Inhabited

/-- The settings a PLANT-DEF carries, in the order of Table 11-2. -/
structure PlantSettings where
  margin : Nat
  quantum : Nat
  dtFloor : Nat
  lostHold : Nat
  tankCapacity : Nat
  maxDischarge : Nat
  reserveLow : Nat
  reserveHigh : Nat
  chargeStep : Nat
  deriving DecidableEq, Repr, Inhabited

/-- A command put on the plant bus (R27). -/
inductive BusCommand where
  | chillerRun (unit : Fin 8)
  | chillerStop (unit : Fin 8)
  | tankSet (mode : TankMode) (rate : Nat)
  | pumpSet (speed : Nat)
  deriving DecidableEq, Repr

/-! ### Schedule (Section 3) -/

/-- One schedule slot record (R45). -/
structure SlotRecord where
  mode : TankMode
  kw : Nat
  deriving DecidableEq, Repr, Inhabited

/-- A tank command: a mode and a rate (R49). -/
structure TankCommand where
  mode : TankMode
  rate : Nat
  deriving DecidableEq, Repr, Inhabited

/-- An open schedule load session (R51). -/
structure LoadSession where
  first : Nat
  last : Nat
  pointer : Nat
  deriving DecidableEq, Repr, Inhabited

/-! ### Branches (Sections 7 and 8) -/

/-- The settings a BR-DEF carries (Table 7-1); no window while the branch is disabled. -/
structure BranchSettings where
  window : Option Range
  flowLimit : Nat
  rampStep : Nat
  restThreshold : Nat
  wakeTime : Nat
  restPoll : Nat
  deriving DecidableEq, Repr, Inhabited

/-- What a cap entry holds while it is in flight (R130). -/
structure Flight where
  attempts : Nat
  flowSent : Nat
  grantSent : Nat
  deriving DecidableEq, Repr, Inhabited

/-- One cap entry (R130). The in-flight mark is `flight.isSome`. -/
structure CapEntry where
  station : Fin 48
  seq : Nat
  targetGrant : Nat
  targetFlow : Nat
  dtUsed : Nat
  flight : Option Flight
  deriving DecidableEq, Repr

/-- The frame of a transaction (Table 7-3). -/
inductive TxnKind where
  | poll
  | probe
  | cap (seq flow grant : Nat)
  | restOffer
  | wake
  | meterAsk
  deriving DecidableEq, Repr

/-- A transaction waiting for its reply (R124); `abandoned` as R127 gives. -/
structure Txn where
  station : Fin 48
  kind : TxnKind
  abandoned : Bool
  deriving DecidableEq, Repr

/-- The meter read a read slot holds (R136, R137). -/
structure MeterRead where
  station : Fin 48
  tag : Nat
  attempts : Nat
  owed : Bool
  deriving DecidableEq, Repr

/-- Branch rest states (Table 8-1). -/
inductive RestState where
  | live | offering | resting | waking
  deriving DecidableEq, Repr, Inhabited

/-- One branch link controller's record (R116, R128 to R130, R136, R142). `rotSent` and `rotDemand` are what the
controller must remember of the present rotation: whether it has sent a frame (R129), and whether a report with
a request above 0 kW was accepted during it (R143). -/
structure Branch where
  settings : BranchSettings
  queue : List CapEntry
  read : Option MeterRead
  txn : Option Txn
  rotPos : Nat
  rotCount : Nat
  rotSent : Bool
  rotDemand : Bool
  capsInRow : Nat
  rest : RestState
  idleCount : Nat
  wakeTimer : Option Nat
  badFrames : Nat
  protocolErrors : Nat
  deriving DecidableEq, Repr

/-! ### Allocator (Sections 5 and 6) -/

/-- The allocator's fairness state, kept between passes and sheds (Tables 5-1 and 6-1). -/
structure Allocator where
  firmPtr : Fin 48
  flexPtr : Fin 48
  flexSnapshot : List (Fin 48)
  flexShedPtr : Fin 48
  firmShedPtr : Fin 48
  deriving DecidableEq, Repr

/-! ### Pressure reference (Section 9) -/

/-- Pressure sources (Table 9-1). -/
inductive Source where
  | primary | secondary | plant | hold
  deriving DecidableEq, Repr, Inhabited

/-- The fallback setting (Table 9-2). -/
inductive Fallback where
  | plant | hold
  deriving DecidableEq, Repr, Inhabited

/-- The index settings a REF-DEF carries (Table 9-2). -/
structure RefSettings where
  primary : Option (Fin 48)
  secondary : Option (Fin 48)
  autoSwitch : Bool
  fallback : Fallback
  revertDelay : Nat
  freshness : Nat
  indexSetpoint : Nat
  plantSetpoint : Nat
  deriving DecidableEq, Repr

/-- The trim settings a PUMP-DEF carries (Table 9-3). -/
structure PumpSettings where
  deadband : Nat
  interval : Nat
  gain : Nat
  maxStep : Nat
  minSpeed : Nat
  maxSpeed : Nat
  deriving DecidableEq, Repr, Inhabited

/-- The error of a trim and the source it was taken with (R169). -/
structure TrimError where
  error : Int
  source : Source
  deriving DecidableEq, Repr

/-- The pressure reference unit (R156, R157, R159 to R168). -/
structure PressureUnit where
  ref : RefSettings
  pump : PumpSettings
  source : Source
  revertTimer : Option Nat
  trimTimer : Nat
  speed : Option Nat
  lastTrim : Option TrimError
  deriving DecidableEq, Repr

/-! ### Faults (Section 10) -/

/-- Fault kinds, Table 10-1 (codes 0 to 9). -/
inductive FaultKind where
  | chillerTrip | startFailed | stopFailed | deviceSilent | stationLost
  | firmCut | indexLost | storageReserve | linkOverrun | configLost
  deriving DecidableEq, Repr, Inhabited

/-- One fault entry (R170). `firstSeen` is absent for "clock unset". -/
structure FaultEntry where
  kind : FaultKind
  subject : Nat
  firstSeen : Option Nat
  count : Nat
  active : Bool
  acked : Bool
  deriving DecidableEq, Repr

/-- The fault list, with the overflow, the mask (bit n for kind code n) and the alert relay (R170, R174, R175). -/
structure FaultList where
  entries : List FaultEntry
  overflowCount : Nat
  overflowUnacked : Bool
  mask : BitVec 10
  relayClosed : Bool
  deriving DecidableEq, Repr

/-! ### Supervisory link (Section 11) -/

/-- One field of a frame body: how many bytes it is sent in and its value (R182, Table 11-4). -/
structure Field where
  bytes : Nat
  value : Nat
  deriving DecidableEq, Repr

/-- Refusal reasons (Table 11-3). -/
inductive Reason where
  | unknown | format | range | state | busy | overlap | capability | sequence | storeFailed
  deriving DecidableEq, Repr

/-- A reply (Table 11-2). -/
inductive Reply where
  | done (body : List Field)
  | data (body : List Field)
  | taken
  | refused (reason : Reason)
  deriving DecidableEq, Repr

/-- How a meter read ended (R183). -/
inductive MeterOutcome where
  | data (energy volume : Nat)
  | lost | isolated | dropped | noReply
  deriving DecidableEq, Repr

/-- Where the blocks' settings came from at the last cold start (R183). -/
inductive ConfigSource where
  | stored | defaults
  deriving DecidableEq, Repr

/-- The three notices (R183). -/
inductive Notice where
  | hello (warm : Bool) (source : ConfigSource)
  | fault (kind : FaultKind) (subject : Nat) (firstSeen : Option Nat) (active : Bool)
  | meterDone (tag : Nat) (station : Fin 48) (outcome : MeterOutcome)
  deriving DecidableEq, Repr

/-- An outgoing frame of the supervisory link (R180). -/
inductive OutFrame where
  | reply (tag : Nat) (body : Reply)
  | notice (n : Notice)
  deriving DecidableEq, Repr

/-- The fields of a STN-DEF as the frame carries them, codes unchecked (R2). -/
structure StnDefFields where
  station : Nat
  cls : Nat
  contractKw : Nat
  floorKw : Nat
  fallbackKw : Nat
  designDt : Nat
  dtMode : Nat
  offered : Nat
  deriving DecidableEq, Repr

/-- The fields of a BR-DEF as the frame carries them (R117). -/
structure BrDefFields where
  branch : Nat
  enabled : Nat
  base : Nat
  limit : Nat
  flowLimit : Nat
  rampStep : Nat
  restThreshold : Nat
  wakeTime : Nat
  restPoll : Nat
  deriving DecidableEq, Repr

/-- The fields of a CH-DEF as the frame carries them (R28). -/
structure ChDefFields where
  unit : Nat
  settings : ChillerSettings
  deriving DecidableEq, Repr

/-- The fields of a REF-DEF as the frame carries them (R156); 0xFF is the code for none. -/
structure RefDefFields where
  primary : Nat
  secondary : Nat
  autoSwitch : Nat
  fallback : Nat
  revertDelay : Nat
  freshness : Nat
  indexSetpoint : Nat
  plantSetpoint : Nat
  deriving DecidableEq, Repr

/-- One record of a SCHED-DATA as the frame carries it: a mode code and a kW figure (R53). -/
structure SlotFields where
  mode : Nat
  kw : Nat
  deriving DecidableEq, Repr

/-- A host request as the link hands it to the block that owns it: the fields its frame carries, their values
unchecked. `unknown` is a frame whose KIND names no request, `badFormat` one whose body length is wrong (R181). -/
inductive Request where
  | clock (tod : Nat)
  | stnDef (f : StnDefFields)
  | stnDrop (station : Nat)
  | brDef (f : BrDefFields)
  | isolate (base limit : Nat)
  | chDef (f : ChDefFields)
  | chCmd (unit command : Nat)
  | plantDef (p : PlantSettings)
  | schedWin (first last : Nat)
  | schedData (flag : Nat) (records : List SlotFields)
  | refDef (f : RefDefFields)
  | pumpDef (p : PumpSettings)
  | brRest (branch : Nat)
  | brWake (branch : Nat)
  | meter (station : Nat)
  | getStn (station : Nat)
  | getBr (branch part : Nat)
  | getPlant (part : Nat)
  | getRef
  | getFaults (part : Nat)
  | faultAck (kind subject : Nat)
  | faultMask (mask : Nat)
  | save
  | restart
  | unknown (kind : Nat)
  | badFormat (kind : Nat)
  deriving DecidableEq, Repr

/-- A received frame, as the receive buffer holds it (R179). -/
structure HostFrame where
  tag : Nat
  request : Request
  deriving DecidableEq, Repr

/-- The settings the stored configuration image holds (R184); a station absent from it is VACANT. -/
structure Image where
  stations : Vector (Option HostFields) 48
  branches : Vector BranchSettings 6
  chillers : Vector ChillerSettings 8
  plant : PlantSettings
  ref : RefSettings
  pump : PumpSettings
  isolation : Option Range
  schedule : Vector SlotRecord 96
  mask : BitVec 10
  deriving DecidableEq, Repr

/-- What the link is doing with requests (R179, R184, R186): idle; the reply to the last request taken has not
yet left the line, with a warm restart owed after it or not; a SAVE is being written; the DONE to a RESTART
has left the line and the warm restart is due. -/
inductive LinkPhase where
  | idle
  | replying (restart : Bool)
  | saving (tag : Nat) (image : Image)
  | restartDue
  deriving DecidableEq, Repr

/-- The supervisory link (R178 to R180, R183, R187): the receive buffer, the frame on the line, the frames
waiting to be sent in order of issue, the four counts, and the source of the last cold start. -/
structure Link where
  rx : List HostFrame
  phase : LinkPhase
  sending : Option OutFrame
  waiting : List OutFrame
  badFrames : Nat
  gaps : Nat
  overruns : Nat
  noticeLosses : Nat
  source : ConfigSource
  deriving DecidableEq, Repr

/-! ### Field frames (Section 7) -/

/-- A station frame between its start byte and its CRC (Table 7-2); the length byte is the body's length. -/
structure FieldFrame where
  address : Nat
  kind : Nat
  seq : Nat
  body : List Byte
  deriving DecidableEq, Repr

/-- The fields of a REPORT (Table 7-3); 0xFFFF means absent in `supply`, `ret` and `indexDp`. -/
structure ReportFields where
  requestKw : Nat
  supply : Nat
  ret : Nat
  indexDp : Nat
  standalone : Bool
  deriving DecidableEq, Repr

/-- A reply of one of the kinds of Table 7-3. -/
inductive FieldReply where
  | report (f : ReportFields)
  | advertise (caps standaloneKw presentCap revision : Nat)
  | capAck (seq : Nat)
  | restAnswer (answer : Nat)
  | wakeAck
  | meterData (energy volume : Nat)
  deriving DecidableEq, Repr

end Sys2Proof.Machine
end

