-- ==== Sys2Proof/Syntax.lean ====
section
/-!
DEFINITION. The commands of the 4806: one constructor per row of spec/opcode_table.json, in the table's order.
A command is one event the part takes whole. The operands are what the event brings: for a request frame its TAG
and fields, for a field frame the branch it arrives on, the address it carries and its fields, for a plant report
its fields, for a timer the record it belongs to. Ports of the card (branches, chiller units, plant bus
addresses, station records) are `Fin`; values that arrive on a wire are `Nat`, and `WellFormed` says
which of them the wire can carry.
-/

namespace Sys2Proof

open Machine

/-- The commands, one per row of the table. -/
inductive Instr where
  -- power and the supervisory line
  | coldStart
  | powerLoss
  | supervisoryFrameReceived (kind tag : Nat) (body : List Byte)
  | supervisoryBadFrame
  | supervisoryGapTimeout
  | frameSent
  -- host requests
  | unknownRequest (tag kind : Nat)
  | clock (tag tod : Nat)
  | stnDef (tag : Nat) (f : StnDefFields)
  | stnDrop (tag station : Nat)
  | brDef (tag : Nat) (f : BrDefFields)
  | isolate (tag base limit : Nat)
  | chDef (tag : Nat) (f : ChDefFields)
  | chCmdStart (tag unit : Nat)
  | chCmdStop (tag unit : Nat)
  | plantDef (tag : Nat) (p : PlantSettings)
  | schedWin (tag first last : Nat)
  | schedDataStart (tag : Nat) (records : List SlotFields)
  | schedDataContinue (tag : Nat) (records : List SlotFields)
  | refDef (tag : Nat) (f : RefDefFields)
  | pumpDef (tag : Nat) (p : PumpSettings)
  | brRest (tag branch : Nat)
  | brWake (tag branch : Nat)
  | meter (tag station : Nat)
  | getStn (tag station : Nat)
  | getBr (tag branch part : Nat)
  | getPlant (tag part : Nat)
  | getRef (tag : Nat)
  | getFaults (tag part : Nat)
  | faultAck (tag kind subject : Nat)
  | faultAckAll (tag : Nat)
  | faultMask (tag mask : Nat)
  | save (tag : Nat)
  | saveReadBack (agrees : Bool)
  | restart (tag : Nat)
  | warmRestart
  -- time and timers
  | clockTick
  | holdExpiry (station : Fin 48)
  | deviceSilent (address : Fin 11)
  | minRunExpiry (unit : Fin 8)
  | minOffExpiry (unit : Fin 8)
  | confirmExpiry (unit : Fin 8)
  -- the plant bus
  | chillerReport (unit : Fin 8) (condition : RunCondition) (available : Nat)
  | tankReport (soc : Nat) (mode : TankMode) (rate : Nat)
  | pumpReport (running : Bool) (speed : Nat)
  | plantDpReport (dp : Nat)
  | plantFrameDiscarded
  -- the pressure reference unit
  | indexDpStale (station : Fin 48)
  | plantDpStale
  | revertExpiry
  | trimExpiry
  -- the branch segments
  | replyTimeout (branch : Fin 6)
  | fieldGapTimeout (branch : Fin 6)
  | fieldBadFrame (branch : Fin 6)
  | fieldInvalidReply (branch : Fin 6) (frame : FieldFrame)
  | fieldUnawaitedFrame (branch : Fin 6) (frame : FieldFrame)
  | report (branch : Fin 6) (address : Nat) (f : ReportFields)
  | advertise (branch : Fin 6) (address caps standaloneKw presentCap revision : Nat)
  | capAck (branch : Fin 6) (address seq : Nat)
  | restAnswer (branch : Fin 6) (address answer : Nat)
  | wakeAck (branch : Fin 6) (address : Nat)
  | meterData (branch : Fin 6) (address energy volume : Nat)
  | emptyRotationEnd (branch : Fin 6)
  | restPollDue (station : Fin 48)
  | wakeTimerExpiry (branch : Fin 6)
  deriving DecidableEq, Repr

end Sys2Proof
end

