-- ==== Sys2Proof/Decode.lean ====
section
/-!
DEFINITION. What a word of the table spells, and the frames of the two links: the CRC-16, the layouts of Tables 7-2
and 11-1, the bodies of Tables 7-3 and 11-2 with the field encodings of Table 11-4, each way.
spec/opcode_table.json gives no row any bits (its "fields" are empty: a row is an event, not a word), so no word
spells a command. Bytes below the frames are left out (DESIGN CHOICE, safe: notes/assumptions/21.md).
-/

namespace Sys2Proof

/-- The command a word spells by the table's bits: the table gives no row bits, so none. -/
def decodeTableWord (_nbits _w : Nat) : Option Instr := none

namespace Machine

/-! ### Bytes and fields (R182) -/

/-- A number sent most significant byte first in `n` bytes (00_scope.md, 1.6). -/
def bytesOf : Nat → Nat → List Byte
  | 0, _ => []
  | n + 1, v => BitVec.ofNat 8 (v / 256 ^ n) :: bytesOf n v

/-- The number that bytes sent most significant first give. -/
def ofBytes (bs : List Byte) : Nat := bs.foldl (fun acc b => acc * 256 + b.toNat) 0

/-- A field as it is sent. -/
def Field.encode (f : Field) : List Byte := bytesOf f.bytes f.value

/-- A run of fields as it is sent: the body of a frame (R182). -/
def encodeBody (fs : List Field) : List Byte := fs.flatMap Field.encode

/-- A body read as fields of the given byte counts, or none when its length is not theirs together. -/
def splitBody : List Nat → List Byte → Option (List Nat)
  | [], bs => if bs.isEmpty then some [] else none
  | n :: ns, bs =>
    if bs.length < n then none
    else (splitBody ns (bs.drop n)).map (ofBytes (bs.take n) :: ·)

/-! ### The check sum (R122) -/

/-- One bit step of the CRC-16 register: generator x^16 + x^12 + x^5 + 1. -/
def crcBit (r : BitVec 16) : BitVec 16 :=
  if r.msb then (r <<< 1) ^^^ 0x1021#16 else r <<< 1

/-- The register after one byte, taken most significant bit first. -/
def crcByte (r : BitVec 16) (b : Byte) : BitVec 16 :=
  let r := r ^^^ ((b.zeroExtend 16) <<< 8)
  crcBit (crcBit (crcBit (crcBit (crcBit (crcBit (crcBit (crcBit r)))))))

/-- The CRC-16 of both links (R122): from a register of all ones, not reflected, no final inversion. -/
def crc16 (bs : List Byte) : BitVec 16 := bs.foldl crcByte 0xFFFF#16

/-- A frame with its start byte and its CRC over everything between, sent most significant byte first. -/
def sealFrame (start : Byte) (inner : List Byte) : List Byte :=
  start :: (inner ++ bytesOf 2 (crc16 inner).toNat)

/-- The bytes between start byte and CRC, when the start byte and the CRC agree. -/
def openFrame (start : Byte) (bs : List Byte) : Option (List Byte) :=
  match bs with
  | [] => none
  | b :: rest =>
    let inner := rest.take (rest.length - 2)
    if b = start ∧ 2 ≤ rest.length ∧ rest.drop (rest.length - 2) = bytesOf 2 (crc16 inner).toNat
    then some inner else none

/-! ### Supervisory frames (R178, Table 11-1) -/

/-- A supervisory frame on the wire: 0xA5, LEN, KIND, TAG, body, CRC-16. -/
def supervisoryWire (kind tag : Nat) (body : List Byte) : List Byte :=
  sealFrame 0xA5 (bytesOf 1 body.length ++ bytesOf 1 kind ++ bytesOf 1 tag ++ body)

/-- The KIND, TAG and body of a supervisory frame that passes R178, or none for one it discards. -/
def readSupervisory (bs : List Byte) : Option (Nat × Nat × List Byte) :=
  match openFrame 0xA5 bs with
  | some (len :: kind :: tag :: body) =>
    if len.toNat = body.length ∧ body.length ≤ 250 then some (kind.toNat, tag.toNat, body) else none
  | _ => none

/-- The request a received frame carries (Table 11-2): `unknown` when its KIND is no request code, `badFormat` when
its body length is not that of its kind (R181). A part number is read in one byte, which Table 11-4 does not name: DESIGN CHOICE,
unsafe for the length of those three bodies (notes/assumptions/7.md). -/
def parseRequest (kind : Nat) (body : List Byte) : Request :=
  match kind with
  | 0x01 => match splitBody [3] body with
    | some [t] => .clock t
    | _ => .badFormat kind
  | 0x02 => match splitBody [1, 1, 2, 2, 2, 2, 1, 1] body with
    | some [n, c, k, f, b, d, m, o] => .stnDef ⟨n, c, k, f, b, d, m, o⟩
    | _ => .badFormat kind
  | 0x03 => match splitBody [1] body with
    | some [n] => .stnDrop n
    | _ => .badFormat kind
  | 0x04 => match splitBody [1, 1, 1, 1, 2, 2, 2, 2, 2] body with
    | some [b, e, lo, hi, fl, rs, rt, wt, rp] => .brDef ⟨b, e, lo, hi, fl, rs, rt, wt, rp⟩
    | _ => .badFormat kind
  | 0x05 => match splitBody [1, 1] body with
    | some [lo, hi] => .isolate lo hi
    | _ => .badFormat kind
  | 0x06 => match splitBody [1, 2, 2, 2, 2, 2] body with
    | some [u, r, a, b, c, d] => .chDef ⟨u, ⟨r, a, b, c, d⟩⟩
    | _ => .badFormat kind
  | 0x07 => match splitBody [1, 1] body with
    | some [u, c] => .chCmd u c
    | _ => .badFormat kind
  | 0x08 => match splitBody [2, 2, 2, 2, 4, 2, 4, 4, 2] body with
    | some [m, q, d, h, tc, md, rl, rh, cs] => .plantDef ⟨m, q, d, h, tc, md, rl, rh, cs⟩
    | _ => .badFormat kind
  | 0x09 => match splitBody [1, 1] body with
    | some [a, b] => .schedWin a b
    | _ => .badFormat kind
  | 0x0A => match body with
    | flag :: count :: rest =>
      if 1 ≤ count.toNat ∧ count.toNat ≤ 24 ∧ rest.length = 3 * count.toNat then
        .schedData flag.toNat (slots count.toNat rest)
      else .badFormat kind
    | _ => .badFormat kind
  | 0x0B => match splitBody [1, 1, 1, 1, 2, 2, 2, 2] body with
    | some [p, s, a, f, rd, fr, si, sp] => .refDef ⟨p, s, a, f, rd, fr, si, sp⟩
    | _ => .badFormat kind
  | 0x0C => match splitBody [2, 2, 2, 2, 2, 2] body with
    | some [db, iv, g, ms, lo, hi] => .pumpDef ⟨db, iv, g, ms, lo, hi⟩
    | _ => .badFormat kind
  | 0x0D => match splitBody [1] body with
    | some [b] => .brRest b
    | _ => .badFormat kind
  | 0x0E => match splitBody [1] body with
    | some [b] => .brWake b
    | _ => .badFormat kind
  | 0x0F => match splitBody [1] body with
    | some [n] => .meter n
    | _ => .badFormat kind
  | 0x10 => match splitBody [1] body with
    | some [n] => .getStn n
    | _ => .badFormat kind
  | 0x11 => match splitBody [1, 1] body with
    | some [b, p] => .getBr b p
    | _ => .badFormat kind
  | 0x12 => match splitBody [1] body with
    | some [p] => .getPlant p
    | _ => .badFormat kind
  | 0x13 => if body.isEmpty then .getRef else .badFormat kind
  | 0x14 => match splitBody [1] body with
    | some [p] => .getFaults p
    | _ => .badFormat kind
  | 0x15 => match splitBody [1, 1] body with
    | some [k, s] => .faultAck k s
    | _ => .badFormat kind
  | 0x16 => match splitBody [2] body with
    | some [m] => .faultMask m
    | _ => .badFormat kind
  | 0x17 => if body.isEmpty then .save else .badFormat kind
  | 0x18 => if body.isEmpty then .restart else .badFormat kind
  | _ => .unknown kind
where
  /-- The slot records of a SCHED-DATA body: a mode code and a kW figure each. -/
  slots : Nat → List Byte → List SlotFields
    | 0, _ => []
    | n + 1, bs => ⟨ofBytes (bs.take 1), ofBytes ((bs.drop 1).take 2)⟩ :: slots n (bs.drop 3)

/-- The KIND code of a request (Table 11-2). -/
def Request.kindCode : Request → Nat
  | .clock _ => 0x01
  | .stnDef _ => 0x02
  | .stnDrop _ => 0x03
  | .brDef _ => 0x04
  | .isolate _ _ => 0x05
  | .chDef _ => 0x06
  | .chCmd _ _ => 0x07
  | .plantDef _ => 0x08
  | .schedWin _ _ => 0x09
  | .schedData _ _ => 0x0A
  | .refDef _ => 0x0B
  | .pumpDef _ => 0x0C
  | .brRest _ => 0x0D
  | .brWake _ => 0x0E
  | .meter _ => 0x0F
  | .getStn _ => 0x10
  | .getBr _ _ => 0x11
  | .getPlant _ => 0x12
  | .getRef => 0x13
  | .getFaults _ => 0x14
  | .faultAck _ _ => 0x15
  | .faultMask _ => 0x16
  | .save => 0x17
  | .restart => 0x18
  | .unknown k => k
  | .badFormat k => k

/-- The fields of a PLANT-DEF, in the order of Table 11-2. -/
def PlantSettings.fields (p : PlantSettings) : List Field :=
  [⟨2, p.margin⟩, ⟨2, p.quantum⟩, ⟨2, p.dtFloor⟩, ⟨2, p.lostHold⟩, ⟨4, p.tankCapacity⟩,
   ⟨2, p.maxDischarge⟩, ⟨4, p.reserveLow⟩, ⟨4, p.reserveHigh⟩, ⟨2, p.chargeStep⟩]

/-- The fields of a PUMP-DEF, in the order of Table 9-3. -/
def PumpSettings.fields (p : PumpSettings) : List Field :=
  [⟨2, p.deadband⟩, ⟨2, p.interval⟩, ⟨2, p.gain⟩, ⟨2, p.maxStep⟩, ⟨2, p.minSpeed⟩, ⟨2, p.maxSpeed⟩]

/-- The body of a request frame (Table 11-2, Table 11-4). A request that names no kind has none of its own. -/
def Request.fields : Request → List Field
  | .clock t => [⟨3, t⟩]
  | .stnDef f => [⟨1, f.station⟩, ⟨1, f.cls⟩, ⟨2, f.contractKw⟩, ⟨2, f.floorKw⟩, ⟨2, f.fallbackKw⟩,
      ⟨2, f.designDt⟩, ⟨1, f.dtMode⟩, ⟨1, f.offered⟩]
  | .stnDrop n => [⟨1, n⟩]
  | .brDef f => [⟨1, f.branch⟩, ⟨1, f.enabled⟩, ⟨1, f.base⟩, ⟨1, f.limit⟩, ⟨2, f.flowLimit⟩,
      ⟨2, f.rampStep⟩, ⟨2, f.restThreshold⟩, ⟨2, f.wakeTime⟩, ⟨2, f.restPoll⟩]
  | .isolate lo hi => [⟨1, lo⟩, ⟨1, hi⟩]
  | .chDef f => [⟨1, f.unit⟩, ⟨2, f.settings.ratedKw⟩, ⟨2, f.settings.minRun⟩, ⟨2, f.settings.minOff⟩,
      ⟨2, f.settings.startConfirm⟩, ⟨2, f.settings.stopConfirm⟩]
  | .chCmd u c => [⟨1, u⟩, ⟨1, c⟩]
  | .plantDef p => p.fields
  | .schedWin a b => [⟨1, a⟩, ⟨1, b⟩]
  | .schedData flag rs => ⟨1, flag⟩ :: ⟨1, rs.length⟩ :: rs.flatMap (fun r => [⟨1, r.mode⟩, ⟨2, r.kw⟩])
  | .refDef f => [⟨1, f.primary⟩, ⟨1, f.secondary⟩, ⟨1, f.autoSwitch⟩, ⟨1, f.fallback⟩,
      ⟨2, f.revertDelay⟩, ⟨2, f.freshness⟩, ⟨2, f.indexSetpoint⟩, ⟨2, f.plantSetpoint⟩]
  | .pumpDef p => p.fields
  | .brRest b => [⟨1, b⟩]
  | .brWake b => [⟨1, b⟩]
  | .meter n => [⟨1, n⟩]
  | .getStn n => [⟨1, n⟩]
  | .getBr b p => [⟨1, b⟩, ⟨1, p⟩]
  | .getPlant p => [⟨1, p⟩]
  | .getRef => []
  | .getFaults p => [⟨1, p⟩]
  | .faultAck k s => [⟨1, k⟩, ⟨1, s⟩]
  | .faultMask m => [⟨2, m⟩]
  | .save => []
  | .restart => []
  | .unknown _ => []
  | .badFormat _ => []

/-- A request frame's body as it is sent. -/
def encodeRequest (r : Request) : List Byte := encodeBody r.fields

/-! ### Outgoing supervisory frames (Tables 11-2 and 11-3, R183) -/

/-- Fault kind codes run CHILLER_TRIP 0 to CONFIG_LOST 9 (R182). -/
def FaultKind.code : FaultKind → Nat
  | .chillerTrip => 0
  | .startFailed => 1
  | .stopFailed => 2
  | .deviceSilent => 3
  | .stationLost => 4
  | .firmCut => 5
  | .indexLost => 6
  | .storageReserve => 7
  | .linkOverrun => 8
  | .configLost => 9

/-- Refusal reason codes (Table 11-3). -/
def Reason.code : Reason → Nat
  | .unknown => 1
  | .format => 2
  | .range => 3
  | .state => 4
  | .busy => 5
  | .overlap => 6
  | .capability => 7
  | .sequence => 8
  | .storeFailed => 9

/-- The KIND code of a reply (Table 11-2). -/
def Reply.kindCode : Reply → Nat
  | .done _ => 0x81
  | .data _ => 0x82
  | .taken => 0x83
  | .refused _ => 0x84

/-- The body of a reply. -/
def Reply.fields : Reply → List Field
  | .done fs => fs
  | .data fs => fs
  | .taken => []
  | .refused r => [⟨1, r.code⟩]

/-- The KIND code of a notice (Table 11-2). -/
def Notice.kindCode : Notice → Nat
  | .hello _ _ => 0xC1
  | .fault _ _ _ _ => 0xC2
  | .meterDone _ _ _ => 0xC3

/-- The outcome code of a METER-DONE (R183). -/
def MeterOutcome.code : MeterOutcome → Nat
  | .data _ _ => 0
  | .lost => 1
  | .isolated => 2
  | .dropped => 3
  | .noReply => 4

/-- The body of a notice (R183); with any outcome other than data, energy and volume are 0xFFFFFFFF. -/
def Notice.fields : Notice → List Field
  | .hello warm source => [⟨1, warm.toNat⟩, ⟨1, match source with | .stored => 0 | .defaults => 1⟩]
  | .fault k subj seen active => [⟨1, k.code⟩, ⟨1, subj⟩, ⟨3, seen.getD 0xFFFFFF⟩, ⟨1, active.toNat⟩]
  | .meterDone tag n o =>
    [⟨1, tag⟩, ⟨1, n.val⟩, ⟨1, o.code⟩] ++
      match o with
      | .data e v => [⟨4, e⟩, ⟨4, v⟩]
      | _ => [⟨4, 0xFFFFFFFF⟩, ⟨4, 0xFFFFFFFF⟩]

/-- An outgoing frame on the wire: a reply carries the TAG of its request, a notice TAG 0 (R180). -/
def OutFrame.wire : OutFrame → List Byte
  | .reply tag r => supervisoryWire r.kindCode tag (encodeBody r.fields)
  | .notice n => supervisoryWire n.kindCode 0 (encodeBody n.fields)

/-! ### Station frames (R122, Tables 7-2 and 7-3) -/

/-- A station frame on the wire: 0x5A, address, kind, sequence, length, body, CRC-16. -/
def fieldWire (f : FieldFrame) : List Byte :=
  sealFrame 0x5A (bytesOf 1 f.address ++ bytesOf 1 f.kind ++ bytesOf 1 f.seq ++ bytesOf 1 f.body.length ++ f.body)

/-- The frame of station bytes that passes R123, or none for one discarded as bad. -/
def readField (bs : List Byte) : Option FieldFrame :=
  match openFrame 0x5A bs with
  | some (address :: kind :: seq :: len :: body) =>
    if len.toNat = body.length ∧ body.length ≤ 32 then
      some ⟨address.toNat, kind.toNat, seq.toNat, body⟩ else none
  | _ => none

/-- The frame a transaction sends (Table 7-3): the sequence byte is the cap sequence in a CAP and 0 otherwise. -/
def Txn.frame (t : Txn) : FieldFrame :=
  match t.kind with
  | .poll => ⟨t.station.val, 0x11, 0, []⟩
  | .probe => ⟨t.station.val, 0x12, 0, []⟩
  | .cap seq flow grant => ⟨t.station.val, 0x13, seq, bytesOf 2 flow ++ bytesOf 2 grant⟩
  | .restOffer => ⟨t.station.val, 0x14, 0, []⟩
  | .wake => ⟨t.station.val, 0x15, 0, []⟩
  | .meterAsk => ⟨t.station.val, 0x16, 0, []⟩

/-- The reply a station frame carries, or none when its kind is no reply kind or its length is not the length
Table 7-3 gives. Bits of the flags byte not named in the table are disregarded. -/
def parseReply (f : FieldFrame) : Option FieldReply :=
  match f.kind with
  | 0x91 => match splitBody [2, 2, 2, 2, 1] f.body with
    | some [q, s, r, d, fl] => some (.report ⟨q, s, r, d, fl.testBit 0⟩)
    | _ => none
  | 0x92 => match splitBody [1, 2, 2, 1] f.body with
    | some [c, k, p, v] => some (.advertise c k p v)
    | _ => none
  | 0x93 => if f.body.isEmpty then some (.capAck f.seq) else none
  | 0x94 => match splitBody [1] f.body with
    | some [a] => some (.restAnswer a)
    | _ => none
  | 0x95 => if f.body.isEmpty then some .wakeAck else none
  | 0x96 => match splitBody [4, 4] f.body with
    | some [e, v] => some (.meterData e v)
    | _ => none
  | _ => none

/-- A reply as a station sends it, the other way round. -/
def FieldReply.frame (address : Nat) : FieldReply → FieldFrame
  | .report f => ⟨address, 0x91, 0,
      encodeBody [⟨2, f.requestKw⟩, ⟨2, f.supply⟩, ⟨2, f.ret⟩, ⟨2, f.indexDp⟩, ⟨1, f.standalone.toNat⟩]⟩
  | .advertise c k p v => ⟨address, 0x92, 0, encodeBody [⟨1, c⟩, ⟨2, k⟩, ⟨2, p⟩, ⟨1, v⟩]⟩
  | .capAck seq => ⟨address, 0x93, seq, []⟩
  | .restAnswer a => ⟨address, 0x94, 0, encodeBody [⟨1, a⟩]⟩
  | .wakeAck => ⟨address, 0x95, 0, []⟩
  | .meterData e v => ⟨address, 0x96, 0, encodeBody [⟨4, e⟩, ⟨4, v⟩]⟩

end Machine

end Sys2Proof
end

