-- ==== Sys2Proof/Config.lean ====
section
/-!
DEFINITION. What the manual leaves free. `freeImage n` is what the n-th write of the stored image that did not
complete (a SAVE whose read-back disagreed, or one cut short by a cold start or a loss of power) left in
non-volatile memory: R184 says only that it is "whatever the write left", which the next cold start judges by its
CRC. It has no body, so nothing can be proved of its value; `none` is an image whose CRC does not agree.
The argument is the plain counter `State.freeCount`, so each such write leaves an image of its own
(DESIGN CHOICE, safe: notes/assumptions/6.md).
-/

namespace Sys2Proof

/-- The image an incomplete write leaves behind (R184): unconstrained. -/
opaque Config.freeImage : Nat → Option Machine.Image

end Sys2Proof
end

