-- ==== Sys2Proof/Machine/State.lean ====
section
/-!
DEFINITION. The state of the part, its stops, and the state after reset.
Each field names the rule that gives it. Quantities the manual calls derived (the contributions of R28, ΔT_eff of
R58, grant caps and cap sums of R64, committed draws of R72, the headroom of R73, candidate validity of R158) are
functions of the state in the files beside this one, and are stored nowhere. The fields that are the model's own are a
DESIGN CHOICE, safe (notes/assumptions/15.md).
-/

namespace Sys2Proof.Machine

/-- No command of this part stops the machine: every event the table lists has an effect that the manual gives,
so there is no fault reason. -/
inductive Fault where
  deriving DecidableEq, Repr

/-- Why the model gives a command no meaning. -/
inductive Refusal where
  /-- Raised by `exec` alone, in the arm of a command that has no meaning yet. Safe: nothing is claimed of such a
  command. No arm raises it at present. -/
  | notModelled (mnemonic : String)
  deriving DecidableEq, Repr

/-- The whole state of the 4806. -/
structure State where
  /-- Whether the card has power (R175, R185). -/
  powered : Bool
  /-- The 48 station records (R1). -/
  stations : Vector Station 48
  /-- The isolation range, or none (R120). -/
  isolation : Option Range
  /-- The eight chiller records (R28). -/
  chillers : Vector Chiller 8
  /-- The tank's condition (R35). -/
  tank : Tank
  /-- The pump group's reported condition (R38). -/
  pumpGroup : PumpGroup
  /-- The plant DP with its age, or absent (R25, R38). -/
  plantDp : Option DpReading
  /-- The freshness watches of the plant bus addresses (R26). -/
  watches : Vector Watch 11
  /-- The settings of PLANT-DEF (R13, R35, R39, R49, R57, R76). -/
  plant : PlantSettings
  /-- Allocatable capacity A (R39). -/
  capacity : Nat
  /-- The time of day in seconds, or unset (R43). -/
  clock : Option Nat
  /-- The 96 schedule slot records (R45). -/
  schedule : Vector SlotRecord 96
  /-- The storage discharge contribution S_dis (R46). -/
  storageDischarge : Nat
  /-- The charge allowance (R47). -/
  chargeAllowance : Nat
  /-- The last tank command, or none (R49, R50). -/
  lastTankCommand : Option TankCommand
  /-- The schedule load session, open or closed (R51, R52). -/
  session : Option LoadSession
  /-- Pointers and FLEX snapshot of the allocator (Tables 5-1, 6-1). -/
  allocator : Allocator
  /-- The six branch link controllers (R116, R139, R142). -/
  branches : Vector Branch 6
  /-- The pressure reference unit (Section 9). -/
  pressure : PressureUnit
  /-- The fault list and the alert relay (Section 10). -/
  faults : FaultList
  /-- The supervisory link (Section 11). -/
  link : Link
  /-- The stored configuration image, absent when its CRC does not agree (R184). -/
  stored : Option Image
  /-- The model's own: the commands put on the plant bus so far, in order of issue (R27). -/
  busSent : List BusCommand
  /-- The model's own: how many free values have been used (`Config.freeImage`). -/
  freeCount : Nat
  /-- The model's own: the commands that wait, first in first out. -/
  pending : List Instr
  deriving DecidableEq, Repr

/-! ### Start-up values -/

/-- A VACANT record (R1): every field reads 0, absent or no (DESIGN CHOICE, unsafe: notes/assumptions/24.md). -/
def Station.vacantRecord : Station where
  state := .vacant
  host := ⟨.firm, 0, 0, 0, 0, .enforced, ⟨false, false, false, false⟩⟩
  advert := none
  requestKw := 0
  clamped := false
  supply := none
  ret := none
  measuredDt := none
  dtHold := 0
  indexDp := none
  grantKw := 0
  grantDt := 0
  confirmedKw := 0
  confirmedFlow := 0
  confirmedDt := 0
  missCount := 0
  nextSeq := 0
  debounce := 0
  hold := none
  boundCount := 0
  standing := .uninvolved
  sincePoll := none

/-- The settings every block takes when the stored image is bad (R40, R45, R57, R76, R13, R139, R156, R157,
R174, R185). -/
def Image.defaults : Image where
  stations := Vector.replicate 48 none
  branches := Vector.replicate 6 ⟨none, 0, 0, 0, 60, 30⟩
  chillers := Vector.replicate 8 ⟨0, 600, 900, 300, 600⟩
  plant := ⟨0, 250, 30, 600, 0, 0, 0, 1, 100⟩
  ref := ⟨none, none, false, .plant, 60, 15, 800, 1500⟩
  pump := ⟨20, 5, 100, 20, 300, 1000⟩
  isolation := none
  schedule := Vector.replicate 96 ⟨.hold, 0⟩
  mask := 0

/-- A branch link controller after a start, with its settings (R139, R142). -/
def Branch.fresh (settings : BranchSettings) : Branch where
  settings := settings
  queue := []
  read := none
  txn := none
  rotPos := match settings.window with
    | some w => w.base
    | none => 0
  rotCount := 0
  rotSent := false
  rotDemand := false
  capsInRow := 0
  rest := .live
  idleCount := 0
  wakeTimer := none
  badFrames := 0
  protocolErrors := 0

/-- A chiller record after a cold start, with its settings (R40). -/
def Chiller.fresh (settings : ChillerSettings) : Chiller where
  settings := settings
  state := .unknown
  available := none
  minRunTimer := none
  minOffTimer := none
  confirmTimer := none

/-- The allocator's pointers and snapshot after a start (R97). -/
def Allocator.fresh : Allocator where
  firmPtr := 0
  flexPtr := 0
  flexSnapshot := []
  flexShedPtr := 47
  firmShedPtr := 47

/-- The part right after reset: the cold start of a card whose memory holds no good image, as a new card's does
(R185, and step 1 of the commissioning procedure, 11.9). HELLO COLD with source DEFAULTS is on the line, and the
FAULT notice of CONFIG_LOST waits behind it (R177). DESIGN CHOICE, unsafe for a run from reset (notes/assumptions/5.md). -/
def State.reset : State where
  powered := true
  stations := Vector.replicate 48 Station.vacantRecord
  isolation := none
  chillers := Vector.replicate 8 (Chiller.fresh ⟨0, 600, 900, 300, 600⟩)
  tank := ⟨none, none, none, false⟩
  pumpGroup := ⟨false, none⟩
  plantDp := none
  watches := Vector.replicate 11 ⟨false, 0⟩
  plant := Image.defaults.plant
  capacity := 0
  clock := none
  schedule := Image.defaults.schedule
  storageDischarge := 0
  chargeAllowance := 0
  lastTankCommand := none
  session := none
  allocator := Allocator.fresh
  branches := Vector.replicate 6 (Branch.fresh ⟨none, 0, 0, 0, 60, 30⟩)
  pressure :=
    { ref := Image.defaults.ref
      pump := Image.defaults.pump
      source := .hold
      revertTimer := none
      trimTimer := 5
      speed := none
      lastTrim := none }
  faults :=
    { entries := [⟨.configLost, 0, none, 1, false, false⟩]
      overflowCount := 0
      overflowUnacked := false
      mask := 0
      relayClosed := true }
  link :=
    { rx := []
      phase := .idle
      sending := some (.notice (.hello false .defaults))
      waiting := [.notice (.fault .configLost 0 none false)]
      badFrames := 0
      gaps := 0
      overruns := 0
      noticeLosses := 0
      source := .defaults }
  stored := none
  busSent := []
  freeCount := 0
  pending := []

end Sys2Proof.Machine
end

