-- ==== Sys2Proof/Machine/Ops.lean ====
section
/-!
DEFINITION. The named operations over the state that every block uses: reading and writing one record, windows and
routing (R6, R116), saturating counts, timers, the commands on the plant bus (R27) and the outgoing frames of the
supervisory link (R180).
-/

namespace Sys2Proof.Machine

/-! ### Numbering (Table 1-5) -/

/-- Station numbers, ascending. -/
def allStations : List (Fin 48) := List.finRange 48

/-- Branch numbers, ascending. -/
def allBranches : List (Fin 6) := List.finRange 6

/-- Chiller units, ascending. -/
def allUnits : List (Fin 8) := List.finRange 8

/-- Plant bus addresses, ascending. -/
def allAddresses : List (Fin 11) := List.finRange 11

/-- Station numbers from `p` up to 47, then on from 0 to the one before `p` (R80, R84). -/
def ascendFrom (p : Fin 48) : List (Fin 48) :=
  allStations.filter (fun n => decide (p ≤ n)) ++ allStations.filter (fun n => decide (n < p))

/-- Station numbers from `p` down to 0, then on from 47 down to the one after `p` (R101). -/
def descendFrom (p : Fin 48) : List (Fin 48) := (ascendFrom (p + 1)).reverse

/-! ### Records -/

/-- The record of a station. -/
def State.stn (s : State) (n : Fin 48) : Station := s.stations[n.val]

/-- Writes the record of a station. -/
def State.setStn (s : State) (n : Fin 48) (r : Station) : State :=
  { s with stations := s.stations.set n.val r }

/-- Changes the record of a station. -/
def State.updStn (s : State) (n : Fin 48) (f : Station → Station) : State := s.setStn n (f (s.stn n))

/-- Changes every station record by its number. -/
def State.mapStn (s : State) (f : Fin 48 → Station → Station) : State :=
  { s with stations := Vector.ofFn fun n => f n (s.stn n) }

/-- The record of a branch link controller. -/
def State.br (s : State) (b : Fin 6) : Branch := s.branches[b.val]

/-- Writes the record of a branch link controller. -/
def State.setBr (s : State) (b : Fin 6) (r : Branch) : State :=
  { s with branches := s.branches.set b.val r }

/-- Changes the record of a branch link controller. -/
def State.updBr (s : State) (b : Fin 6) (f : Branch → Branch) : State := s.setBr b (f (s.br b))

/-- Changes every branch record. -/
def State.mapBr (s : State) (f : Branch → Branch) : State :=
  { s with branches := Vector.ofFn fun b => f (s.br b) }

/-- The record of a chiller. -/
def State.chiller (s : State) (u : Fin 8) : Chiller := s.chillers[u.val]

/-- Writes the record of a chiller. -/
def State.setChiller (s : State) (u : Fin 8) (c : Chiller) : State :=
  { s with chillers := s.chillers.set u.val c }

/-- The freshness watch of a plant bus address. -/
def State.watch (s : State) (a : Fin 11) : Watch := s.watches[a.val]

/-- Writes the freshness watch of a plant bus address. -/
def State.setWatch (s : State) (a : Fin 11) (w : Watch) : State :=
  { s with watches := s.watches.set a.val w }

/-- The schedule record of a slot. -/
def State.slot (s : State) (i : Fin 96) : SlotRecord := s.schedule[i.val]

/-! ### Windows and routing (R6, R116) -/

/-- Whether a range holds a station number. -/
def Range.holds (r : Range) (n : Nat) : Bool := decide (r.base ≤ n ∧ n ≤ r.limit)

/-- Whether a range, if there is one, holds a station number. -/
def rangeHolds (r : Option Range) (n : Nat) : Bool :=
  match r with
  | some r => r.holds n
  | none => false

/-- Whether a branch's enabled window holds a station number. -/
def State.inWindow (s : State) (b : Fin 6) (n : Fin 48) : Bool :=
  rangeHolds (s.br b).settings.window n.val

/-- The branch that serves a station number, or none while it lies outside every enabled window (R6). -/
def State.branchOf (s : State) (n : Fin 48) : Option (Fin 6) :=
  allBranches.find? fun b => s.inWindow b n

/-- The station numbers inside a branch's window, ascending. -/
def State.windowStations (s : State) (b : Fin 6) : List (Fin 48) :=
  allStations.filter (s.inWindow b)

/-- The ACTIVE stations of a branch's window, ascending. -/
def State.activeIn (s : State) (b : Fin 6) : List (Fin 48) :=
  (s.windowStations b).filter fun n => decide ((s.stn n).state = .active)

/-- Whether a station's branch is LIVE; no while the station is unrouted. -/
def State.branchLive (s : State) (n : Fin 48) : Bool :=
  match s.branchOf n with
  | some b => decide ((s.br b).rest = .live)
  | none => false

/-! ### Counts and timers -/

/-- A count of 0 to 65535 that stays at 65535 once there (R82, R123, R170, R187). -/
def countUp (n : Nat) : Nat := min 65535 (n + 1)

/-- An age in seconds that stays at 65534 s once there (R20, R25). -/
def ageUp (r : DpReading) : DpReading := { r with age := min 65534 (r.age + 1) }

/-- A timer one second later; a running timer whose time is used up stands at 0 s until its expiry is taken. -/
def tickDown (t : Option Nat) : Option Nat := t.map (· - 1)

/-! ### The plant bus (R27) -/

/-- Puts a command on the plant bus, behind those already issued. -/
def State.bus (s : State) (c : BusCommand) : State := { s with busSent := s.busSent ++ [c] }

/-! ### Outgoing frames (R180) -/

/-- Whether an outgoing frame is a notice. -/
def OutFrame.isNotice : OutFrame → Bool
  | .notice _ => true
  | .reply _ _ => false

/-- The notices that wait to be sent. -/
def Link.waitingNotices (l : Link) : List OutFrame := l.waiting.filter OutFrame.isNotice

/-- Issues a frame: it goes on the line when the transmitter is free, and otherwise waits in order of issue. -/
def Link.issue (l : Link) (f : OutFrame) : Link :=
  match l.sending with
  | none => { l with sending := some f }
  | some _ => { l with waiting := l.waiting ++ [f] }

/-- Issues a notice. One issued while 16 wait displaces the oldest waiting notice, and the notice-loss count rises. -/
def Link.issueNotice (l : Link) (n : Notice) : Link :=
  if l.sending.isSome && decide (16 ≤ l.waitingNotices.length) then
    { l with
      waiting := l.waiting.eraseP OutFrame.isNotice ++ [.notice n]
      noticeLosses := countUp l.noticeLosses }
  else l.issue (.notice n)

/-- Issues a notice on the supervisory link. -/
def State.notify (s : State) (n : Notice) : State := { s with link := s.link.issueNotice n }

/-! ### Events -/

/-- An event being handled: the state so far, and whether it has called for a grant pass (R77). -/
structure Event where
  st : State
  pass : Bool
  deriving DecidableEq, Repr

/-- The same event with its state changed. -/
def Event.map (e : Event) (f : State → State) : Event := { e with st := f e.st }

/-- The event calls for a grant pass when the condition holds (R77). -/
def Event.callPass (e : Event) (c : Bool) : Event := { e with pass := e.pass || c }

/-- An event begins, with nothing called for. -/
def State.event (s : State) : Event := ⟨s, false⟩

/-- A card without power does nothing: every event but a cold start leaves it as it is (DESIGN CHOICE, safe:
notes/assumptions/4.md). -/
def whilePowered (f : State → State) (s : State) : Host.Outcome State Fault Refusal :=
  .next (if s.powered then f s else s)

end Sys2Proof.Machine
end

