-- ==== Sys2Proof/Machine/Operands.lean ====
section
/-!
DEFINITION. The operands of requests and reports: what each code names, the ranges each owning rule checks, and how a
measurement field is read. Codes are numbered from 0 in the order in which the manual first lists the
values (R182); a yes/no flag is 1 for yes and 0 for no (DESIGN CHOICE, unsafe
for the bytes of a reply: notes/assumptions/7.md).
-/

namespace Sys2Proof.Machine

/-! ### Codes (R182) -/

/-- FIRM 0, FLEX 1. -/
def classOfCode : Nat → Option ContractClass
  | 0 => some .firm
  | 1 => some .flex
  | _ => none

/-- ENFORCED 0, TRACKING 1. -/
def dtModeOfCode : Nat → Option DtMode
  | 0 => some .enforced
  | 1 => some .tracking
  | _ => none

/-- A capability set as Table 7-3 numbers its bits, bits not named there disregarded. -/
def capsOfBits (n : Nat) : Caps := ⟨n.testBit 0, n.testBit 1, n.testBit 2, n.testBit 3⟩

/-- A capability code of STN-DEF: it names a set only when no bit beyond the four is set (R2). -/
def capsOfCode (n : Nat) : Option Caps := if n < 16 then some (capsOfBits n) else none

/-- A capability set as it is sent (Table 7-3). -/
def Caps.code (c : Caps) : Nat :=
  c.rest.toNat + 2 * c.track.toNat + 4 * c.meter.toNat + 8 * c.index.toNat

/-- HOLD 0, CHARGE 1, DISCHARGE 2; any other code names no mode (R54). -/
def tankModeOfCode : Nat → Option TankMode
  | 0 => some .hold
  | 1 => some .charge
  | 2 => some .discharge
  | _ => none

/-- A yes/no flag. -/
def flagOfCode : Nat → Option Bool
  | 0 => some false
  | 1 => some true
  | _ => none

/-- PLANT 0, HOLD 1. -/
def fallbackOfCode : Nat → Option Fallback
  | 0 => some .plant
  | 1 => some .hold
  | _ => none

/-- CHILLER_TRIP 0 to CONFIG_LOST 9. -/
def faultKindOfCode : Nat → Option FaultKind
  | 0 => some .chillerTrip
  | 1 => some .startFailed
  | 2 => some .stopFailed
  | 3 => some .deviceSilent
  | 4 => some .stationLost
  | 5 => some .firmCut
  | 6 => some .indexLost
  | 7 => some .storageReserve
  | 8 => some .linkOverrun
  | 9 => some .configLost
  | _ => none

/-- A station number of REF-DEF: 0 to 47, or 0xFF for none; anything else is out of range (R156). -/
def stationOrNone (n : Nat) : Option (Option (Fin 48)) :=
  if h : n < 48 then some (some ⟨n, h⟩) else if n = 0xFF then some none else none

/-! ### Numbers of records -/

/-- A station number, when it is one. -/
def stationOf (n : Nat) : Option (Fin 48) := if h : n < 48 then some ⟨n, h⟩ else none

/-- A branch number, when it is one. -/
def branchOfNumber (n : Nat) : Option (Fin 6) := if h : n < 6 then some ⟨n, h⟩ else none

/-- A chiller unit number, when it is one. -/
def unitOf (n : Nat) : Option (Fin 8) := if h : n < 8 then some ⟨n, h⟩ else none

/-- The plant bus address of a chiller unit (Table 1-5). -/
def chillerAddress (u : Fin 8) : Fin 11 := ⟨u.val, by omega⟩

/-- The plant bus address of the tank controller. -/
def tankAddress : Fin 11 := 8

/-- The plant bus address of the pump group. -/
def pumpAddress : Fin 11 := 9

/-- The plant bus address of the plant differential pressure transmitter. -/
def transmitterAddress : Fin 11 := 10

/-! ### Ranges -/

/-- `lo ≤ n ≤ hi`. -/
def within (lo n hi : Nat) : Bool := decide (lo ≤ n ∧ n ≤ hi)

/-- The ranges of the host-agreed fields of a station (R2, Table 1-10). -/
def HostFields.inRange (h : HostFields) : Bool :=
  within 1 h.contractKw 20000
    && decide (h.floorKw ≤ h.contractKw)
    && (decide (h.cls = .firm) || decide (h.floorKw = 0))
    && decide (h.fallbackKw ≤ h.contractKw)
    && within 30 h.designDt 150

/-- The host-agreed fields a STN-DEF carries, when its codes name defined values and its figures lie in range (R2). -/
def hostFieldsOf (f : StnDefFields) : Option HostFields :=
  match classOfCode f.cls, dtModeOfCode f.dtMode, capsOfCode f.offered with
  | some c, some m, some o =>
    let h : HostFields := ⟨c, f.contractKw, f.floorKw, f.fallbackKw, f.designDt, m, o⟩
    if h.inRange then some h else none
  | _, _, _ => none

/-- A window: base at or below limit, limit at most 47, at most 12 stations (R116). -/
def Range.isWindow (r : Range) : Bool :=
  decide (r.base ≤ r.limit) && decide (r.limit ≤ 47) && decide (r.limit - r.base + 1 ≤ 12)

/-- An isolation range: base at or below limit, limit at most 47 (R120). -/
def Range.isIsolation (r : Range) : Bool := decide (r.base ≤ r.limit) && decide (r.limit ≤ 47)

/-- Whether two ranges share a station number. -/
def Range.overlaps (a b : Range) : Bool := decide (a.base ≤ b.limit) && decide (b.base ≤ a.limit)

/-- Whether two windows, where there are two, share a station number. -/
def windowsOverlap (a b : Option Range) : Bool :=
  match a, b with
  | some x, some y => x.overlaps y
  | _, _ => false

/-- The ranges of the branch settings (Table 7-1). While the branch is disabled there is no base or limit to check
(DEDUCED, unsafe: notes/assumptions/9.md). -/
def BranchSettings.inRange (c : BranchSettings) : Bool :=
  (match c.window with
    | some w => w.isWindow
    | none => true)
    && decide (c.flowLimit ≤ 60000)
    && decide (c.rampStep ≤ 5000)
    && decide (c.restThreshold ≤ 255)
    && within 5 c.wakeTime 600
    && within 5 c.restPoll 120

/-- The branch settings a BR-DEF carries, when they lie in range (R117, check 1). -/
def branchSettingsOf (f : BrDefFields) : Option BranchSettings :=
  match flagOfCode f.enabled with
  | some e =>
    let c : BranchSettings :=
      ⟨if e then some ⟨f.base, f.limit⟩ else none, f.flowLimit, f.rampStep, f.restThreshold, f.wakeTime, f.restPoll⟩
    if c.inRange then some c else none
  | none => none

/-- The ranges of the chiller settings (Table 2-2). -/
def ChillerSettings.inRange (c : ChillerSettings) : Bool :=
  decide (c.ratedKw ≤ 20000)
    && within 60 c.minRun 3600
    && within 60 c.minOff 3600
    && within 60 c.startConfirm 900
    && within 60 c.stopConfirm 1800

/-- The ranges of the PLANT-DEF settings (R13, R35, R39, R49, R57, R76); the reserves are not checked while the
capacity is 0. -/
def PlantSettings.inRange (p : PlantSettings) : Bool :=
  decide (p.margin ≤ 20000)
    && within 10 p.quantum 2000
    && within 10 p.dtFloor 100
    && decide (p.lostHold ≤ 3600)
    && decide (p.tankCapacity ≤ 400000)
    && decide (p.maxDischarge ≤ 60000)
    && (decide (p.tankCapacity = 0)
      || (decide (p.reserveLow < p.reserveHigh) && decide (p.reserveHigh ≤ p.tankCapacity)))
    && within 10 p.chargeStep 2000

/-- The ranges of the index settings (R156, Table 9-2). -/
def RefSettings.inRange (r : RefSettings) : Bool :=
  (r.primary.isNone || decide (r.primary ≠ r.secondary))
    && decide (r.revertDelay ≤ 600)
    && within 5 r.freshness 60
    && within 200 r.indexSetpoint 3000
    && within 200 r.plantSetpoint 3000

/-- The index settings a REF-DEF carries, when they lie in range (R156). -/
def refSettingsOf (f : RefDefFields) : Option RefSettings :=
  match stationOrNone f.primary, stationOrNone f.secondary, flagOfCode f.autoSwitch, fallbackOfCode f.fallback with
  | some p, some q, some a, some fb =>
    let r : RefSettings := ⟨p, q, a, fb, f.revertDelay, f.freshness, f.indexSetpoint, f.plantSetpoint⟩
    if r.inRange then some r else none
  | _, _, _, _ => none

/-- The ranges of the trim settings (R157, Table 9-3). -/
def PumpSettings.inRange (p : PumpSettings) : Bool :=
  decide (p.deadband ≤ 200)
    && within 1 p.interval 60
    && within 1 p.gain 1000
    && within 1 p.maxStep 100
    && decide (p.minSpeed ≤ p.maxSpeed)
    && decide (p.maxSpeed ≤ 1000)

/-- The range of a stored slot record (R45). -/
def SlotRecord.inRange (r : SlotRecord) : Bool := decide (r.kw ≤ 60000)

/-- Whether two enabled windows of an image share a station number. -/
def Image.windowsClash (i : Image) : Bool :=
  allBranches.any fun a => allBranches.any fun b =>
    decide (a < b) && windowsOverlap i.branches[a.val].window i.branches[b.val].window

/-- The check of a stored image at cold start beyond its CRC: every setting in its range (R185), the windows not
overlapping among them (DEDUCED, safe: notes/assumptions/18.md). -/
def Image.inRange (i : Image) : Bool :=
  (allStations.all fun n => match i.stations[n.val] with
    | some h => h.inRange
    | none => true)
    && (allBranches.all fun b => i.branches[b.val].inRange)
    && !i.windowsClash
    && (allUnits.all fun u => i.chillers[u.val].inRange)
    && i.plant.inRange && i.ref.inRange && i.pump.inRange
    && (match i.isolation with
      | some r => r.isIsolation
      | none => true)
    && (i.schedule.toList.all SlotRecord.inRange)

/-! ### Measurements (R19, R20, R25) -/

/-- A measurement field taken up to `hi`: above it, 0xFFFF among the rest, it is absent. -/
def measured (hi v : Nat) : Option Nat := if v ≤ hi then some v else none

/-- A two-byte figure taken as sent, absent at 0xFFFF (R25). -/
def presentKw (v : Nat) : Option Nat := if v < 0xFFFF then some v else none

/-- A reported pump speed: 1001 to 65534 ‰ is recorded as 1000 ‰, 0xFFFF is absent (R25). -/
def pumpSpeedOf (v : Nat) : Option Nat := if v < 0xFFFF then some (min v 1000) else none

end Sys2Proof.Machine
end

