-- ==== Sys2Proof/Machine/FlowCap.lean ====
section
/-!
DEFINITION. Flow cap arithmetic (Section 4), and the figures worked out from a station's record whenever they are
needed: resolved caps (R8), ΔT_eff (R58), grant caps and cap sums (R64), branch room (R65), committed draw (R72) and
headroom (R73). Every product and sum is exact and every quotient is a whole-number division (R62).
-/

namespace Sys2Proof.Machine

/-! ### Conversions -/

/-- The flow cap of `k` kW at `d` dK: k × 100000 / (4186 × d), an exact half rounded up (R59). -/
def flowCap (k d : Nat) : Nat := (k * 100000 + 4186 * d / 2) / (4186 * d)

/-- The kW equivalent of `f` dL/s at `d` dK, rounded up and limited to 20000 kW (R61). -/
def kwEquivalent (f d : Nat) : Nat := min 20000 ((f * 4186 * d + 99999) / 100000)

/-- The kW of a flow rounded down (R65). -/
def kwRoom (r d : Nat) : Nat := r * 4186 * d / 100000

/-! ### Station figures -/

/-- The capabilities in both sets. -/
def Caps.inter (a b : Caps) : Caps :=
  ⟨a.rest && b.rest, a.track && b.track, a.meter && b.meter, a.index && b.index⟩

/-- The resolved caps: offered caps that are also advertised, empty while no advertisement is on record (R8). -/
def Station.resolved (r : Station) : Caps :=
  match r.advert with
  | some a => r.host.offered.inter a.caps
  | none => ⟨false, false, false, false⟩

/-- The standalone or fallback figure the controller assumes of a station it has not heard (R14, R16). -/
def Station.assumedKw (r : Station) : Nat :=
  match r.advert with
  | some a => a.standaloneKw
  | none => r.host.fallbackKw

/-- The record with its confirmed figures those of `k` kW at design_dt (R3, R14, R16, R21, R22). -/
def Station.confirmAtDesign (r : Station) (k : Nat) : Station :=
  { r with confirmedKw := k, confirmedFlow := flowCap k r.host.designDt, confirmedDt := r.host.designDt }

/-- The effective temperature difference under a given dt_floor (R58). -/
def Station.effectiveDt (r : Station) (dtFloor : Nat) : Nat :=
  match r.host.dtMode, r.resolved.track, r.measuredDt with
  | .tracking, true, some m => min (max m (min dtFloor r.host.designDt)) r.host.designDt
  | _, _, _ => r.host.designDt

/-- ΔT_eff of a station (R58). -/
def State.effectiveDt (s : State) (n : Fin 48) : Nat := (s.stn n).effectiveDt s.plant.dtFloor

/-- The flow cap of a station's grant at its grant ΔT (R64). -/
def Station.grantCap (r : Station) : Nat := flowCap r.grantKw r.grantDt

/-- The want of a station (R75). -/
def Station.want (r : Station) : Nat := r.requestKw - r.grantKw

/-- The committed draw of a station (R72, Table 5-2). -/
def Station.committed (r : Station) : Nat :=
  match r.state with
  | .active => max r.grantKw r.confirmedKw
  | .seeking => r.confirmedKw
  | .attaching => r.confirmedKw
  | .lost => r.confirmedKw
  | .isolated => 0
  | .vacant => 0

/-! ### Sums -/

/-- The sum of a figure over station numbers. -/
def sumOver (ns : List (Fin 48)) (f : Fin 48 → Nat) : Nat := (ns.map f).sum

/-- Σ grants. -/
def State.sumGrants (s : State) : Nat := sumOver allStations fun n => (s.stn n).grantKw

/-- Σ committed (R72). -/
def State.sumCommitted (s : State) : Nat := sumOver allStations fun n => (s.stn n).committed

/-- Headroom H = A − Σ committed (R73). -/
def State.headroom (s : State) : Int := (s.capacity : Int) - (s.sumCommitted : Int)

/-- A branch's cap sum: the grant caps of the stations inside its window (R64). -/
def State.capSum (s : State) (b : Fin 6) : Nat := sumOver (s.windowStations b) fun n => (s.stn n).grantCap

/-- The branch room of a station in kW (R65): the limit less the grant caps of the branch's other stations, as power
at the station's grant ΔT; 0 kW when that flow is 0 dL/s or less. -/
def State.room (s : State) (b : Fin 6) (n : Fin 48) : Nat :=
  let others := sumOver ((s.windowStations b).filter fun m => decide (m ≠ n)) fun m => (s.stn m).grantCap
  kwRoom ((s.br b).settings.flowLimit - others) (s.stn n).grantDt

/-- Whether a station is eligible for an offer, `bound` holding those found branch-bound in the pass (R75). -/
def State.eligible (s : State) (bound : List (Fin 48)) (n : Fin 48) : Bool :=
  decide ((s.stn n).state = .active) && s.branchLive n && decide (0 < (s.stn n).want) && !bound.contains n

end Sys2Proof.Machine
end

