-- ==== Sys2Proof/Machine/CapQueue.lean ====
section
/-!
DEFINITION. The cap queue of a branch (Section 7.7): queueing a cap change (R131), and what the sending, the miss and
the acknowledgement of a CAP do to the queue (R132 to R134).
-/

namespace Sys2Proof.Machine

/-- Whether an entry waits for a station: its own, and not in flight. -/
def CapEntry.waitsFor (e : CapEntry) (n : Fin 48) : Bool := decide (e.station = n) && e.flight.isNone

/-- Whether a queue holds any entry for a station. -/
def holdsEntry (q : List CapEntry) (n : Fin 48) : Bool := q.any fun e => decide (e.station = n)

/-- Whether a queue holds an entry for a station that is not in flight. -/
def holdsWaiting (q : List CapEntry) (n : Fin 48) : Bool := q.any fun e => e.waitsFor n

/-- A waiting entry that takes a change's figures: it keeps its place and its sequence (R131). Its dt used
is replaced too, where R63 leaves it (DEDUCED, unsafe: notes/assumptions/10.md). -/
def CapEntry.take (e : CapEntry) (grant flow dt : Nat) : CapEntry :=
  { e with targetGrant := grant, targetFlow := flow, dtUsed := dt }

/-- Appends a new entry at the tail of a branch's queue, with the station's next cap sequence, which then rises by one,
from 255 to 0 (R131). -/
def State.appendEntry (s : State) (b : Fin 6) (n : Fin 48) (grant flow dt : Nat) : State :=
  let seq := (s.stn n).nextSeq
  (s.updBr b fun c => { c with queue := c.queue ++ [⟨n, seq, grant, flow, dt, none⟩] }).updStn n
    fun r => { r with nextSeq := (seq + 1) % 256 }

/-- Queues a cap change in a branch (R131): in place where an entry of the station waits, at the tail otherwise. -/
def State.queueChange (s : State) (b : Fin 6) (n : Fin 48) (grant flow dt : Nat) : State :=
  if holdsWaiting (s.br b).queue n then
    s.updBr b fun c => { c with queue := c.queue.map fun e => if e.waitsFor n then e.take grant flow dt else e }
  else s.appendEntry b n grant flow dt

/-- Hands a station's grant to its branch link controller as a cap change: the grant, its cap at the grant ΔT, and
the grant ΔT as dt used (R88, R89, R111). An unrouted station has no branch link controller to take it. -/
def State.handGrant (s : State) (n : Fin 48) : State :=
  match s.branchOf n with
  | some b => s.queueChange b n (s.stn n).grantKw (s.stn n).grantCap (s.stn n).grantDt
  | none => s

/-- The flow a CAP sends for an entry: held to one ramp step above the confirmed flow on an increase (R132). -/
def flowToSend (target confirmed ramp : Nat) : Nat :=
  if confirmed < target ∧ 0 < ramp then min target (confirmed + ramp) else target

/-- The grant kW a CAP sends (R132): the target grant with the full target flow, and otherwise no more than the kW
equivalent of the flow sent. -/
def grantToSend (e : CapEntry) (flow : Nat) : Nat :=
  if flow = e.targetFlow then e.targetGrant else min e.targetGrant (kwEquivalent flow e.dtUsed)

/-- The head of a queue as its CAP goes out (R132), or goes out again (R133). -/
def CapEntry.launch (e : CapEntry) (confirmed ramp : Nat) : CapEntry :=
  match e.flight with
  | some f => { e with flight := some { f with attempts := f.attempts + 1 } }
  | none =>
    let flow := flowToSend e.targetFlow confirmed ramp
    { e with flight := some ⟨1, flow, grantToSend e flow⟩ }

/-- A CAP transaction has ended in a miss and its station is still ACTIVE (R133): below three attempts the entry
stays at the head to be resent; at three it is removed, a new entry with the present grant is appended when the
station has no other, and the protocol-error count rises. -/
def State.missCap (s : State) (b : Fin 6) (n : Fin 48) : State :=
  match (s.br b).queue with
  | e :: rest =>
    match e.flight with
    | some f =>
      if e.station = n ∧ 3 ≤ f.attempts then
        let s := s.updBr b fun c => { c with queue := rest, protocolErrors := countUp c.protocolErrors }
        if holdsEntry rest n then s
        else s.appendEntry b n (s.stn n).grantKw (s.stn n).grantCap (s.stn n).grantDt
      else s
    | none => s
  | [] => s

/-- A valid CAP-ACK for the entry in flight (R134): the confirmed figures are written and the entry is removed; the
rest of a ramped delivery re-enters at the tail when the station has no other entry. -/
def State.confirmCap (s : State) (b : Fin 6) (n : Fin 48) : State :=
  match (s.br b).queue with
  | e :: rest =>
    match e.flight with
    | some f =>
      if e.station = n then
        let s := s.updBr b fun c => { c with queue := rest }
        let s := s.updStn n fun r =>
          { r with confirmedFlow := f.flowSent, confirmedDt := e.dtUsed, confirmedKw := f.grantSent }
        if f.flowSent < e.targetFlow ∧ ¬ holdsEntry rest n then
          s.appendEntry b n e.targetGrant e.targetFlow e.dtUsed
        else s
      else s
    | none => s
  | [] => s

end Sys2Proof.Machine
end

