-- ==== Sys2Proof/Machine/Flags.lean ====
section
/-!
DEFINITION. The fault list and its flags: raising, ending a condition, acknowledging, the mask and the alert
relay (Section 10: R170 to R176).
-/

namespace Sys2Proof.Machine

/-- The kinds that describe a condition that lasts (Table 10-1). -/
def FaultKind.lasting : FaultKind → Bool
  | .deviceSilent => true
  | .stationLost => true
  | .indexLost => true
  | .storageReserve => true
  | .chillerTrip => false
  | .startFailed => false
  | .stopFailed => false
  | .firmCut => false
  | .linkOverrun => false
  | .configLost => false

/-- Whether an entry is the one of a kind and subject. -/
def FaultEntry.names (e : FaultEntry) (k : FaultKind) (subject : Nat) : Bool :=
  decide (e.kind = k) && decide (e.subject = subject)

/-- Whether a kind is masked (R174). -/
def FaultList.masked (l : FaultList) (k : FaultKind) : Bool := l.mask.getLsbD k.code

/-- Whether the list holds an entry of a kind and subject. -/
def FaultList.holds (l : FaultList) (k : FaultKind) (subject : Nat) : Bool :=
  l.entries.any fun e => e.names k subject

/-- An entry after another raise of it (R171). -/
def FaultEntry.again (e : FaultEntry) : FaultEntry :=
  { e with count := min 255 (e.count + 1), acked := false, active := e.active || e.kind.lasting }

/-- A new entry (R171). -/
def FaultEntry.first (k : FaultKind) (subject : Nat) (clock : Option Nat) : FaultEntry :=
  ⟨k, subject, clock, 1, k.lasting, false⟩

/-- A raise that finds the entry of its kind and subject: the entry counts it (R171). -/
def FaultList.countAgain (l : FaultList) (k : FaultKind) (subject : Nat) : FaultList :=
  { l with entries := l.entries.map fun e => if e.names k subject then e.again else e }

/-- A raise that appends a new entry (R171). -/
def FaultList.append (l : FaultList) (e : FaultEntry) : FaultList :=
  { l with entries := l.entries ++ [e] }

/-- A raise that finds the list full (R171). -/
def FaultList.overflow (l : FaultList) : FaultList :=
  { l with overflowCount := countUp l.overflowCount, overflowUnacked := true }

/-- Raises a fault (R171), with its FAULT notice when a new entry of an unmasked kind is created (R176). -/
def State.raise (s : State) (k : FaultKind) (subject : Nat) : State :=
  if s.faults.holds k subject then
    { s with faults := s.faults.countAgain k subject }
  else if s.faults.entries.length < 32 then
    let s' := { s with faults := s.faults.append (FaultEntry.first k subject s.clock) }
    if s.faults.masked k then s' else s'.notify (.fault k subject s.clock k.lasting)
  else
    { s with faults := s.faults.overflow }

/-- Ends the active condition of every entry that meets `p`: an acknowledged one is removed, another stays, inactive
(R172). -/
def FaultList.endActive (l : FaultList) (p : FaultEntry → Bool) : FaultList :=
  { l with entries := l.entries.filterMap fun e =>
      if e.active && p e then (if e.acked then none else some { e with active := false }) else some e }

/-- Ends the active condition of the entry of a kind and subject. -/
def State.endCondition (s : State) (k : FaultKind) (subject : Nat) : State :=
  { s with faults := s.faults.endActive fun e => e.names k subject }

/-- Ends the active condition of every INDEX_LOST entry, whatever station it names (R164). -/
def State.endIndexLost (s : State) : State :=
  { s with faults := s.faults.endActive fun e => decide (e.kind = .indexLost) }

/-- Acknowledges every entry that meets `p`; one that is not active is removed at once (R173). -/
def FaultList.ack (l : FaultList) (p : FaultEntry → Bool) : FaultList :=
  { l with entries := l.entries.filterMap fun e =>
      if (p e) then (if e.active then some { e with acked := true } else none) else some e }

/-- Acknowledges every entry and the overflow, whose count becomes 0 (R173). -/
def FaultList.ackAll (l : FaultList) : FaultList :=
  { l.ack (fun _ => true) with overflowUnacked := false, overflowCount := 0 }

/-- Whether an unacknowledged entry of an unmasked kind, or an unacknowledged overflow, exists (R175). -/
def FaultList.alarm (l : FaultList) : Bool :=
  l.entries.any (fun e => !e.acked && !l.masked e.kind) || l.overflowUnacked

/-- The relay judged afresh, at the end of an event (R175). -/
def State.judgeRelay (s : State) : State :=
  { s with faults := { s.faults with relayClosed := s.faults.alarm } }

/-! ### Front indicators (00_scope.md, Table 1-3) -/

/-- The RUN indicator: lit for as long as the card stays powered after its HELLO COLD. -/
def State.runIndicator (s : State) : Bool := s.powered

/-- The ALERT indicator follows the alert relay (R175). -/
def State.alertIndicator (s : State) : Bool := s.faults.relayClosed

end Sys2Proof.Machine
end

