-- ==== Sys2Proof/Machine/Allocation.lean ====
section
/-!
DEFINITION. The capacity allocator: grant passes (Section 5), sheds (Section 6), and what it does at the end of an
event (R78): branch sheds, capacity shed, pass, and the cap changes they hand on.
-/

namespace Sys2Proof.Machine

/-! ### The working state of a pass and of a shed -/

/-- A pass in progress: the state so far, the running headroom, the bound set, and the stations whose grant the
event has changed, in the order of their first change (R79, R88). -/
structure PassWork where
  st : State
  h : Int
  bound : List (Fin 48)
  changed : List (Fin 48)
  deriving DecidableEq, Repr

/-- A shed in progress: the state so far, the stations whose grant the event has changed, in the order of their first
change, the last station the present stage cut, and those this shed has cut in stage 3 (R100, R103, R107). -/
structure ShedWork where
  st : State
  changed : List (Fin 48)
  last : Option (Fin 48)
  belowFloor : List (Fin 48)
  deriving DecidableEq, Repr

/-- Adds a station to a list of first changes, unless it is there already. -/
def noteChange (l : List (Fin 48)) (n : Fin 48) : List (Fin 48) := if l.contains n then l else l ++ [n]

/-! ### Grant passes -/

/-- The amount an offer gives, before branch room (R81, step 1). -/
def offered (quantum want : Nat) (h : Int) : Nat := min (min quantum want) h.toNat

/-- The amount given to a station at an offer (R81): nothing when its room is at or below its grant. -/
def State.given (s : State) (b : Fin 6) (n : Fin 48) (h : Int) : Nat :=
  min (offered s.plant.quantum (s.stn n).want h) (s.room b n - (s.stn n).grantKw)

/-- An offer to a station (R81, R82), and whether it gave an amount. A station whose room is at or below its grant
is found branch-bound; otherwise its grant rises, and the running headroom falls by the rise of its committed
draw. -/
def PassWork.offer (w : PassWork) (n : Fin 48) : PassWork × Bool :=
  match w.st.branchOf n with
  | none => (w, false)
  | some b =>
    let r := w.st.stn n
    if w.st.room b n ≤ r.grantKw then
      ({ w with
          st := w.st.setStn n { r with boundCount := countUp r.boundCount }
          bound := n :: w.bound }, false)
    else
      let r' := { r with grantKw := r.grantKw + w.st.given b n w.h }
      ({ w with
          st := w.st.setStn n r'
          h := w.h - ((r'.committed : Int) - (r.committed : Int))
          changed := noteChange w.changed n }, true)

/-- The offers of a FIRM snapshot in list order, each station judged eligible again, until the headroom is used up;
with the last station given an amount (R80, R83, R87). -/
def firmOffers : List (Fin 48) → PassWork → Option (Fin 48) → PassWork × Option (Fin 48)
  | [], w, given => (w, given)
  | n :: ns, w, given =>
    if w.h ≤ 0 then (w, given)
    else if w.st.eligible w.bound n then
      let o := w.offer n
      firmOffers ns o.1 (if o.2 then some n else given)
    else firmOffers ns w given

/-- The eligible stations of a class, from a pointer upwards (R80, R84). -/
def PassWork.snapshot (w : PassWork) (c : ContractClass) (p : Fin 48) : List (Fin 48) :=
  (ascendFrom p).filter fun n => decide ((w.st.stn n).host.cls = c) && w.st.eligible w.bound n

/-- The FIRM part of a round: the snapshot, its offers, and the FIRM pointer moved past the last station given
(R80, R83). -/
def PassWork.firmPart (w : PassWork) : PassWork :=
  let o := firmOffers (w.snapshot .firm w.st.allocator.firmPtr) w none
  match o.2 with
  | some n => { o.1 with st := { o.1.st with allocator := { o.1.st.allocator with firmPtr := n + 1 } } }
  | none => o.1

/-- Puts a FLEX snapshot in place. -/
def PassWork.setFlex (w : PassWork) (l : List (Fin 48)) : PassWork :=
  { w with st := { w.st with allocator := { w.st.allocator with flexSnapshot := l } } }

/-- Takes a new FLEX snapshot when the one held is empty (R84). -/
def PassWork.takeFlex (w : PassWork) : PassWork :=
  if w.st.allocator.flexSnapshot.isEmpty then w.setFlex (w.snapshot .flex w.st.allocator.flexPtr) else w

/-- Discards from the front of the FLEX snapshot the stations that are not eligible (R85, step 2). -/
def PassWork.dropFlex (w : PassWork) : PassWork :=
  w.setFlex (w.st.allocator.flexSnapshot.dropWhile fun n => !w.st.eligible w.bound n)

/-- The FLEX step of a round (R85): one station of the snapshot is served, by an amount or by being found
branch-bound, and the FLEX pointer moves past it. -/
def PassWork.flexStep (w : PassWork) : PassWork :=
  let w := w.takeFlex.dropFlex.takeFlex
  match w.st.allocator.flexSnapshot with
  | [] => w
  | n :: rest =>
    let w := (w.setFlex rest).offer n
    { w.1 with st := { w.1.st with allocator := { w.1.st.allocator with flexPtr := n + 1 } } }

/-- Whether a round is taken: headroom above 0 kW and an eligible station (R79, R87). -/
def PassWork.goesOn (w : PassWork) : Bool :=
  decide (0 < w.h) && allStations.any fun n => w.st.eligible w.bound n

/-- One round (R79): the FIRM part, then the FLEX step, unless an offer of the FIRM part used up the headroom (R81). With no FLEX
station eligible R79 has the round consist of the FIRM part alone, while steps 2 to 4 of R85 discard what stands in a kept
snapshot and then serve nothing: the step is taken, with its discards (DEDUCED, unsafe for what the snapshot holds after such
a round: notes/assumptions/34.md). -/
def PassWork.round (w : PassWork) : PassWork :=
  let w := w.firmPart
  if 0 < w.h then w.flexStep else w

/-- Rounds until none is to be taken. Every round raises a grant or adds to the bound set (R79), so a fuel of Σ want
plus the number of stations is enough. -/
def rounds : Nat → PassWork → PassWork
  | 0, w => w
  | fuel + 1, w => if w.goesOn then rounds fuel w.round else w

/-- Σ want. -/
def State.sumWant (s : State) : Nat := sumOver allStations fun n => (s.stn n).want

/-- A grant pass (R79 to R88), adding the stations it raises to those the event has changed already. -/
def grantPass (s : State) (changed : List (Fin 48)) : PassWork :=
  rounds (s.sumWant + 49) ⟨s, s.headroom, [], changed⟩

/-! ### Sheds -/

/-- What a shed is run over: the plant, or one branch. -/
inductive ShedScope where
  | plant
  | branch (b : Fin 6)
  deriving DecidableEq, Repr

/-- The three stages: FLEX grants, FIRM grants above their floors, FIRM grants (6.1). -/
inductive ShedStage where
  | flex | firmAboveFloor | firm
  deriving DecidableEq, Repr

/-- What the station may lose in a stage, 0 kW when it does not meet the stage's condition (R105 to R107). -/
def ShedStage.cuttable (g : ShedStage) (r : Station) : Nat :=
  match g, r.host.cls with
  | .flex, .flex => r.grantKw
  | .firmAboveFloor, .firm => r.grantKw - r.host.floorKw
  | .firm, .firm => r.grantKw
  | _, _ => 0

/-- A branch's flow limit. -/
def State.flowLimit (s : State) (b : Fin 6) : Nat := (s.br b).settings.flowLimit

/-- The stop condition: the grants add up to no more than A, or the cap sum is at or below the limit (R101, R104,
R109). -/
def ShedScope.met (c : ShedScope) (s : State) : Bool :=
  match c with
  | .plant => decide (s.sumGrants ≤ s.capacity)
  | .branch b => decide (s.capSum b ≤ s.flowLimit b)

/-- Whether a shed judges a station: a branch shed passes every station outside the window (R109). -/
def ShedScope.reaches (c : ShedScope) (s : State) (n : Fin 48) : Bool :=
  match c with
  | .plant => true
  | .branch b => s.inWindow b n

/-- The cut of one visit: at most a quantum, at most what the stage may take, and in a capacity shed at most the
excess E = Σ grants − A (R105 to R107, R109). -/
def ShedScope.cut (c : ShedScope) (g : ShedStage) (s : State) (n : Fin 48) : Nat :=
  let t := min s.plant.quantum (g.cuttable (s.stn n))
  match c with
  | .plant => min t (s.sumGrants - s.capacity)
  | .branch _ => t

/-- The first station at which a stage makes a cut, on its walk down from `p` (R101). -/
def nextCut (c : ShedScope) (g : ShedStage) (s : State) (p : Fin 48) : Option (Fin 48) :=
  (descendFrom p).find? fun n => c.reaches s n && decide (0 < g.cuttable (s.stn n))

/-- Cuts a station (R103); the first cut of a station below its floor in a shed raises FIRM_CUT (R107). -/
def ShedWork.cutAt (w : ShedWork) (c : ShedScope) (g : ShedStage) (n : Fin 48) : ShedWork :=
  let t := c.cut g w.st n
  let s := w.st.updStn n fun r => { r with grantKw := r.grantKw - t }
  let report := decide (g = .firm) && !w.belowFloor.contains n
  { st := if report then s.raise .firmCut n.val else s
    changed := noteChange w.changed n
    last := some n
    belowFloor := if report then n :: w.belowFloor else w.belowFloor }

/-- A stage's walk from `p`, until its stop condition is met or no station meets its condition (R101). Every cut
lowers a grant by at least 1 kW, so a fuel of Σ grants is enough. -/
def shedWalk : Nat → ShedScope → ShedStage → Fin 48 → ShedWork → ShedWork
  | 0, _, _, _, w => w
  | fuel + 1, c, g, p, w =>
    if c.met w.st then w
    else match nextCut c g w.st p with
      | none => w
      | some n => shedWalk fuel c g (n - 1) (w.cutAt c g n)

/-- The pointer a stage walks from (R100). -/
def ShedStage.pointer (g : ShedStage) (a : Allocator) : Fin 48 :=
  match g with
  | .flex => a.flexShedPtr
  | .firmAboveFloor => a.firmShedPtr
  | .firm => a.firmShedPtr

/-- A stage's pointer left on the last station it cut (R100). -/
def ShedStage.leave (g : ShedStage) (a : Allocator) (last : Option (Fin 48)) : Allocator :=
  match g, last with
  | _, none => a
  | .flex, some n => { a with flexShedPtr := n }
  | .firmAboveFloor, some n => { a with firmShedPtr := n }
  | .firm, some n => { a with firmShedPtr := n }

/-- One stage of a shed (R101, R105 to R107). -/
def ShedWork.stage (w : ShedWork) (c : ShedScope) (g : ShedStage) : ShedWork :=
  let w := shedWalk (w.st.sumGrants + 1) c g (g.pointer w.st.allocator) { w with last := none }
  { w with st := { w.st with allocator := g.leave w.st.allocator w.last } }

/-- A shed: its three stages in order (R103, R109). A stage that begins with the stop condition met cuts nothing. -/
def shed (c : ShedScope) (s : State) (changed : List (Fin 48)) : ShedWork :=
  (((ShedWork.mk s changed none []).stage c .flex).stage c .firmAboveFloor).stage c .firm

/-- Whether a branch calls for a branch shed: it is enabled and its cap sum exceeds its limit (R108). -/
def State.overLimit (s : State) (b : Fin 6) : Bool :=
  (s.br b).settings.window.isSome && decide (s.flowLimit b < s.capSum b)

/-- The sheds an event calls for (R110): branch sheds in ascending branch number, then the capacity shed. The working
state is the state and the stations changed so far. -/
def sheds (s : State) : State × List (Fin 48) :=
  let afterBranches := allBranches.foldl (fun (w : State × List (Fin 48)) b =>
    if w.1.overLimit b then
      let d := shed (.branch b) w.1 w.2
      (d.st, d.changed)
    else w) (s, [])
  if afterBranches.1.capacity < afterBranches.1.sumGrants then
    let d := shed .plant afterBranches.1 afterBranches.2
    (d.st, d.changed)
  else afterBranches

/-! ### The end of an event -/

/-- Hands the changed grants to the branch link controllers, in the order of their first change; a station whose
grant the event left where it began is not handed on (R88, R111). -/
def handChanges (before : State) (changed : List (Fin 48)) (s : State) : State :=
  changed.foldl (fun s n => if (s.stn n).grantKw = (before.stn n).grantKw then s else s.handGrant n) s

/-- What the allocator does at the end of an event, its releases and recomputes made (R78): the sheds, one grant pass
if any trigger came with the event, and the cap changes. -/
def allocate (e : Event) : State :=
  let w := sheds e.st
  if e.pass then
    let p := grantPass w.1 w.2
    handChanges e.st p.changed p.st
  else handChanges e.st w.2 w.1

/-! ### Releases and recomputes -/

/-- A release (R89, R90, R92): the grant is lowered to `k` kW and the cap change handed on; a grant at or below `k`
is left as it is. -/
def State.release (s : State) (n : Fin 48) (k : Nat) : State :=
  if k < (s.stn n).grantKw then (s.updStn n fun r => { r with grantKw := k }).handGrant n else s

/-- A recompute (R68): the grant ΔT is set to ΔT_eff; when the grant is above 0 kW a cap entry carries the new cap,
and a grant cap that fell calls for a pass. -/
def Event.recompute (e : Event) (n : Fin 48) : Event :=
  let old := (e.st.stn n).grantCap
  let s := e.st.updStn n fun r => { r with grantDt := e.st.effectiveDt n }
  let s' := if 0 < (s.stn n).grantKw then s.handGrant n else s
  (Event.mk s' e.pass).callPass (decide ((s.stn n).grantCap < old))

/-- The recompute a host change brings (R69): an ACTIVE station whose ΔT_eff differs from its grant ΔT by any amount. -/
def Event.recomputeExact (e : Event) (n : Fin 48) : Event :=
  if (e.st.stn n).state = .active ∧ e.st.effectiveDt n ≠ (e.st.stn n).grantDt then e.recompute n else e

/-- The distance between two temperature differences. -/
def apart (a b : Nat) : Nat := (a - b) + (b - a)

/-- The recompute a report brings (R67): across the deadband of 5 dK. -/
def Event.recomputeDeadband (e : Event) (n : Fin 48) : Event :=
  if 5 ≤ apart (e.st.effectiveDt n) (e.st.stn n).grantDt then e.recompute n else e

end Sys2Proof.Machine
end

