-- ==== Sys2Proof/Machine/Rest.lean ====
section
/-!
DEFINITION. Branch rest and wake (Section 8): entering OFFERING, RESTING, WAKING and LIVE, and the standings of the
stations.
-/

namespace Sys2Proof.Machine

/-- Writes a station's rest standing. -/
def State.setStanding (s : State) (n : Fin 48) (t : Standing) : State :=
  s.updStn n fun r => { r with standing := t }

/-- An OFFERING branch in which every ACTIVE station stands accepted enters RESTING (R146, R147). -/
def State.judgeOffering (s : State) (b : Fin 6) : State :=
  if (s.br b).rest = .offering ∧ (s.activeIn b).all (fun n => decide ((s.stn n).standing = .accepted)) then
    s.updBr b fun c => { c with rest := .resting }
  else s

/-- A branch enters OFFERING from LIVE (R146): the idle count is set to 0, the grants of its ACTIVE stations are
released in ascending station number (R92), and an offer is owed to each; with none ACTIVE it rests at once. -/
def State.enterOffering (s : State) (b : Fin 6) : State :=
  let act := s.activeIn b
  let s := s.updBr b fun c => { c with rest := .offering, idleCount := 0 }
  let s := act.foldl (fun s n => s.release n 0) s
  let s := act.foldl (fun s n => s.setStanding n .offerOwed) s
  s.judgeOffering b

/-- A branch enters WAKING (R150): a WAKE is owed to every ACTIVE station and the wake timer is started. -/
def State.enterWaking (s : State) (b : Fin 6) : State :=
  let s := s.updBr b fun c => { c with rest := .waking, wakeTimer := some c.settings.wakeTime }
  (s.activeIn b).foldl (fun s n => s.setStanding n .wakeOwed) s

/-- A wake reason: an OFFERING or RESTING branch enters WAKING; in WAKING and LIVE it has no rest effect (R148). -/
def State.wakeReason (s : State) (b : Fin 6) : State :=
  if (s.br b).rest = .offering ∨ (s.br b).rest = .resting then s.enterWaking b else s

/-- The wake timer runs out: the branch enters LIVE (R152). -/
def State.enterLive (s : State) (b : Fin 6) : State :=
  s.updBr b fun c => { c with rest := .live, wakeTimer := none, idleCount := 0 }

/-- A station that has entered ACTIVE while its branch is not LIVE (R153). -/
def State.joinRest (s : State) (b : Fin 6) (n : Fin 48) : State :=
  match (s.br b).rest with
  | .live => s
  | .waking => s.setStanding n .wakeOwed
  | .offering => if (s.stn n).resolved.rest then s.setStanding n .offerOwed else s.enterWaking b
  | .resting => if (s.stn n).resolved.rest then s.setStanding n .offerOwed else s.enterWaking b

end Sys2Proof.Machine
end

