-- ==== Sys2Proof/Machine/Stations.lean ====
section
/-!
DEFINITION. The station table's own operations (Section 1): the hold timer (R13, R14), what every station does that
leaves ACTIVE or is taken off its branch (R91, R135, R138, R142), loss (R9, R11), isolation (R15, R16), a change of
windows (R6) and a drop (R5).
-/

namespace Sys2Proof.Machine

/-- Writes a station record, calling for a pass when its committed draw has fallen (R77). -/
def Event.putStn (e : Event) (n : Fin 48) (r : Station) : Event :=
  (e.map fun s => s.setStn n r).callPass (decide (r.committed < (e.st.stn n).committed))

/-- The record at hold expiry (R14): the figures of the standalone or fallback kW at design_dt, the timer stopped. -/
def Station.expireHold (r : Station) : Station := { r.confirmAtDesign r.assumedKw with hold := none }

/-- Starts a station's hold timer with the lost hold time in force; with 0 s it runs out within the event (R13). -/
def Event.startHold (e : Event) (n : Fin 48) : Event :=
  if e.st.plant.lostHold = 0 then e.putStn n (e.st.stn n).expireHold
  else e.map fun s => s.updStn n fun r => { r with hold := some s.plant.lostHold }

/-- Whether a branch's transaction is addressed to a station. -/
def Branch.addresses (c : Branch) (n : Fin 48) : Bool :=
  match c.txn with
  | some t => decide (t.station = n)
  | none => false

/-- Abandons a transaction to a station: it keeps the segment until it ends (R127). -/
def Branch.abandon (c : Branch) (n : Fin 48) : Branch :=
  { c with txn := c.txn.map fun t => if t.station = n then { t with abandoned := true } else t }

/-- Removes a station's cap entries, the entries behind closing up in their order (R135). -/
def Branch.removeEntries (c : Branch) (n : Fin 48) : Branch :=
  { c with queue := c.queue.filter fun e => decide (e.station ≠ n) }

/-- Ends the meter read outstanding for a station, where there is one, with a METER-DONE notice (R138). -/
def State.endRead (s : State) (b : Fin 6) (n : Fin 48) (o : MeterOutcome) : State :=
  match (s.br b).read with
  | some r =>
    if r.station = n then (s.updBr b fun c => { c with read := none }).notify (.meterDone r.tag n o) else s
  | none => s

/-- Ends every meter read outstanding for a station. -/
def State.endReads (s : State) (n : Fin 48) (o : MeterOutcome) : State :=
  allBranches.foldl (fun s b => s.endRead b n o) s

/-- Takes a station off the allocator and off its branch: grant 0 kW and out of the FLEX snapshot (R86, R91), its cap
entries removed, a transaction in flight to it abandoned (R127, R135), its rest standing none (R142). -/
def State.detach (s : State) (n : Fin 48) : State :=
  let s := s.updStn n fun r => { r with grantKw := 0, standing := .uninvolved }
  let s := { s with allocator :=
    { s.allocator with flexSnapshot := s.allocator.flexSnapshot.filter fun m => decide (m ≠ n) } }
  s.mapBr fun c => (c.removeEntries n).abandon n

/-- After a station of the window has left ACTIVE, an OFFERING branch is judged (R147). -/
def State.judgeOfferingOf (s : State) (n : Fin 48) : State :=
  match s.branchOf n with
  | some b => s.judgeOffering b
  | none => s

/-- The third consecutive miss of an ACTIVE station (R11). Of the notices it brings, METER-DONE is issued before the FAULT of
STATION_LOST, in the order in which R11 lists the effects: DESIGN CHOICE, unsafe for that order (notes/assumptions/33.md). -/
def Event.lose (e : Event) (n : Fin 48) : Event :=
  let e := e.map fun s => (s.detach n).endReads n .lost
  let e := e.map fun s => s.updStn n fun r => { r with state := .lost, missCount := 0, debounce := 0 }
  let e := e.startHold n
  e.map fun s => (s.raise .stationLost n.val).judgeOfferingOf n

/-- A station in ATTACHING returns to SEEKING: at its third consecutive miss (R9). -/
def Event.returnToSeeking (e : Event) (n : Fin 48) : Event :=
  (e.map fun s => s.updStn n fun r => { r with state := .seeking, missCount := 0, debounce := 0 }).startHold n

/-- A station in ATTACHING or ACTIVE that a change of windows moves goes to SEEKING (R6, R118); a station in another
state keeps it. A transaction in flight to it is abandoned. -/
def Event.moveWindow (e : Event) (n : Fin 48) : Event :=
  if (e.st.stn n).state = .attaching ∨ (e.st.stn n).state = .active then
    (e.map fun s => s.detach n).returnToSeeking n
  else e.map fun s => s.mapBr fun c => c.abandon n

/-- The record of a station as it enters ISOLATED (R15). -/
def Station.isolate (r : Station) : Station :=
  { r with
    state := .isolated
    confirmedKw := 0
    confirmedFlow := 0
    hold := none
    missCount := 0
    debounce := 0
    requestKw := 0
    clamped := false
    supply := none
    ret := none
    measuredDt := none
    indexDp := none
    dtHold := 0 }

/-- A defined station enters ISOLATED (R15, R121); the fall of its committed draw calls for a pass. -/
def Event.enterIsolation (e : Event) (n : Fin 48) : Event :=
  let before := (e.st.stn n).committed
  let e := e.map fun s => (s.detach n).endReads n .isolated
  let e := e.map fun s => s.updStn n Station.isolate
  (e.map fun s => s.judgeOfferingOf n).callPass (decide (0 < before))

/-- An ISOLATED station leaves for SEEKING, its figures set as at hold expiry and its hold timer stopped (R16). -/
def State.leaveIsolation (s : State) (n : Fin 48) : State :=
  s.updStn n fun r => { r.expireHold with state := .seeking }

/-- A defined station is dropped (R5); the fall of its committed draw calls for a pass. -/
def Event.drop (e : Event) (n : Fin 48) : Event :=
  let before := (e.st.stn n).committed
  let e := e.map fun s => (s.detach n).endReads n .dropped
  let e := e.map fun s => s.setStn n Station.vacantRecord
  (e.map fun s => s.judgeOfferingOf n).callPass (decide (0 < before))

/-- The record of a newly defined station (R3), inside the isolation range or not. -/
def Station.define (h : HostFields) (isolated : Bool) : Station :=
  let r := { Station.vacantRecord with host := h, grantDt := h.designDt, confirmedDt := h.designDt }
  if isolated then { r with state := .isolated }
  else { r.confirmAtDesign h.fallbackKw with state := .seeking }

end Sys2Proof.Machine
end

