-- ==== Sys2Proof/Machine/Arbiter.lean ====
section
/-!
DEFINITION. The segment arbiter and the rotation (R128, R129), with the judging of each rotation at its end (R143,
R144) and the slowed polling of a resting branch (R154).
-/

namespace Sys2Proof.Machine

/-! ### The rotation -/

/-- Whether a POLL is due to an ACTIVE station of a RESTING branch: the rest poll interval has passed since the last
POLL sent to it (R154). -/
def pollDue (interval : Nat) (since : Option Nat) : Bool :=
  match since with
  | none => true
  | some t => decide (interval ≤ t)

/-- Whether the rotation owes a station of its window a frame when it reaches it (R129, R154). A station that leaves isolation
ahead of the position of a rotation of count 0 is owed its PROBE in that rotation (R16, R129), which is read as the next probing
rotation of R121 (DEDUCED, unsafe for the time of that PROBE: notes/assumptions/35.md). -/
def State.owed (s : State) (b : Fin 6) (n : Fin 48) : Bool :=
  match (s.stn n).state with
  | .active => decide ((s.br b).rest ≠ .resting) || pollDue (s.br b).settings.restPoll (s.stn n).sincePoll
  | .attaching => true
  | .seeking => decide ((s.br b).rotCount = 0)
  | .lost => decide ((s.br b).rotCount = 0)
  | .isolated => false
  | .vacant => false

/-- The next due rotation slot: the next station from the rotation position onward, within the present rotation, to
which a frame is owed (R129). -/
def State.nextDue (s : State) (b : Fin 6) : Option (Fin 48) :=
  (s.windowStations b).find? fun n => decide ((s.br b).rotPos ≤ n.val) && s.owed b n

/-- A rotation of a LIVE branch is idle when every ACTIVE station of the window asks for nothing, holds nothing and is
confirmed at nothing, and no report with a request above 0 kW was accepted during it (R143). With no ACTIVE station at its end
the report of an ATTACHING one still counts: DEDUCED, unsafe for the idle count there (notes/assumptions/31.md). -/
def State.rotationIdle (s : State) (b : Fin 6) : Bool :=
  (s.activeIn b).all (fun n =>
    decide ((s.stn n).requestKw = 0 ∧ (s.stn n).grantKw = 0 ∧ (s.stn n).confirmedKw = 0))
    && !(s.br b).rotDemand

/-- The idle count judged at the end of a rotation of a LIVE branch (R143). -/
def State.judgeIdle (s : State) (b : Fin 6) : State :=
  if (s.br b).rest = .live then
    let idle := s.rotationIdle b
    s.updBr b fun c => { c with idleCount := if idle then min 255 (c.idleCount + 1) else 0 }
  else s

/-- Whether automatic rest is called for at the end of a rotation (R144). -/
def State.restCalled (s : State) (b : Fin 6) : Bool :=
  let c := s.br b
  decide (c.rest = .live) && decide (0 < c.settings.restThreshold) && decide (c.settings.restThreshold ≤ c.idleCount)
    && (s.activeIn b).all (fun n => (s.stn n).resolved.rest)

/-- The base of a window, 0 where there is none. -/
def windowBase (w : Option Range) : Nat :=
  match w with
  | some r => r.base
  | none => 0

/-- A rotation ends (R129): it is judged, the count rises from 7 to 0, the position returns to base, and the branch
enters OFFERING when automatic rest is called for. -/
def State.endRotation (s : State) (b : Fin 6) : State :=
  let s := s.judgeIdle b
  let s := s.updBr b fun c =>
    { c with
      rotCount := (c.rotCount + 1) % 8
      rotPos := windowBase c.settings.window
      rotSent := false
      rotDemand := false }
  if s.restCalled b then s.enterOffering b else s

/-! ### The choice -/

/-- What the arbiter may choose (R128). -/
inductive Choice where
  | cap
  | rest (n : Fin 48)
  | meter
  | rotation (n : Fin 48)
  deriving DecidableEq, Repr

/-- The front of the rest list: the lowest station owed a REST-OFFER or a WAKE (R142). -/
def State.restHead (s : State) (b : Fin 6) : Option (Fin 48) :=
  (s.windowStations b).find? fun n =>
    decide ((s.stn n).standing = .offerOwed) || decide ((s.stn n).standing = .wakeOwed)

/-- Whether the read slot holds a read whose METER-ASK is owed (R137). -/
def Branch.askOwed (c : Branch) : Bool :=
  match c.read with
  | some r => r.owed
  | none => false

/-- The first item of the arbiter's list, above the rotation, that has work (R128, items 1 to 3). -/
def State.firstWork (s : State) (b : Fin 6) : Option Choice :=
  match (s.br b).queue with
  | _ :: _ => some .cap
  | [] =>
    match s.restHead b with
    | some n => some (.rest n)
    | none => if (s.br b).askOwed then some .meter else none

/-- Whether the arbiter looks to the rotation: its list has no other work, or four CAPs have gone in a row (R128). -/
def State.seeksRotation (s : State) (b : Fin 6) : Bool :=
  (s.firstWork b).isNone || decide ((s.br b).capsInRow = 4)

/-- The arbiter's choice (R128). -/
def State.choose (s : State) (b : Fin 6) : Option Choice :=
  if (s.br b).capsInRow = 4 then
    match s.nextDue b with
    | some n => some (.rotation n)
    | none => s.firstWork b
  else
    match s.firstWork b with
    | some c => some c
    | none => (s.nextDue b).map .rotation

/-! ### Sending -/

/-- A transaction to a station starts, which is not a CAP: the count of CAPs in a row is set to 0 (R128). -/
def Branch.start (c : Branch) (n : Fin 48) (k : TxnKind) : Branch :=
  { c with txn := some ⟨n, k, false⟩, capsInRow := 0 }

/-- The transaction of a cap entry in flight. -/
def CapEntry.txn (e : CapEntry) : Txn :=
  match e.flight with
  | some f => ⟨e.station, .cap e.seq f.flowSent f.grantSent, false⟩
  | none => ⟨e.station, .cap e.seq e.targetFlow e.targetGrant, false⟩

/-- The CAP of the head of the queue goes out (R132, R133). -/
def State.sendCap (s : State) (b : Fin 6) : State :=
  match (s.br b).queue with
  | [] => s
  | e :: rest =>
    let e' := e.launch (s.stn e.station).confirmedFlow (s.br b).settings.rampStep
    s.updBr b fun c =>
      { c with queue := e' :: rest, txn := some e'.txn, capsInRow := min 4 (c.capsInRow + 1) }

/-- A METER-ASK goes out: the attempt count is set to 1 at the first and raised at each resend (R137). -/
def State.sendMeterAsk (s : State) (b : Fin 6) : State :=
  match (s.br b).read with
  | some r =>
    s.updBr b fun c =>
      { c.start r.station .meterAsk with read := some { r with attempts := r.attempts + 1, owed := false } }
  | none => s

/-- The frame of a rest standing: REST-OFFER for an offer owed, WAKE for a wake owed (R147, R151). -/
def restFrame (t : Standing) : TxnKind :=
  match t with
  | .wakeOwed => .wake
  | .offerOwed => .restOffer
  | .accepted => .restOffer
  | .uninvolved => .restOffer

/-- A rotation slot is taken: POLL for an ACTIVE or ATTACHING station, PROBE for a SEEKING or LOST one (R129); the time
since the last POLL starts afresh at a POLL (R154). -/
def State.sendRotation (s : State) (b : Fin 6) (n : Fin 48) : State :=
  let polls := decide ((s.stn n).state = .active) || decide ((s.stn n).state = .attaching)
  let s := s.updBr b fun c =>
    { c.start n (if polls then .poll else .probe) with rotPos := n.val + 1, rotSent := true }
  if polls then s.updStn n fun r => { r with sincePoll := some 0 } else s

/-- A chosen transaction starts. -/
def State.send (s : State) (b : Fin 6) (c : Choice) : State :=
  match c with
  | .cap => s.sendCap b
  | .rest n => s.updBr b fun r => r.start n (restFrame (s.stn n).standing)
  | .meter => s.sendMeterAsk b
  | .rotation n => s.sendRotation b n

/-- A rotation that has sent a frame ends when the arbiter looks to it and finds nothing more due in it; one that has
sent none goes on until 200 ms after its start (R129), at `emptyRotationEnd`, and a slot that falls due in it is
taken. The moment of the judging is DEDUCED, unsafe for the idle count inside a run of CAPs (notes/assumptions/8.md). -/
def State.passRotation (s : State) (b : Fin 6) : State :=
  if s.seeksRotation b && (s.nextDue b).isNone && (s.br b).rotSent then s.endRotation b else s

/-- The arbiter looks for work on a free segment of an enabled branch (R128). -/
def State.arbitrate (s : State) (b : Fin 6) : State :=
  if (s.br b).settings.window.isSome && (s.br b).txn.isNone then
    let s := s.passRotation b
    match s.choose b with
    | some c => s.send b c
    | none => s
  else s

/-- Every branch's arbiter, in ascending branch number. -/
def State.arbitrateAll (s : State) : State := allBranches.foldl State.arbitrate s

end Sys2Proof.Machine
end

