-- ==== Sys2Proof/Machine/Plant.lean ====
section
/-!
DEFINITION. The plant capacity monitor (Section 2) and the schedule and clock (Section 3): contributions and A, the
freshness watches, the chiller machine, the tank, the current slot, the charge allowance and the tank command.
-/

namespace Sys2Proof.Machine

/-! ### Contributions and capacity (R28, R39, R44, R46) -/

/-- The contribution of a chiller (R28). -/
def Chiller.contribution (c : Chiller) : Nat :=
  let full := match c.available with
    | some a => min a c.settings.ratedKw
    | none => c.settings.ratedKw
  match c.state with
  | .run => full
  | .stopHeld => full
  | .unknown => 0
  | .off => 0
  | .startHeld => 0
  | .starting => 0
  | .stopping => 0
  | .tripped => 0

/-- C_ch, the sum of the contributions (R39). -/
def State.chillerOutput (s : State) : Nat := (allUnits.map fun u => (s.chiller u).contribution).sum

/-- The slot that holds a time of day (R44). -/
def slotOf (tod : Nat) : Fin 96 := Fin.ofNat 96 (tod / 900)

/-- The current slot, none while the clock is unset (R44). -/
def State.currentSlot (s : State) : Option (Fin 96) := s.clock.map slotOf

/-- The record in force: the current slot's, and HOLD 0 kW while the clock is unset (R44). -/
def State.slotNow (s : State) : SlotRecord :=
  match s.currentSlot with
  | some i => s.slot i
  | none => ⟨.hold, 0⟩

/-- The storage discharge contribution as R46 works it out. -/
def State.dischargeNow (s : State) : Nat :=
  if s.slotNow.mode = .discharge ∧ s.tank.enabled = true then min s.slotNow.kw s.plant.maxDischarge else 0

/-- A = max(0, C_ch + S_dis − M) (R39), with S_dis worked out afresh. -/
def State.capacityNow (s : State) : Nat := s.chillerOutput + s.dischargeNow - s.plant.margin

/-- S_dis and A worked out again; a rise of A calls for a pass (R39, R46, R77). -/
def Event.recapacity (e : Event) : Event :=
  (e.map fun s => { s with storageDischarge := s.dischargeNow, capacity := s.capacityNow }).callPass
    (decide (e.st.capacity < e.st.capacityNow))

/-! ### Freshness watches (R26) -/

/-- Whether a plant bus address is watched (R26). -/
def State.watched (s : State) (a : Fin 11) : Bool :=
  if h : a.val < 8 then decide (0 < (s.chiller ⟨a.val, h⟩).settings.ratedKw)
  else if a = tankAddress then decide (0 < s.plant.tankCapacity)
  else true

/-- A device is heard, or its watch begins, or ends: no silence, nothing unheard, and the active condition of its
DEVICE_SILENT fault cleared (R26). -/
def State.endSilence (s : State) (a : Fin 11) : State :=
  (s.setWatch a ⟨false, 0⟩).endCondition .deviceSilent a.val

/-! ### The chiller machine (R30 to R34) -/

/-- Seen to run: the min-run timer started with the full time, or left stopped when the unit was UNKNOWN (R32, R34). -/
def Chiller.seenRunning (c : Chiller) (counted : Bool) : Chiller :=
  { c with
    state := .run
    minRunTimer := if counted then some c.settings.minRun else none
    minOffTimer := none
    confirmTimer := none }

/-- Seen to stop: OFF with the min-off timer started (R32). -/
def Chiller.seenStopped (c : Chiller) : Chiller :=
  { c with state := .off, minRunTimer := none, minOffTimer := some c.settings.minOff, confirmTimer := none }

/-- Entering TRIPPED (R33). -/
def Chiller.trip (c : Chiller) : Chiller :=
  { c with state := .tripped, minRunTimer := none, minOffTimer := some c.settings.minOff, confirmTimer := none }

/-- The unit after a run condition is reported (Table 2-4, and R34 for UNKNOWN). -/
def Chiller.report (c : Chiller) (condition : RunCondition) : Chiller :=
  match c.state, condition with
  | .unknown, .run => c.seenRunning false
  | .unknown, .stopped => c.seenStopped
  | .unknown, .tripped => c.trip
  | .off, .run => c.seenRunning true
  | .off, .stopped => c
  | .off, .tripped => c.trip
  | .startHeld, .run => c.seenRunning true
  | .startHeld, .stopped => c
  | .startHeld, .tripped => c.trip
  | .starting, .run => c.seenRunning true
  | .starting, .stopped => c
  | .starting, .tripped => c.trip
  | .run, .run => c
  | .run, .stopped => c.seenStopped
  | .run, .tripped => c.trip
  | .stopHeld, .run => c
  | .stopHeld, .stopped => c.seenStopped
  | .stopHeld, .tripped => c.trip
  | .stopping, .run => c
  | .stopping, .stopped => c.seenStopped
  | .stopping, .tripped => c.trip
  | .tripped, .run => c.seenRunning true
  | .tripped, .stopped => { c with state := .off }
  | .tripped, .tripped => c

/-- The unit is commanded to run: STARTING, with the confirm timer started (R30). -/
def Chiller.start (c : Chiller) : Chiller :=
  { c with state := .starting, minOffTimer := none, confirmTimer := some c.settings.startConfirm }

/-- The unit is commanded to stop: STOPPING, with the confirm timer started (R31). -/
def Chiller.stop (c : Chiller) : Chiller :=
  { c with state := .stopping, minRunTimer := none, confirmTimer := some c.settings.stopConfirm }

/-- UNKNOWN, every timer stopped, available kW absent: a unit that falls silent or is no longer fitted (R29, R34). -/
def Chiller.forget (c : Chiller) : Chiller := Chiller.fresh c.settings

/-- Commands a unit to run (R27, R30). -/
def State.runChiller (s : State) (u : Fin 8) : State :=
  (s.setChiller u (s.chiller u).start).bus (.chillerRun u)

/-- Commands a unit to stop (R27, R31). -/
def State.stopChiller (s : State) (u : Fin 8) : State :=
  (s.setChiller u (s.chiller u).stop).bus (.chillerStop u)

/-- An accepted chiller report (R33, R34): the silence ended, the unit moved, available kW recorded, and CHILLER_TRIP
raised when the unit has entered TRIPPED. -/
def State.chillerReport (s : State) (u : Fin 8) (condition : RunCondition) (available : Nat) : State :=
  let old := s.chiller u
  let new := { old.report condition with available := presentKw available }
  let s := (s.endSilence (chillerAddress u)).setChiller u new
  if new.state = .tripped ∧ old.state ≠ .tripped then s.raise .chillerTrip u.val else s

/-- The min-run timer runs out (R32). -/
def State.minRunOut (s : State) (u : Fin 8) : State :=
  let c := { s.chiller u with minRunTimer := none }
  let s := s.setChiller u c
  if c.state = .stopHeld then s.stopChiller u else s

/-- The min-off timer runs out (R32). -/
def State.minOffOut (s : State) (u : Fin 8) : State :=
  let c := { s.chiller u with minOffTimer := none }
  let s := s.setChiller u c
  if c.state = .startHeld then s.runChiller u else s

/-- The confirm timer runs out (R32): a start has failed, or a stop has not been seen. -/
def State.confirmOut (s : State) (u : Fin 8) : State :=
  let c := { s.chiller u with confirmTimer := none }
  match c.state with
  | .starting => (s.setChiller u c.seenStopped).raise .startFailed u.val
  | .stopping => (s.setChiller u c).raise .stopFailed u.val
  | .unknown => s.setChiller u c
  | .off => s.setChiller u c
  | .startHeld => s.setChiller u c
  | .run => s.setChiller u c
  | .stopHeld => s.setChiller u c
  | .tripped => s.setChiller u c

/-! ### The tank (R35 to R37) -/

/-- The subject of STORAGE_RESERVE (R36). -/
def storageSubject : Nat := 8

/-- Writes storage_enabled; a change from yes to no raises STORAGE_RESERVE, one from no to yes clears its active
condition (R36). -/
def State.enableStorage (s : State) (on : Bool) : State :=
  let s' := { s with tank := { s.tank with enabled := on } }
  match s.tank.enabled, on with
  | true, false => s'.raise .storageReserve storageSubject
  | false, true => s'.endCondition .storageReserve storageSubject
  | true, true => s'
  | false, false => s'

/-- storage_enabled by hysteresis against the reserves in force (R36). -/
def State.judgeStorage (s : State) (soc : Nat) : State :=
  s.enableStorage
    (if s.plant.reserveHigh ≤ soc then true else if soc ≤ s.plant.reserveLow then false else s.tank.enabled)

/-- storage_enabled at the first report after the state of charge was absent: set from reserve_high alone, with
STORAGE_RESERVE raised at or below reserve_low (R36). -/
def State.firstStorage (s : State) (soc : Nat) : State :=
  let on := decide (s.plant.reserveHigh ≤ soc)
  let s' := { s with tank := { s.tank with enabled := on } }
  let s' := if on then s'.endCondition .storageReserve storageSubject else s'
  if soc ≤ s.plant.reserveLow then s'.raise .storageReserve storageSubject else s'

/-- An accepted tank report (R36). -/
def State.tankReport (s : State) (soc : Nat) (mode : TankMode) (rate : Nat) : State :=
  let soc := min soc s.plant.tankCapacity
  let first := s.tank.soc.isNone
  let s := s.endSilence tankAddress
  let s := { s with tank := { s.tank with soc := some soc, mode := some mode, rate := presentKw rate } }
  if first then s.firstStorage soc else s.judgeStorage soc

/-- The tank's condition while it is silent or not fitted (R35, R37). -/
def Tank.unheard : Tank := ⟨none, none, none, false⟩

/-- The tank falls silent (R37, R50). -/
def State.tankSilent (s : State) : State := { s with tank := Tank.unheard, lastTankCommand := none }

/-- What an accepted PLANT-DEF does to the tank, its settings in place (R35, R50); `old` is the capacity before. -/
def State.refitTank (s : State) (old : Nat) : State :=
  if s.plant.tankCapacity = 0 then
    if old = 0 then s
    else ({ s with tank := Tank.unheard }.endCondition .storageReserve storageSubject).endSilence tankAddress
  else if old = 0 then
    { s with tank := Tank.unheard, lastTankCommand := none }.endSilence tankAddress
  else match s.tank.soc with
    | some soc =>
      let soc := min soc s.plant.tankCapacity
      { s with tank := { s.tank with soc := some soc } }.judgeStorage soc
    | none => s

/-- Whether the tank is fresh (R35). -/
def State.tankFresh (s : State) : Bool :=
  s.watched tankAddress && !(s.watch tankAddress).silent && s.tank.soc.isSome

/-! ### Devices that fall silent (R26, R34, R37, R38) -/

/-- What the silence of a device does to its own record. -/
def State.deviceSilent (s : State) (a : Fin 11) : State :=
  if h : a.val < 8 then s.setChiller ⟨a.val, h⟩ (s.chiller ⟨a.val, h⟩).forget
  else if a = tankAddress then s.tankSilent
  else if a = pumpAddress then { s with pumpGroup := ⟨false, none⟩ }
  else { s with plantDp := none }

/-- A watched device becomes silent (R26). -/
def State.fallSilent (s : State) (a : Fin 11) : State :=
  ((s.setWatch a ⟨true, 15⟩).raise .deviceSilent a.val).deviceSilent a

/-! ### The charge allowance and the tank command (R47 to R50) -/

/-- The charge allowance as R47 works it out. -/
def State.chargeNow (s : State) : Nat :=
  if s.slotNow.mode = .charge ∧ s.tankFresh = true ∧ s.tank.soc.getD 0 < s.plant.tankCapacity then
    min s.slotNow.kw (s.chillerOutput - s.plant.margin - s.sumCommitted)
  else 0

/-- The tank command as R49 works it out. -/
def State.tankCommandNow (s : State) : TankCommand :=
  match s.slotNow.mode with
  | .hold => ⟨.hold, 0⟩
  | .charge => ⟨.charge, s.chargeAllowance⟩
  | .discharge => ⟨.discharge, s.storageDischarge⟩

/-- Whether a command has moved far enough from the last to be sent (R49). -/
def tankSetDue (step : Nat) (last now : TankCommand) : Bool :=
  decide (now.mode ≠ last.mode) || decide (step ≤ apart now.rate last.rate)
    || (decide (now.rate = 0) && decide (0 < last.rate))

/-- Sends a TANK-SET, which becomes the last tank command (R49). -/
def State.sendTank (s : State) (c : TankCommand) : State :=
  { s.bus (.tankSet c.mode c.rate) with lastTankCommand := some c }

/-- The tank command evaluated (R49, R50): with no last command it is sent at a tank report alone. -/
def State.evalTank (s : State) (reported : Bool) : State :=
  if s.plant.tankCapacity = 0 then s
  else match s.lastTankCommand with
    | none => if reported then s.sendTank s.tankCommandNow else s
    | some last => if tankSetDue s.plant.chargeStep last s.tankCommandNow then s.sendTank s.tankCommandNow else s

/-- What S_dis, the charge allowance and the tank command are worked out from (R46, R48, R49): the command is worked out again
when one of these has changed, S_dis or the allowance moving or not. -/
structure StorageInputs where
  slot : Option (Fin 96)
  record : SlotRecord
  discharge : Nat
  capacity : Nat
  output : Nat
  margin : Nat
  tankCapacity : Nat
  maxDischarge : Nat
  enabled : Bool
  soc : Option Nat
  fresh : Bool
  committed : List Nat
  deriving DecidableEq, Repr

/-- The inputs of the charge allowance and the tank command as they stand (R46 to R49). -/
def State.storageInputs (s : State) : StorageInputs where
  slot := s.currentSlot
  record := s.slotNow
  discharge := s.storageDischarge
  capacity := s.capacity
  output := s.chillerOutput
  margin := s.plant.margin
  tankCapacity := s.plant.tankCapacity
  maxDischarge := s.plant.maxDischarge
  enabled := s.tank.enabled
  soc := s.tank.soc
  fresh := s.tankFresh
  committed := allStations.map fun n => (s.stn n).committed

/-- The charge allowance and the tank command at the end of an event (R48, R49): worked out again when one of their
inputs has changed since the event began, or the event is one that R48 names whether or not anything changed
(`touched`), a tank report among them (`reported`). A new charge step alone is no such event (DEDUCED, unsafe:
notes/assumptions/27.md). -/
def State.settleStorage (s before : State) (touched reported : Bool) : State :=
  if touched || reported || decide (s.storageInputs ≠ before.storageInputs) then
    { s with chargeAllowance := s.chargeNow }.evalTank reported
  else s

end Sys2Proof.Machine
end

