-- ==== Sys2Proof/Machine/Pressure.lean ====
section
/-!
DEFINITION. The pressure reference unit (Section 9): candidate validity, the choice of source, the revert timer, the
trim and the speed command.
-/

namespace Sys2Proof.Machine

/-! ### Validity (R158) -/

/-- Whether a pressure is fresh: present, its age no greater than the freshness setting. -/
def dpFresh (freshness : Nat) (r : Option DpReading) : Bool :=
  match r with
  | some r => decide (r.age ≤ freshness)
  | none => false

/-- Whether a station's branch is LIVE or OFFERING; no while it is unrouted. -/
def State.branchCarries (s : State) (n : Fin 48) : Bool :=
  match s.branchOf n with
  | some b => decide ((s.br b).rest = .live) || decide ((s.br b).rest = .offering)
  | none => false

/-- Whether an index candidate is valid (R158). -/
def State.candidateValid (s : State) (c : Option (Fin 48)) : Bool :=
  match c with
  | some n =>
    decide ((s.stn n).state = .active) && (s.stn n).resolved.index && s.branchCarries n
      && dpFresh s.pressure.ref.freshness (s.stn n).indexDp
  | none => false

/-- Whether the primary index station is valid. -/
def State.primaryValid (s : State) : Bool := s.candidateValid s.pressure.ref.primary

/-- Whether the secondary index station is valid. -/
def State.secondaryValid (s : State) : Bool := s.candidateValid s.pressure.ref.secondary

/-- Whether the plant DP is fresh (R38, R158). -/
def State.plantDpFresh (s : State) : Bool := dpFresh s.pressure.ref.freshness s.plantDp

/-! ### The source (R159 to R164) -/

/-- Whether a source is locked (Table 9-1). -/
def Source.locked (c : Source) : Bool :=
  match c with
  | .primary => true
  | .secondary => true
  | .plant => false
  | .hold => false

/-- The source the fallback rule gives (9.4). -/
def State.fallbackSource (s : State) : Source :=
  if s.pressure.ref.fallback = .plant ∧ s.plantDpFresh = true then .plant else .hold

/-- Writes the source. -/
def State.setSource (s : State) (c : Source) : State := { s with pressure := { s.pressure with source := c } }

/-- Writes the revert timer. -/
def State.setRevert (s : State) (t : Option Nat) : State := { s with pressure := { s.pressure with revertTimer := t } }

/-- A change of source to PRIMARY or SECONDARY: every active INDEX_LOST condition is cleared (R164). -/
def State.lock (s : State) (c : Source) : State := (s.setSource c).endIndexLost

/-- A locked source is lost to the fallback rule: INDEX_LOST is raised with the station that was selected (R159, R160,
R164). -/
def State.loseSource (s : State) (lost : Option (Fin 48)) : State :=
  let s := s.setSource s.fallbackSource
  match lost with
  | some n => s.raise .indexLost n.val
  | none => s

/-- The source judged at the end of an event (R159 to R161, R163); `was` holds the settings that named the selected
station before the event. -/
def State.judgeSource (s : State) (was : RefSettings) : State :=
  match s.pressure.source with
  | .primary =>
    if s.primaryValid then s
    else if s.pressure.ref.autoSwitch && s.secondaryValid then s.lock .secondary
    else s.loseSource was.primary
  | .secondary => if s.secondaryValid then s else s.loseSource was.secondary
  | .plant =>
    if s.pressure.ref.autoSwitch && !s.primaryValid && s.secondaryValid then s.lock .secondary
    else s.setSource s.fallbackSource
  | .hold =>
    if s.pressure.ref.autoSwitch && !s.primaryValid && s.secondaryValid then s.lock .secondary
    else s.setSource s.fallbackSource

/-- The revert timer judged after the source (R162, R163). -/
def State.judgeRevert (s : State) : State :=
  if s.pressure.source = .primary ∨ s.primaryValid = false then s.setRevert none
  else match s.pressure.revertTimer with
    | some _ => s
    | none =>
      if s.pressure.ref.revertDelay = 0 then s.lock .primary
      else s.setRevert (some s.pressure.ref.revertDelay)

/-- The pressure reference unit at the end of an event. -/
def State.judgePressure (s : State) (was : RefSettings) : State := (s.judgeSource was).judgeRevert

/-- An accepted REF-DEF puts its settings in place (R156); a revert timer that ran for another primary is stopped, so
that a new primary valid at once gets the full delay (R163). -/
def State.setRef (s : State) (r : RefSettings) : State :=
  { s with pressure :=
    { s.pressure with
      ref := r
      revertTimer := if r.primary = s.pressure.ref.primary then s.pressure.revertTimer else none } }

/-! ### The trim (R165, R166) -/

/-- The step of a trim with the error outside the deadband (R166). -/
def trimStep (gain maxStep : Nat) (e : Int) : Int :=
  let d := (e * gain).tdiv 1000
  let d := if d = 0 then (if 0 < e then 1 else -1) else d
  max (-(maxStep : Int)) (min d maxStep)

/-- A speed clamped into the range from min speed to max speed. -/
def PumpSettings.clamp (p : PumpSettings) (v : Int) : Nat := (max (p.minSpeed : Int) (min v p.maxSpeed)).toNat

/-- The speed command a trim gives (R166). -/
def PumpSettings.trimmed (p : PumpSettings) (e : Int) (v : Nat) : Nat :=
  if e.natAbs ≤ p.deadband then v else p.clamp (v + trimStep p.gain p.maxStep e)

/-- The error setpoint − measured of the present source, none in HOLD (R165, R166). -/
def State.trimError (s : State) : Option Int :=
  let index (c : Option (Fin 48)) : Option Int :=
    (c.bind fun n => (s.stn n).indexDp).map fun r => (s.pressure.ref.indexSetpoint : Int) - r.value
  match s.pressure.source with
  | .primary => index s.pressure.ref.primary
  | .secondary => index s.pressure.ref.secondary
  | .plant => s.plantDp.map fun r => (s.pressure.ref.plantSetpoint : Int) - r.value
  | .hold => none

/-- Whether the pump group may be trimmed: not silent, and running by its last report (R165). -/
def State.pumpsRun (s : State) : Bool := !(s.watch pumpAddress).silent && s.pumpGroup.running

/-- Writes the speed command. -/
def State.setSpeed (s : State) (v : Nat) : State := { s with pressure := { s.pressure with speed := some v } }

/-- The speed command trimmed, where R165 lets it be; a PUMP-SET is sent when it changed (R166, R167). -/
def State.trim (s : State) : State :=
  match s.trimError, s.pressure.speed with
  | some e, some v =>
    if s.pumpsRun then
      let v' := s.pressure.pump.trimmed e v
      let s := (s.setSpeed v')
      let s := { s with pressure := { s.pressure with lastTrim := some ⟨e, s.pressure.source⟩ } }
      if v' = v then s else s.bus (.pumpSet v')
    else s
  | some _, none => s
  | none, _ => s

/-- The trim timer started again with the interval in force (R165). -/
def State.restartTrim (s : State) : State :=
  { s with pressure := { s.pressure with trimTimer := s.pressure.pump.interval } }

/-! ### The speed command (R157, R167) -/

/-- An accepted pump report (R38, R167): the record, then the adoption of a speed while the command is none, or the
command repeated at the first report after a silence (DEDUCED for a silence with no command, unsafe there:
notes/assumptions/14.md). -/
def State.pumpReport (s : State) (running : Bool) (speed : Nat) : State :=
  let silent := (s.watch pumpAddress).silent
  let present := pumpSpeedOf speed
  let s := { s.endSilence pumpAddress with pumpGroup := ⟨running, present⟩ }
  match s.pressure.speed, present with
  | none, none => s
  | none, some v =>
    let c := s.pressure.pump.clamp v
    let s := s.setSpeed c
    if c = v then s else s.bus (.pumpSet c)
  | some c, _ => if silent then s.bus (.pumpSet c) else s

/-- An accepted PUMP-DEF (R157): its settings in place, and a speed command outside the new range clamped and sent. -/
def State.setPump (s : State) (p : PumpSettings) : State :=
  let s := { s with pressure := { s.pressure with pump := p } }
  match s.pressure.speed with
  | some v => if p.clamp v = v then s else (s.setSpeed (p.clamp v)).bus (.pumpSet (p.clamp v))
  | none => s

/-- An accepted plant DP report (R25, R38). -/
def State.plantDpReport (s : State) (dp : Nat) : State :=
  let s := s.endSilence transmitterAddress
  match measured 6000 dp with
  | some v => { s with plantDp := some ⟨v, 0⟩ }
  | none => s

end Sys2Proof.Machine
end

