-- ==== Sys2Proof/Machine/Settle.lean ====
section
/-!
DEFINITION. The end of an event. After the block that took the event has changed its records, the allocator acts
(R78), the branch link controllers choose what to send (R128), the charge allowance and the tank command are worked
out (R48, R49), the pressure source is judged (R158) and the alert relay moves (R175), in this order (DESIGN CHOICE where the
manual gives none, unsafe for the order on the plant bus and of FAULT notices: notes/assumptions/28.md).
-/

namespace Sys2Proof.Machine

/-- The end of an event after the allocator; `before` is the state in which the event began. -/
def State.settle (s before : State) (touched reported : Bool) : State :=
  ((s.arbitrateAll.settleStorage before touched reported).judgePressure before.pressure.ref).judgeRelay

/-- Whether an event calls for a shed (R103, R108). -/
def State.shedCalled (s : State) : Bool := allBranches.any s.overLimit || decide (s.capacity < s.sumGrants)

/-- The end of an event, the allocator's part among it. -/
def Event.finish (e : Event) (before : State) : State :=
  (allocate e).settle before (e.pass || e.st.shedCalled) false

/-- The end of an event that touches pressures alone. -/
def State.finishPressure (s before : State) : State := (s.judgePressure before.pressure.ref).judgeRelay

end Sys2Proof.Machine
end

