-- ==== Sys2Proof/Machine/Reports.lean ====
section
/-!
DEFINITION. What the branch link controllers do with what comes in on a segment: judging a frame as the reply of the
transaction that waits (R123 to R127), each valid reply's own rule (R7, R17 to R21, R134, R137, R147, R151), and a
transaction that ends in a miss (R126, R133, R137).
-/

namespace Sys2Proof.Machine

/-! ### A report in the station record (R18 to R21) -/

/-- The request of a report (R18). -/
def Station.takeRequest (r : Station) (kw : Nat) : Station :=
  { r with requestKw := min kw r.host.contractKw, clamped := decide (r.host.contractKw < kw) }

/-- The measured difference and its hold count after a report without a valid pair (R19); the count starts at 0 (DEDUCED,
unsafe for the count alone: notes/assumptions/26.md). -/
def Station.holdDt (r : Station) : Station :=
  let h := min 10 (r.dtHold + 1)
  { r with measuredDt := if h = 10 then none else r.measuredDt, dtHold := h }

/-- The temperatures of a report (R19). -/
def Station.takeTemperatures (r : Station) (supply ret : Nat) : Station :=
  let r := { r with supply := measured 300 supply, ret := measured 400 ret }
  match r.supply, r.ret with
  | some a, some b => { r with measuredDt := some (b - a), dtHold := 0 }
  | some _, none => r.holdDt
  | none, _ => r.holdDt

/-- The index DP of a report (R20). -/
def Station.takeIndex (r : Station) (dp : Nat) : Station :=
  if r.resolved.index then
    match measured 6000 dp with
    | some v => { r with indexDp := some ⟨v, 0⟩ }
    | none => r
  else { r with indexDp := none }

/-- The STANDALONE flag of a report (R21): the figures of standalone_kw at design_dt. -/
def Station.takeStandalone (r : Station) (flag : Bool) : Station :=
  if flag then r.confirmAtDesign r.assumedKw else r

/-- The record with a report's fields taken in their order (R17, steps 1 to 4). -/
def Station.takeReport (r : Station) (f : ReportFields) : Station :=
  (((r.takeRequest f.requestKw).takeTemperatures f.supply f.ret).takeIndex f.indexDp).takeStandalone f.standalone

/-! ### REPORT (R9, R10, R17) -/

/-- A report of a station's demand to its branch's rest state machine: it sets the idle count of a LIVE branch to 0, and
the present rotation is not idle (R143). -/
def State.noteDemand (s : State) (b : Fin 6) (kw : Nat) : State :=
  if 0 < kw then
    s.updBr b fun c => { c with rotDemand := true, idleCount := if c.rest = .live then 0 else c.idleCount }
  else s

/-- A cap entry carrying a station's grant, unless an entry of the station waits already (R21). -/
def State.queueUnlessWaiting (s : State) (b : Fin 6) (n : Fin 48) : State :=
  if holdsWaiting (s.br b).queue n then s else s.handGrant n

/-- A cap entry carrying a station's grant, unless the branch holds any entry of the station (R10). -/
def State.queueUnlessHeld (s : State) (b : Fin 6) (n : Fin 48) : State :=
  if holdsEntry (s.br b).queue n then s else s.handGrant n

/-- What a report does to an ACTIVE station's grant (R21, R67, R77, R89): a cap entry for the STANDALONE flag, the release
to a lower request, the recompute across the deadband, and the pass that a want calls for. -/
def Event.reportActive (e : Event) (b : Fin 6) (n : Fin 48) (flag : Bool) : Event :=
  let e := e.map fun s => if flag then s.queueUnlessWaiting b n else s
  let e := e.map fun s => s.release n (s.stn n).requestKw
  let e := e.recomputeDeadband n
  e.callPass (decide (0 < (e.st.stn n).want))

/-- A station enters ACTIVE (R10, R70, R172). -/
def Event.enterActive (e : Event) (n : Fin 48) : Event :=
  let e := e.map fun s => s.updStn n fun r =>
    { r with state := .active, debounce := 0, grantDt := r.effectiveDt s.plant.dtFloor }
  (e.map fun s => s.endCondition .stationLost n.val).callPass true

/-- What a report does to an ATTACHING station (R9): the debounce rises, and at 2 the station enters ACTIVE. -/
def Event.reportAttaching (e : Event) (n : Fin 48) : Event :=
  if 2 ≤ (e.st.stn n).debounce + 1 then e.enterActive n
  else e.map fun s => s.updStn n fun r => { r with debounce := r.debounce + 1 }

/-- What follows a report once the allocator has finished (R10, R148, R153): a newcomer's cap entry and its place in the
rest, and the wake reasons. -/
def State.afterReport (s : State) (b : Fin 6) (n : Fin 48) (newcomer wakes : Bool) : State :=
  let s := if newcomer then (s.queueUnlessHeld b n).joinRest b n else s
  if wakes then s.wakeReason b else s

/-- An accepted REPORT (R17). `before` is the state in which the event began. The STANDALONE flag wakes the branch when the
station was ACTIVE before the report (DEDUCED, unsafe: notes/assumptions/13.md). -/
def State.report (s before : State) (b : Fin 6) (n : Fin 48) (f : ReportFields) : State :=
  let old := s.stn n
  let e := (s.event.putStn n (old.takeReport f)).map fun s => s.noteDemand b f.requestKw
  let e := if old.state = .active then e.reportActive b n f.standalone else e.reportAttaching n
  let newcomer := decide (old.state ≠ .active) && decide ((e.st.stn n).state = .active)
  let wakes := decide (0 < f.requestKw) || (f.standalone && decide (old.state = .active))
  ((allocate e).afterReport b n newcomer wakes).settle before (e.pass || e.st.shedCalled) false

/-! ### ADVERTISE (R7) -/

/-- The record after an accepted ADVERTISE. -/
def Station.advertise (r : Station) (caps standaloneKw presentCap revision : Nat) : Station :=
  { r with
    state := .attaching
    advert := some ⟨capsOfBits caps, standaloneKw, presentCap, revision⟩
    confirmedFlow := presentCap
    confirmedKw := kwEquivalent presentCap r.host.designDt
    confirmedDt := r.host.designDt
    hold := none
    requestKw := 0
    clamped := false
    supply := none
    ret := none
    measuredDt := none
    dtHold := 0
    indexDp := none
    debounce := 0 }

/-- An accepted ADVERTISE; a fall of the committed draw calls for a pass (R77). -/
def State.advertise (s before : State) (n : Fin 48) (caps standaloneKw presentCap revision : Nat) : State :=
  (s.event.putStn n ((s.stn n).advertise caps standaloneKw presentCap revision)).finish before

/-! ### CAP-ACK, REST-ANSWER, WAKE-ACK and METER-DATA -/

/-- A station owed a WAKE is owed none any more (R151). -/
def Station.woken (r : Station) : Station :=
  { r with standing := if r.standing = .wakeOwed then .uninvolved else r.standing }

/-- A valid CAP-ACK (R134, R151); a fall of confirmed_kw calls for a pass (DEDUCED against R77, unsafe:
notes/assumptions/11.md). -/
def State.capAck (s before : State) (b : Fin 6) (n : Fin 48) : State :=
  let s' := (s.confirmCap b n).updStn n Station.woken
  ((s'.event).callPass (decide ((s'.stn n).confirmedKw < (s.stn n).confirmedKw))).finish before

/-- A valid REST-ANSWER (R147, R153); one that arrives after the branch has left OFFERING for WAKING or LIVE is
disregarded. -/
def State.restAnswer (s before : State) (b : Fin 6) (n : Fin 48) (answer : Nat) : State :=
  let offered := decide ((s.br b).rest = .offering) || decide ((s.br b).rest = .resting)
  let s :=
    if offered = false then s
    else if answer = 0 then s.enterWaking b
    else if (s.stn n).standing = .offerOwed then (s.setStanding n .accepted).judgeOffering b
    else s
  s.settle before false false

/-- A valid WAKE-ACK (R151). -/
def State.wakeAck (s before : State) (n : Fin 48) : State := (s.updStn n Station.woken).settle before false false

/-- A valid METER-DATA: the read ends with a METER-DONE notice and the slot is freed (R137). -/
def State.meterData (s before : State) (b : Fin 6) (n : Fin 48) (energy volume : Nat) : State :=
  (s.endRead b n (.data energy volume)).settle before false false

/-! ### The judging of a frame (R124, R125, R127) -/

/-- Whether a reply is of the kind that the frame sent is paired with, its fields in their ranges (R124). -/
def TxnKind.pairs (k : TxnKind) (r : FieldReply) : Bool :=
  match k, r with
  | .poll, .report _ => true
  | .probe, .advertise _ standaloneKw presentCap _ => decide (standaloneKw ≤ 20000) && decide (presentCap < 0xFFFF)
  | .cap seq _ _, .capAck echoed => decide (echoed = seq)
  | .restOffer, .restAnswer answer => decide (answer ≤ 1)
  | .wake, .wakeAck => true
  | .meterAsk, .meterData _ _ => true
  | _, _ => false

/-- Whether a reply is accepted from a station in its state (R7, R17); a reply to an abandoned transaction is not
handed on, and fits any. -/
def StationState.accepts (c : StationState) (r : FieldReply) : Bool :=
  match r with
  | .report _ => decide (c = .attaching) || decide (c = .active)
  | .advertise _ _ _ _ => decide (c = .seeking) || decide (c = .lost)
  | .capAck _ => true
  | .restAnswer _ => true
  | .wakeAck => true
  | .meterData _ _ => true

/-- Whether a frame is a valid reply to a transaction (R124). -/
def State.validReply (s : State) (t : Txn) (address : Nat) (r : FieldReply) : Bool :=
  decide (address = t.station.val) && t.kind.pairs r
    && (t.abandoned || (s.stn t.station).state.accepts r)

/-- Hands a valid reply to the rule that owns it (R124). -/
def State.takeReply (s before : State) (b : Fin 6) (n : Fin 48) (r : FieldReply) : State :=
  match r with
  | .report f => s.report before b n f
  | .advertise caps standaloneKw presentCap revision => s.advertise before n caps standaloneKw presentCap revision
  | .capAck _ => s.capAck before b n
  | .restAnswer answer => s.restAnswer before b n answer
  | .wakeAck => s.wakeAck before n
  | .meterData energy volume => s.meterData before b n energy volume

/-- The transaction of a branch ends. -/
def State.endTxn (s : State) (b : Fin 6) : State := s.updBr b fun c => { c with txn := none }

/-- A frame disregarded during a transaction: the protocol-error count rises (R125). -/
def State.countProtocol (s : State) (b : Fin 6) : State :=
  s.updBr b fun c => { c with protocolErrors := countUp c.protocolErrors }

/-- A bad frame: the bad-frame count rises, and nothing else happens (R123). -/
def State.countBad (s : State) (b : Fin 6) : State :=
  s.updBr b fun c => { c with badFrames := countUp c.badFrames }

/-- A valid reply ends its transaction (R124); that of an abandoned transaction is not handed on (R127). -/
def State.replied (s : State) (b : Fin 6) (t : Txn) (r : FieldReply) : State :=
  if t.abandoned then (s.endTxn b).settle s false false
  else ((s.endTxn b).updStn t.station fun c => { c with missCount := 0 }).takeReply s b t.station r

/-- Whether an address is that of an ISOLATED station. -/
def State.isolatedAddress (s : State) (address : Nat) : Bool :=
  match stationOf address with
  | some n => decide ((s.stn n).state = .isolated)
  | none => false

/-- A frame that passes R123, read as a reply or as none (R124, R125); with no transaction waiting it is discarded without
effect. So is one from an ISOLATED station while the transaction that waits is to another (R15, R121), which R125 would count
as carrying another address: DEDUCED, unsafe for the protocol-error count (notes/assumptions/29.md). -/
def State.fieldFrame (s : State) (b : Fin 6) (address : Nat) (r : Option FieldReply) : State :=
  match (s.br b).txn with
  | none => s
  | some t =>
    if address ≠ t.station.val ∧ s.isolatedAddress address = true then s
    else match r with
      | some r => if s.validReply t address r then s.replied b t r else s.countProtocol b
      | none => s.countProtocol b

/-! ### A miss (R126) -/

/-- A METER-ASK has ended in a miss and its station is still ACTIVE (R137): owed again below three attempts, and otherwise
the read ends with NO_REPLY. -/
def State.missMeter (s : State) (b : Fin 6) (n : Fin 48) : State :=
  match (s.br b).read with
  | some r =>
    if r.station = n then
      if r.attempts < 3 then s.updBr b fun c => { c with read := some { r with owed := true } }
      else s.endRead b n .noReply
    else s
  | none => s

/-- What a miss does by the kind of its frame, the station still ACTIVE (R126). A missed REST-OFFER or WAKE stays owed. -/
def State.missKind (s : State) (b : Fin 6) (t : Txn) : State :=
  match t.kind with
  | .cap _ _ _ => s.missCap b t.station
  | .meterAsk => s.missMeter b t.station
  | .poll => s
  | .probe => s
  | .restOffer => s
  | .wake => s

/-- A transaction ends in a miss (R126). -/
def Event.miss (e : Event) (b : Fin 6) (t : Txn) : Event :=
  let r := e.st.stn t.station
  match r.state with
  | .active =>
    if 3 ≤ r.missCount + 1 then e.lose t.station
    else e.map fun s => (s.updStn t.station fun r => { r with missCount := r.missCount + 1 }).missKind b t
  | .attaching =>
    if 3 ≤ r.missCount + 1 then e.returnToSeeking t.station
    else e.map fun s => s.updStn t.station fun r => { r with missCount := r.missCount + 1, debounce := 0 }
  | .seeking => e
  | .lost => e
  | .isolated => e
  | .vacant => e

/-- The reply timeout of a transaction (R124, R127). -/
def State.replyTimeout (s : State) (b : Fin 6) : State :=
  match (s.br b).txn with
  | none => s
  | some t =>
    if t.abandoned then (s.endTxn b).settle s false false
    else ((s.endTxn b).event.miss b t).finish s

end Sys2Proof.Machine
end

