-- ==== Sys2Proof/Machine/Requests.lean ====
section
/-!
DEFINITION. The host's settings and commands, each as the block that owns it carries it out: the state it leaves and
the reply (Sections 1 to 3 and 7 to 10). A refusal leaves the state as it was (R181). SAVE and RESTART, which reach
past their own event, are the link's (Link.lean), and the GET requests stand in Replies.lean.
-/

namespace Sys2Proof.Machine

/-- A request refused: nothing changes (R181). -/
def State.refuse (s : State) (r : Reason) : State × Reply := (s, .refused r)

/-- A request carried out and answered DONE with an empty body. -/
def State.doneEmpty (s : State) : State × Reply := (s, .done [])

/-! ### CLOCK (R43, R44) -/

/-- A CLOCK in range: the clock set; at a slot change S_dis, A, the charge allowance and the tank command are worked out
again. -/
def State.setClock (s : State) (tod : Nat) : State :=
  let s' := { s with clock := some tod }
  if s'.currentSlot = s.currentSlot then s' else (s'.event.recapacity).finish s

/-- CLOCK. -/
def State.onClock (s : State) (tod : Nat) : State × Reply :=
  if 86399 < tod then s.refuse .range else (s.setClock tod).doneEmpty

/-! ### Stations (R2 to R5, R8) -/

/-- Whether a defined station's new fields change an input of ΔT_eff (R69). -/
def Station.dtInputsDiffer (old new : Station) : Bool :=
  decide (old.host.designDt ≠ new.host.designDt) || decide (old.host.dtMode ≠ new.host.dtMode)
    || decide (old.resolved.track ≠ new.resolved.track)

/-- The record of a defined station with its host-agreed fields replaced, its request cut to the new contract, and its
index DP absent once INDEX is not resolved (R4, R8). -/
def Station.redefine (r : Station) (h : HostFields) : Station :=
  let r := { r with host := h }
  let r := if h.contractKw < r.requestKw then { r with requestKw := h.contractKw, clamped := true } else r
  if r.resolved.index then r else { r with indexDp := none }

/-- Removes a station from the FLEX snapshot (R86). -/
def State.leaveFlex (s : State) (n : Fin 48) : State :=
  { s with allocator :=
    { s.allocator with flexSnapshot := s.allocator.flexSnapshot.filter fun m => decide (m ≠ n) } }

/-- REST has left the resolved caps of an ACTIVE station: a wake reason (R8, R148). -/
def State.restLost (s : State) (n : Fin 48) : State :=
  match s.branchOf n with
  | some b => s.wakeReason b
  | none => s

/-- Every recompute that a host change of an input of ΔT_eff brings: each ACTIVE station whose ΔT_eff then differs from its grant
ΔT (R69), in ascending station number, which the manual does not fix (DEDUCED, unsafe for the order of the entries:
notes/assumptions/12.md). -/
def Event.recomputeAll (e : Event) : Event := allStations.foldl Event.recomputeExact e

/-- A STN-DEF for a defined station (R4). A change of its inputs of ΔT_eff brings the recomputes of R69 while it is ACTIVE, and
changes nothing but its ΔT_eff while it is not (DEDUCED, unsafe for other stations: notes/assumptions/12.md). -/
def Event.redefine (e : Event) (n : Fin 48) (h : HostFields) : Event :=
  let old := e.st.stn n
  let new := old.redefine h
  let e := e.map fun s => s.setStn n new
  let e := e.map fun s => if old.host.cls = h.cls then s else s.leaveFlex n
  let e := e.map fun s =>
    if old.state = .active ∧ old.resolved.rest = true ∧ new.resolved.rest = false then s.restLost n else s
  let e := e.map fun s => s.release n h.contractKw
  if old.state = .active ∧ old.dtInputsDiffer new = true then e.recomputeAll else e

/-- STN-DEF (R2 to R4). -/
def State.onStnDef (s : State) (f : StnDefFields) : State × Reply :=
  match stationOf f.station, hostFieldsOf f with
  | some n, some h =>
    let e :=
      if (s.stn n).state = .vacant then s.event.map fun s => s.setStn n (Station.define h (rangeHolds s.isolation n.val))
      else s.event.redefine n h
    (e.finish s).doneEmpty
  | _, _ => s.refuse .range

/-- STN-DROP (R5). -/
def State.onStnDrop (s : State) (station : Nat) : State × Reply :=
  match stationOf station with
  | some n => if (s.stn n).state = .vacant then s.refuse .state else ((s.event.drop n).finish s).doneEmpty
  | none => s.refuse .range

/-! ### Branches (R117 to R121) -/

/-- Whether a station has work that a change of windows would disturb (R117, check 3). -/
def State.stationBusy (s : State) (n : Fin 48) : Bool :=
  let r := s.stn n
  decide (0 < r.grantKw) || decide (0 < r.confirmedKw)
    || allBranches.any fun b => holdsEntry (s.br b).queue n ||
      match (s.br b).read with
      | some d => decide (d.station = n)
      | none => false

/-- Whether a branch is busy for a change of its window (R117, check 3). -/
def State.branchBusy (s : State) (b : Fin 6) (new : Option Range) : Bool :=
  decide ((s.br b).rest ≠ .live)
    || allStations.any fun n =>
      (s.inWindow b n || rangeHolds new n.val) && decide ((s.stn n).state ≠ .vacant) && s.stationBusy n

/-- Whether a new window shares a station number with the window of another branch (R117, check 2). -/
def State.windowTaken (s : State) (b : Fin 6) (new : Option Range) : Bool :=
  allBranches.any fun c => decide (c ≠ b) && windowsOverlap new (s.br c).settings.window

/-- A branch record with its window changed (R118): a first rotation of the new window, LIVE and nothing counted. -/
def Branch.reopen (c : Branch) (settings : BranchSettings) : Branch :=
  { c with
    settings := settings
    rotPos := windowBase settings.window
    rotCount := 0
    rotSent := false
    rotDemand := false
    capsInRow := 0
    rest := .live
    idleCount := 0
    wakeTimer := none }

/-- The stations whose branch a change of windows has changed, ascending (R6). -/
def movedStations (old new : State) : List (Fin 48) :=
  allStations.filter fun n => decide ((new.stn n).state ≠ .vacant) && decide (old.branchOf n ≠ new.branchOf n)

/-- An accepted BR-DEF (R118, R119): the window first, then the pass that a raised limit calls for. -/
def Event.applyBranch (e : Event) (b : Fin 6) (settings : BranchSettings) : Event :=
  let old := (e.st.br b).settings
  let e' :=
    if old.window = settings.window then e.map fun s => s.updBr b fun c => { c with settings := settings }
    else
      let s' := e.st.updBr b fun c => c.reopen settings
      (movedStations e.st s').foldl (fun e n => e.moveWindow n) { e with st := s' }
  e'.callPass (decide (old.flowLimit < settings.flowLimit))

/-- BR-DEF (R117). -/
def State.onBrDef (s : State) (f : BrDefFields) : State × Reply :=
  match branchOfNumber f.branch, branchSettingsOf f with
  | some b, some c =>
    if s.windowTaken b c.window then s.refuse .overlap
    else if (s.br b).settings.window ≠ c.window ∧ s.branchBusy b c.window = true then s.refuse .busy
    else if (s.br b).settings = c then s.doneEmpty
    else ((s.event.applyBranch b c).finish s).doneEmpty
  | _, _ => s.refuse .range

/-- The isolation range an ISOLATE carries (R120): base 0xFF for none. -/
def isolationOf (base limit : Nat) : Option (Option Range) :=
  if base = 0xFF then some none
  else if (Range.mk base limit).isIsolation then some (some ⟨base, limit⟩)
  else none

/-- One station as the isolation range changes (R15, R16, R120). -/
def Event.isolateStation (old new : Option Range) (e : Event) (n : Fin 48) : Event :=
  if (e.st.stn n).state = .vacant then e
  else if rangeHolds new n.val && !rangeHolds old n.val then e.enterIsolation n
  else if rangeHolds old n.val && !rangeHolds new n.val && decide ((e.st.stn n).state = .isolated) then
    e.map fun s => s.leaveIsolation n
  else e

/-- An accepted ISOLATE that changes the range (R120). The stations are handled in ascending number, and so the METER-DONE
notices of the reads it ends are issued: DESIGN CHOICE, unsafe for the order of those notices (notes/assumptions/30.md). -/
def Event.setIsolation (e : Event) (new : Option Range) : Event :=
  let old := e.st.isolation
  allStations.foldl (fun e n => e.isolateStation old new n) (e.map fun s => { s with isolation := new })

/-- ISOLATE (R120). -/
def State.onIsolate (s : State) (base limit : Nat) : State × Reply :=
  match isolationOf base limit with
  | some r => if r = s.isolation then s.doneEmpty else ((s.event.setIsolation r).finish s).doneEmpty
  | none => s.refuse .range

/-! ### Plant (R28 to R31, R35, R57, R76) -/

/-- An accepted CH-DEF (R28, R29). -/
def State.defineChiller (s : State) (u : Fin 8) (c : ChillerSettings) : State :=
  let old := s.chiller u
  let s := s.setChiller u { old with settings := c }
  if 0 < old.settings.ratedKw ∧ c.ratedKw = 0 then
    (s.setChiller u (Chiller.fresh c)).endSilence (chillerAddress u)
  else if old.settings.ratedKw = 0 ∧ 0 < c.ratedKw then s.endSilence (chillerAddress u)
  else s

/-- CH-DEF (R28). -/
def State.onChDef (s : State) (f : ChDefFields) : State × Reply :=
  match unitOf f.unit with
  | some u =>
    if f.settings.inRange then ((s.defineChiller u f.settings).event.recapacity.finish s).doneEmpty
    else s.refuse .range
  | none => s.refuse .range

/-- CH-CMD START for a unit (R30). -/
def State.chillerStart (s : State) (u : Fin 8) : State × Reply :=
  let c := s.chiller u
  match c.state with
  | .off =>
    if c.minOffTimer.isNone then (s.runChiller u).doneEmpty
    else (s.setChiller u { c with state := .startHeld }).doneEmpty
  | .stopHeld => (s.setChiller u { c with state := .run }).doneEmpty
  | .startHeld => s.doneEmpty
  | .starting => s.doneEmpty
  | .run => s.doneEmpty
  | .stopping => s.refuse .state
  | .tripped => s.refuse .state
  | .unknown => s.refuse .state

/-- CH-CMD STOP for a unit (R31). -/
def State.chillerStop (s : State) (u : Fin 8) : State × Reply :=
  let c := s.chiller u
  match c.state with
  | .run =>
    if c.minRunTimer.isNone then ((s.stopChiller u).event.recapacity.finish s).doneEmpty
    else (s.setChiller u { c with state := .stopHeld }).doneEmpty
  | .startHeld => (s.setChiller u { c with state := .off }).doneEmpty
  | .starting => s.refuse .busy
  | .off => s.doneEmpty
  | .stopHeld => s.doneEmpty
  | .stopping => s.doneEmpty
  | .tripped => s.doneEmpty
  | .unknown => s.doneEmpty

/-- CH-CMD (R30, R31). -/
def State.onChCmd (s : State) (unit command : Nat) : State × Reply :=
  match unitOf unit, command with
  | some u, 0 => s.chillerStart u
  | some u, 1 => s.chillerStop u
  | _, _ => s.refuse .range

/-- An accepted PLANT-DEF (R35, R39, R69, R76): the settings, the tank, A, the recomputes of a changed dt_floor, and the
pass of a changed quantum. -/
def Event.applyPlant (e : Event) (p : PlantSettings) : Event :=
  let old := e.st.plant
  let e := e.map fun s => { s with plant := p }.refitTank old.tankCapacity
  let e := e.recapacity
  let e := if old.dtFloor = p.dtFloor then e else e.recomputeAll
  e.callPass (decide (old.quantum ≠ p.quantum))

/-- PLANT-DEF (R35, R57, R76). -/
def State.onPlantDef (s : State) (p : PlantSettings) : State × Reply :=
  if p.inRange then ((s.event.applyPlant p).finish s).doneEmpty else s.refuse .range

/-! ### The schedule (R51 to R55) -/

/-- SCHED-WIN (R51): the session opened, one already open being closed. -/
def State.onSchedWin (s : State) (first last : Nat) : State × Reply :=
  if 95 < first ∨ last < first then s.refuse .range
  else
    let last := min last 95
    ({ s with session := some ⟨first, last, first⟩ }, .done [⟨1, last⟩])

/-- A slot record as it is stored (R54). -/
def storedSlot (maxDischarge : Nat) (r : SlotFields) : SlotRecord :=
  match tankModeOfCode r.mode with
  | some .discharge => ⟨.discharge, min (min r.kw 60000) maxDischarge⟩
  | some .charge => ⟨.charge, min r.kw 60000⟩
  | some .hold => ⟨.hold, min r.kw 60000⟩
  | none => ⟨.hold, 0⟩

/-- A SCHED-DATA in progress: the schedule, the write pointer and the counts. -/
structure LoadWork where
  schedule : Vector SlotRecord 96
  pointer : Nat
  written : Nat
  spilled : Nat
  coerced : Nat
  deriving DecidableEq, Repr

/-- One record of a SCHED-DATA, written or spilled (R54). -/
def LoadWork.take (last maxDischarge : Nat) (w : LoadWork) (r : SlotFields) : LoadWork :=
  if w.pointer ≤ last then
    { schedule := w.schedule.setIfInBounds w.pointer (storedSlot maxDischarge r)
      pointer := w.pointer + 1
      written := w.written + 1
      spilled := w.spilled
      coerced := if (tankModeOfCode r.mode).isNone then w.coerced + 1 else w.coerced }
  else { w with spilled := w.spilled + 1 }

/-- Whether a run of the session's slots, from one write pointer to another, holds the current slot (R55). -/
def State.writesCurrent (s : State) (start stop : Nat) : Bool :=
  match s.currentSlot with
  | some i => decide (start ≤ i.val ∧ i.val < stop)
  | none => false

/-- A SCHED-DATA that the open session takes (R53 to R55). -/
def State.loadSlots (s : State) (l : LoadSession) (start : Nat) (records : List SlotFields) : State × Reply :=
  let w := records.foldl (LoadWork.take l.last s.plant.maxDischarge) ⟨s.schedule, start, 0, 0, 0⟩
  let s' := { s with schedule := w.schedule, session := some { l with pointer := w.pointer } }
  let s' :=
    if s.writesCurrent start w.pointer then
      let e := s'.event.recapacity
      (allocate e).settle s true false
    else s'
  (s', .done [⟨2, w.written⟩, ⟨2, w.spilled⟩, ⟨2, w.coerced⟩])

/-- SCHED-DATA (R53): FORMAT, RANGE and SEQUENCE in this order. -/
def State.onSchedData (s : State) (flag : Nat) (records : List SlotFields) : State × Reply :=
  if records.length = 0 ∨ 24 < records.length then s.refuse .format
  else if 1 < flag then s.refuse .range
  else match s.session with
    | none => s.refuse .sequence
    | some l => s.loadSlots l (if flag = 0 then l.first else l.pointer) records

/-! ### Pressure (R156, R157) -/

/-- REF-DEF (R156, R163). -/
def State.onRefDef (s : State) (f : RefDefFields) : State × Reply :=
  match refSettingsOf f with
  | some r => ((s.setRef r).finishPressure s).doneEmpty
  | none => s.refuse .range

/-- PUMP-DEF (R157). -/
def State.onPumpDef (s : State) (p : PumpSettings) : State × Reply :=
  if p.inRange then (s.setPump p).doneEmpty else s.refuse .range

/-! ### Rest, wake and meter reads (R136, R145, R149) -/

/-- BR-REST (R145). -/
def State.onBrRest (s : State) (branch : Nat) : State × Reply :=
  match branchOfNumber branch with
  | none => s.refuse .range
  | some b =>
    if (s.br b).settings.window.isNone then s.refuse .state
    else match (s.br b).rest with
      | .offering => s.doneEmpty
      | .resting => s.doneEmpty
      | .waking => s.refuse .busy
      | .live =>
        if (s.activeIn b).all (fun n => (s.stn n).resolved.rest) then
          ((s.enterOffering b).event.finish s).doneEmpty
        else s.refuse .capability

/-- BR-WAKE (R149). -/
def State.onBrWake (s : State) (branch : Nat) : State × Reply :=
  match branchOfNumber branch with
  | none => s.refuse .range
  | some b =>
    if (s.br b).settings.window.isNone then s.refuse .state
    else match (s.br b).rest with
      | .offering => ((s.enterWaking b).settle s false false).doneEmpty
      | .resting => ((s.enterWaking b).settle s false false).doneEmpty
      | .waking => s.doneEmpty
      | .live => s.doneEmpty

/-- METER (R136). A read whose METER-ASK has not been sent holds the attempt count 0: DESIGN CHOICE, unsafe for what GET-BR
shows before the first ask (notes/assumptions/7.md). -/
def State.onMeter (s : State) (tag station : Nat) : State × Reply :=
  match stationOf station with
  | none => s.refuse .range
  | some n =>
    match s.branchOf n with
    | none => s.refuse .state
    | some b =>
      if (s.stn n).state ≠ .active then s.refuse .state
      else if (s.stn n).resolved.meter = false then s.refuse .capability
      else if (s.br b).read.isSome then s.refuse .busy
      else
        ((s.updBr b fun c => { c with read := some ⟨n, tag, 0, true⟩ }).settle s false false, .taken)

/-! ### Faults (R173, R174) -/

/-- FAULT-ACK (R173): kind 0xFF for all. -/
def State.onFaultAck (s : State) (kind subject : Nat) : State × Reply :=
  if kind = 0xFF then ({ s with faults := s.faults.ackAll }.judgeRelay).doneEmpty
  else match faultKindOfCode kind with
    | some k => ({ s with faults := s.faults.ack fun e => e.names k subject }.judgeRelay).doneEmpty
    | none => s.refuse .range

/-- FAULT-MASK (R174): bit n for kind code n. -/
def State.onFaultMask (s : State) (mask : Nat) : State × Reply :=
  if mask < 1024 then ({ s with faults := { s.faults with mask := BitVec.ofNat 10 mask } }.judgeRelay).doneEmpty
  else s.refuse .range

end Sys2Proof.Machine
end

