-- ==== Sys2Proof/Machine/Replies.lean ====
section
/-!
DEFINITION. The bodies of the DATA replies (R24, R42, R56, R71, R99, R141, R155, R169, R177, R187), as runs of fields in
the order the rules list them, encoded as Table 11-4 gives (R182). Where the manual leaves a code or an absent value
open, notes/assumptions/7.md says what is sent (DESIGN CHOICE, unsafe for the exact bytes).
-/

namespace Sys2Proof.Machine

/-! ### Field encodings (Table 11-4) -/

/-- A one-byte field. -/
def byteField (n : Nat) : Field := ⟨1, n⟩

/-- A yes/no flag. -/
def flagField (b : Bool) : Field := ⟨1, b.toNat⟩

/-- A two-byte quantity. -/
def wordField (n : Nat) : Field := ⟨2, n⟩

/-- A two-byte quantity or remaining time; 0xFFFF when absent or stopped. -/
def wordOrNone (o : Option Nat) : Field := ⟨2, o.getD 0xFFFF⟩

/-- A four-byte quantity. -/
def longField (n : Nat) : Field := ⟨4, n⟩

/-- A four-byte quantity; 0xFFFFFFFF when absent. -/
def longOrNone (o : Option Nat) : Field := ⟨4, o.getD 0xFFFFFFFF⟩

/-- A station, branch, unit or slot number; 0xFF when there is none. -/
def numberOrNone (o : Option Nat) : Field := ⟨1, o.getD 0xFF⟩

/-- A time of day; 0xFFFFFF when unset. -/
def timeField (o : Option Nat) : Field := ⟨3, o.getD 0xFFFFFF⟩

/-- A signed figure in two's complement of n bytes. -/
def signedField (n : Nat) (v : Int) : Field := ⟨n, (v % (256 ^ n : Nat)).toNat⟩

/-- A list: a count byte, then its elements (R182). -/
def listFields {α : Type} (l : List α) (f : α → List Field) : List Field := byteField l.length :: l.flatMap f

/-- A differential pressure with its age, or absent. -/
def dpFields (r : Option DpReading) : List Field := [wordOrNone (r.map (·.value)), wordOrNone (r.map (·.age))]

/-! ### Codes (R182) -/

/-- VACANT 0 to ISOLATED 5. -/
def StationState.code : StationState → Nat
  | .vacant => 0
  | .seeking => 1
  | .attaching => 2
  | .active => 3
  | .lost => 4
  | .isolated => 5

/-- FIRM 0, FLEX 1. -/
def ContractClass.code : ContractClass → Nat
  | .firm => 0
  | .flex => 1

/-- ENFORCED 0, TRACKING 1. -/
def DtMode.code : DtMode → Nat
  | .enforced => 0
  | .tracking => 1

/-- Chiller states in the order of Table 2-2. -/
def ChillerState.code : ChillerState → Nat
  | .unknown => 0
  | .off => 1
  | .startHeld => 2
  | .starting => 3
  | .run => 4
  | .stopHeld => 5
  | .stopping => 6
  | .tripped => 7

/-- HOLD 0, CHARGE 1, DISCHARGE 2. -/
def TankMode.code : TankMode → Nat
  | .hold => 0
  | .charge => 1
  | .discharge => 2

/-- LIVE 0 to WAKING 3. -/
def RestState.code : RestState → Nat
  | .live => 0
  | .offering => 1
  | .resting => 2
  | .waking => 3

/-- none 0, offer owed 1, accepted 2, wake owed 3. -/
def Standing.code : Standing → Nat
  | .uninvolved => 0
  | .offerOwed => 1
  | .accepted => 2
  | .wakeOwed => 3

/-- PRIMARY 0 to HOLD 3. -/
def Source.code : Source → Nat
  | .primary => 0
  | .secondary => 1
  | .plant => 2
  | .hold => 3

/-- PLANT 0, HOLD 1. -/
def Fallback.code : Fallback → Nat
  | .plant => 0
  | .hold => 1

/-! ### GET-STN (R24, R71) -/

/-- The advertisement of a record. -/
def advertFields (a : Option Advert) : List Field :=
  match a with
  | some a => [byteField a.caps.code, wordField a.standaloneKw, wordField a.presentCap, byteField a.revision]
  | none => [byteField 0, wordOrNone none, wordOrNone none, byteField 0]

/-- The host-agreed fields of a record. -/
def HostFields.toFields (h : HostFields) : List Field :=
  [byteField h.cls.code, wordField h.contractKw, wordField h.floorKw, wordField h.fallbackKw, wordField h.designDt,
    byteField h.dtMode.code, byteField h.offered.code]

/-- The body of GET-STN: the record in the order of Table 1-10, then what R24 and R71 add. -/
def State.stationFields (s : State) (n : Fin 48) : List Field :=
  let r := s.stn n
  if r.state = .vacant then [byteField r.state.code]
  else
    [byteField n.val, byteField r.state.code] ++ r.host.toFields ++ advertFields r.advert ++
    [byteField r.resolved.code, wordField r.requestKw, flagField r.clamped, wordOrNone r.supply, wordOrNone r.ret,
      wordOrNone r.measuredDt, wordField r.dtHold] ++ dpFields r.indexDp ++
    [wordField r.grantKw, wordField r.confirmedKw, wordField r.confirmedFlow, wordField r.confirmedDt,
      wordField r.missCount, byteField r.nextSeq, wordField r.debounce, wordOrNone r.hold, wordField r.boundCount,
      flagField (s.branchOf n).isSome, numberOrNone ((s.branchOf n).map Fin.val), wordField r.committed,
      wordField (s.effectiveDt n), flagField (s.eligible [] n), wordField r.grantDt, wordField r.grantCap]

/-- GET-STN (R24). -/
def State.onGetStn (s : State) (station : Nat) : State × Reply :=
  match stationOf station with
  | some n => (s, .data (s.stationFields n))
  | none => s.refuse .range

/-! ### GET-BR (R141, R155) -/

/-- A range as base and limit, 0xFF each where there is none. -/
def rangeFields (r : Option Range) : List Field :=
  [numberOrNone (r.map (·.base)), numberOrNone (r.map (·.limit))]

/-- The rotation position as it is shown (R141): once the limit has been visited the next visit will be sought at the base. That of
a disabled branch, which R118 leaves without meaning, is shown as none, 0xFF: DESIGN CHOICE, unsafe for that byte
(notes/assumptions/7.md). -/
def Branch.shownPosition (c : Branch) : Option Nat :=
  c.settings.window.map fun w => if w.limit < c.rotPos then w.base else c.rotPos

/-- The read slot: station, tag and attempt count, free with no station. -/
def readFields (r : Option MeterRead) : List Field :=
  match r with
  | some r => [byteField r.station.val, byteField r.tag, wordField r.attempts]
  | none => [numberOrNone none, byteField 0, wordField 0]

/-- The stations of a window whose standing is not none (R155), in ascending station number, an order that neither R155 nor R182
states: DESIGN CHOICE, unsafe for the order of that list (notes/assumptions/7.md). -/
def State.standingOnes (s : State) (b : Fin 6) : List (Fin 48) :=
  (s.windowStations b).filter fun n => decide ((s.stn n).standing ≠ .uninvolved)

/-- Part 0 of GET-BR. -/
def State.branchPart0 (s : State) (b : Fin 6) : List Field :=
  let c := s.br b
  [flagField c.settings.window.isSome] ++ rangeFields c.settings.window ++
  [wordField c.settings.flowLimit, wordField c.settings.rampStep, wordField c.settings.restThreshold,
    wordField c.settings.wakeTime, wordField c.settings.restPoll, byteField c.rest.code, wordField c.idleCount,
    numberOrNone c.shownPosition, wordField c.rotCount, wordField c.capsInRow] ++ readFields c.read ++
  [wordField c.badFrames, wordField c.protocolErrors] ++ rangeFields s.isolation ++ [wordOrNone c.wakeTimer] ++
  listFields (s.standingOnes b) fun n => [byteField n.val, byteField (s.stn n).standing.code]

/-- One cap entry as it is shown (R141). The attempt count, flow sent and grant kW sent of an entry not in flight are sent as
absent: DESIGN CHOICE, unsafe for those bytes (notes/assumptions/7.md). -/
def CapEntry.toFields (e : CapEntry) : List Field :=
  [byteField e.station.val, byteField e.seq, wordField e.targetGrant, wordField e.targetFlow, wordField e.dtUsed,
    flagField e.flight.isSome, wordOrNone (e.flight.map (·.attempts)), wordOrNone (e.flight.map (·.flowSent)),
    wordOrNone (e.flight.map (·.grantSent))]

/-- GET-BR (R141). -/
def State.onGetBr (s : State) (branch part : Nat) : State × Reply :=
  match branchOfNumber branch, part with
  | some b, 0 => (s, .data (s.branchPart0 b))
  | some b, 1 => (s, .data (listFields (s.br b).queue CapEntry.toFields))
  | _, _ => s.refuse .range

/-! ### GET-PLANT (R42, R56, R99, R182) -/

/-- One chiller record as it is shown (R42). -/
def Chiller.toFields (c : Chiller) : List Field :=
  [wordField c.settings.ratedKw, wordField c.settings.minRun, wordField c.settings.minOff,
    wordField c.settings.startConfirm, wordField c.settings.stopConfirm, byteField c.state.code, wordOrNone c.available,
    wordOrNone c.minRunTimer, wordOrNone c.minOffTimer, wordOrNone c.confirmTimer, wordField c.contribution]

/-- A tank mode, or absent. -/
def tankModeField (m : Option TankMode) : Field := ⟨1, (m.map TankMode.code).getD 0xFF⟩

/-- Part 0 of GET-PLANT: the plant records of R42. -/
def State.plantPart0 (s : State) : List Field :=
  allUnits.flatMap (fun u => (s.chiller u).toFields) ++
  [longField s.plant.tankCapacity, wordField s.plant.maxDischarge, longField s.plant.reserveLow,
    longField s.plant.reserveHigh, longOrNone s.tank.soc, tankModeField s.tank.mode, wordOrNone s.tank.rate,
    flagField s.tank.enabled, flagField s.pumpGroup.running, wordOrNone s.pumpGroup.speed] ++
  dpFields s.plantDp ++
  allAddresses.flatMap (fun a => [flagField (s.watched a), flagField (s.watch a).silent]) ++
  [longField s.chillerOutput, wordField s.storageDischarge, wordField s.plant.margin, longField s.capacity]

/-- A slot with its record, or none. -/
def State.slotFields (s : State) (i : Option (Fin 96)) : List Field :=
  [numberOrNone (i.map Fin.val), tankModeField (i.map fun i => (s.slot i).mode), wordOrNone (i.map fun i => (s.slot i).kw)]

/-- The load session as it stood when the request was taken (R56). The write pointer, which can stand at last + 1 and is named nowhere
in Table 11-4, is sent in one byte as a slot number is, and a closed session as flag 0 and three times none, 0xFF: DESIGN CHOICE,
unsafe for those bytes (notes/assumptions/7.md). -/
def sessionFields (l : Option LoadSession) : List Field :=
  [flagField l.isSome, numberOrNone (l.map (·.first)), numberOrNone (l.map (·.last)), numberOrNone (l.map (·.pointer))]

/-- Part 1 of GET-PLANT: the schedule and clock of R56, the allocator of R99, the PLANT-DEF settings and the link
counts of R187. While the clock is unset the next slot is sent as none, as the current one is: DESIGN CHOICE, unsafe for those
bytes (notes/assumptions/7.md). -/
def State.plantPart1 (s : State) : List Field :=
  [timeField s.clock] ++ s.slotFields s.currentSlot ++ s.slotFields (s.currentSlot.map (· + 1)) ++
  [wordField s.storageDischarge, wordField s.chargeAllowance, wordField s.plant.chargeStep,
    tankModeField (s.lastTankCommand.map (·.mode)), wordOrNone (s.lastTankCommand.map (·.rate))] ++
  sessionFields s.session ++
  [wordField s.plant.quantum, longField s.sumGrants, longField s.sumCommitted, signedField 4 s.headroom,
    byteField s.allocator.firmPtr.val, byteField s.allocator.flexPtr.val] ++
  listFields s.allocator.flexSnapshot (fun n => [byteField n.val]) ++
  [byteField s.allocator.flexShedPtr.val, byteField s.allocator.firmShedPtr.val] ++ s.plant.fields ++
  [wordField s.link.badFrames, wordField s.link.gaps, wordField s.link.overruns, wordField s.link.noticeLosses]

/-- GET-PLANT (R182). -/
def State.onGetPlant (s : State) (part : Nat) : State × Reply :=
  match part with
  | 0 => (s, .data s.plantPart0)
  | 1 => (s, .data s.plantPart1)
  | _ => s.refuse .range

/-! ### GET-REF (R169) -/

/-- The index settings of Table 9-2. -/
def RefSettings.toFields (r : RefSettings) : List Field :=
  [numberOrNone (r.primary.map Fin.val), numberOrNone (r.secondary.map Fin.val), flagField r.autoSwitch,
    byteField r.fallback.code, wordField r.revertDelay, wordField r.freshness, wordField r.indexSetpoint,
    wordField r.plantSetpoint]

/-- One index candidate: number, validity, index DP and age. -/
def State.candidateFields (s : State) (c : Option (Fin 48)) : List Field :=
  [numberOrNone (c.map Fin.val), flagField (s.candidateValid c)] ++ dpFields (c.bind fun n => (s.stn n).indexDp)

/-- The error of the last trim, 0x8000 for none, with its source. -/
def trimFields (t : Option TrimError) : List Field :=
  match t with
  | some t => [signedField 2 t.error, byteField t.source.code]
  | none => [wordField 0x8000, byteField 0xFF]

/-- The body of GET-REF. -/
def State.refFields (s : State) : List Field :=
  let p := s.pressure
  p.ref.toFields ++ p.pump.fields ++ [byteField p.source.code, flagField p.source.locked] ++
  s.candidateFields p.ref.primary ++ s.candidateFields p.ref.secondary ++ dpFields s.plantDp ++
  [flagField s.plantDpFresh, wordOrNone p.revertTimer, wordField p.trimTimer, wordOrNone p.speed,
    flagField s.pumpGroup.running, wordOrNone s.pumpGroup.speed] ++ trimFields p.lastTrim

/-- GET-REF (R169). -/
def State.onGetRef (s : State) : State × Reply := (s, .data s.refFields)

/-! ### GET-FAULTS (R177) -/

/-- One fault entry as it is shown (R170). -/
def FaultEntry.toFields (e : FaultEntry) : List Field :=
  [byteField e.kind.code, byteField e.subject, timeField e.firstSeen, wordField e.count, flagField e.active,
    flagField e.acked]

/-- The body of GET-FAULTS for the entries of a part. -/
def FaultList.toFields (l : FaultList) (entries : List FaultEntry) : List Field :=
  listFields entries FaultEntry.toFields ++
  [wordField l.overflowCount, flagField l.overflowUnacked, wordField l.mask.toNat, flagField l.relayClosed]

/-- GET-FAULTS (R177). -/
def State.onGetFaults (s : State) (part : Nat) : State × Reply :=
  match part with
  | 0 => (s, .data (s.faults.toFields (s.faults.entries.take 16)))
  | 1 => (s, .data (s.faults.toFields ((s.faults.entries.drop 16).take 16)))
  | _ => s.refuse .range

end Sys2Proof.Machine
end

