-- ==== Sys2Proof/Machine/Link.lean ====
section
/-!
DEFINITION. The supervisory link (Section 11): the receive buffer, taking a request, its reply, SAVE and RESTART, and the
frame that leaves the line (R179 to R181, R184, R186).
-/

namespace Sys2Proof.Machine

/-! ### One request (R181) -/

/-- A request handed to the block that owns it. SAVE and RESTART reach past their own event; their part here is the
reply to one carried out at once. -/
def State.carryOut (s : State) (tag : Nat) (r : Request) : State × Reply :=
  match r with
  | .clock tod => s.onClock tod
  | .stnDef f => s.onStnDef f
  | .stnDrop n => s.onStnDrop n
  | .brDef f => s.onBrDef f
  | .isolate base limit => s.onIsolate base limit
  | .chDef f => s.onChDef f
  | .chCmd unit command => s.onChCmd unit command
  | .plantDef p => s.onPlantDef p
  | .schedWin first last => s.onSchedWin first last
  | .schedData flag records => s.onSchedData flag records
  | .refDef f => s.onRefDef f
  | .pumpDef p => s.onPumpDef p
  | .brRest b => s.onBrRest b
  | .brWake b => s.onBrWake b
  | .meter n => s.onMeter tag n
  | .getStn n => s.onGetStn n
  | .getBr b part => s.onGetBr b part
  | .getPlant part => s.onGetPlant part
  | .getRef => s.onGetRef
  | .getFaults part => s.onGetFaults part
  | .faultAck kind subject => s.onFaultAck kind subject
  | .faultMask mask => s.onFaultMask mask
  | .save => s.doneEmpty
  | .restart => s.doneEmpty
  | .unknown _ => s.refuse .unknown
  | .badFormat _ => s.refuse .format

/-- Whether a reply is a refusal. -/
def Reply.isRefusal : Reply → Bool
  | .refused _ => true
  | .done _ => false
  | .data _ => false
  | .taken => false

/-- Whether a request carried out leaves an open load session open: SCHED-DATA, and SCHED-WIN, which has opened its own
(R51, R52). -/
def Request.keepsSession : Request → Bool
  | .schedData _ _ => true
  | .schedWin _ _ => true
  | _ => false

/-- A request answered DONE, DATA or TAKEN closes an open load session, unless it keeps it (R52). -/
def State.closeSession (s : State) (r : Request) (reply : Reply) : State :=
  if reply.isRefusal || r.keepsSession then s else { s with session := none }

/-- Issues a reply, after which the link waits for it to leave the line (R179, R180). -/
def State.reply (s : State) (tag : Nat) (reply : Reply) (phase : LinkPhase) : State :=
  { s with link := { s.link.issue (.reply tag reply) with phase := phase } }

/-! ### The stored image (R184) -/

/-- The settings as an image holds them. -/
def State.image (s : State) : Image where
  stations := Vector.ofFn fun n => if (s.stn n).state = .vacant then none else some (s.stn n).host
  branches := Vector.ofFn fun b => (s.br b).settings
  chillers := Vector.ofFn fun u => (s.chiller u).settings
  plant := s.plant
  ref := s.pressure.ref
  pump := s.pressure.pump
  isolation := s.isolation
  schedule := s.schedule
  mask := s.faults.mask

/-- Whether a SAVE is being written. -/
def LinkPhase.saves : LinkPhase → Bool
  | .saving _ _ => true
  | .idle => false
  | .replying _ => false
  | .restartDue => false

/-- The stored image after a write that did not complete: whatever the write left (R184). -/
def State.spoilImage (s : State) : State :=
  { s with stored := Config.freeImage s.freeCount, freeCount := s.freeCount + 1 }

/-- A loss of power or a RESET ends what the link was doing, its buffer and its queue; one that falls within a SAVE leaves
whatever the write left of the image (R184). -/
def State.cutSave (s : State) : State :=
  let s := if s.link.phase.saves then s.spoilImage else s
  { s with link := { s.link with rx := [], phase := .idle, sending := none, waiting := [] } }

/-! ### Receiving and taking (R179) -/

/-- A taken request handled whole as one event, and its reply issued; SAVE begins its write, and RESTART's warm restart
follows its reply (R179, R184, R186). -/
def State.handle (s : State) (f : HostFrame) : State :=
  match f.request with
  | .save => { s with link := { s.link with phase := .saving f.tag s.image } }
  | .restart => (s.closeSession .restart (.done [])).reply f.tag (.done []) (.replying true)
  | r =>
    let h := s.carryOut f.tag r
    (h.1.closeSession r h.2).reply f.tag h.2 (.replying false)

/-- The link takes the oldest waiting frame when it is idle. -/
def State.takeNext (s : State) : State :=
  match s.link.phase, s.link.rx with
  | .idle, f :: rest => { s with link := { s.link with rx := rest } }.handle f
  | _, _ => s

/-- A received frame joins the receive buffer, or is an overrun when two frames wait (R179). -/
def State.receive (s : State) (f : HostFrame) : State :=
  if 2 ≤ s.link.rx.length then
    ({ s with link := { s.link with overruns := countUp s.link.overruns } }.raise .linkOverrun 0).judgeRelay
  else { s with link := { s.link with rx := s.link.rx ++ [f] } }.takeNext

/-- The frame on the line has left it: the next waiting frame goes on the line (R180). -/
def Link.advance (l : Link) : Link :=
  match l.waiting with
  | [] => { l with sending := none }
  | f :: rest => { l with sending := some f, waiting := rest }

/-- A frame has been sent to its final byte (R179, R186). -/
def State.frameSent (s : State) : State :=
  match s.link.sending with
  | none => s
  | some f =>
    let s := { s with link := s.link.advance }
    if f.isNotice then s
    else match s.link.phase with
      | .replying false => { s with link := { s.link with phase := .idle } }.takeNext
      | .replying true => { s with link := { s.link with phase := .restartDue } }
      | .idle => s
      | .saving _ _ => s
      | .restartDue => s

/-- The read-back of a SAVE (R184): DONE with the image stored, or REFUSED STORE_FAILED with whatever the write left. -/
def State.saveReadBack (s : State) (agrees : Bool) : State :=
  match s.link.phase with
  | .saving tag image =>
    if agrees then
      ({ s with stored := some image }.closeSession .save (.done [])).reply tag (.done []) (.replying false)
    else s.spoilImage.reply tag (.refused .storeFailed) (.replying false)
  | .idle => s
  | .replying _ => s
  | .restartDue => s

end Sys2Proof.Machine
end

