-- ==== Sys2Proof/Machine/Starts.lean ====
section
/-!
DEFINITION. Cold start (R185), loss of power (R175) and warm restart (R186), with the values each block takes (R22, R23,
R40, R41, R97, R98, R139, R140, R168, R177).
-/

namespace Sys2Proof.Machine

/-! ### Cold start -/

/-- A station's hold timer started with a lost hold time; with 0 s it runs out within the event (R13, R14). -/
def Station.startHold (r : Station) (lostHold : Nat) : Station :=
  if lostHold = 0 then r.expireHold else { r with hold := some lostHold }

/-- A station's record after a cold start (R22): its host-agreed fields, or none for one the image does not define. -/
def Station.coldStart (h : Option HostFields) (isolated : Bool) (lostHold : Nat) : Station :=
  match h with
  | none => Station.vacantRecord
  | some h =>
    if isolated then Station.define h true
    else ((Station.define h false).confirmAtDesign h.contractKw).startHold lostHold

/-- The settings a cold start takes: a stored image whose CRC agrees and whose every setting lies in its range (R185). -/
def State.goodImage (s : State) : Option Image :=
  match s.stored with
  | some i => if i.inRange then some i else none
  | none => none

/-- The pressure reference unit after a cold start (R168). -/
def PressureUnit.fresh (ref : RefSettings) (pump : PumpSettings) : PressureUnit where
  ref := ref
  pump := pump
  source := .hold
  revertTimer := none
  trimTimer := pump.interval
  speed := none
  lastTrim := none

/-- The fault list after a cold start (R177). -/
def FaultList.fresh (mask : BitVec 10) : FaultList where
  entries := []
  overflowCount := 0
  overflowUnacked := false
  mask := mask
  relayClosed := false

/-- The link after a cold start, the first frame on the line being HELLO COLD (R185). -/
def Link.fresh (source : ConfigSource) : Link where
  rx := []
  phase := .idle
  sending := some (.notice (.hello false source))
  waiting := []
  badFrames := 0
  gaps := 0
  overruns := 0
  noticeLosses := 0
  source := source

/-- The part with the settings of an image and every block's cold-start values; the stored image, and what is the
model's own, are those of `s`. -/
def State.startFrom (s : State) (i : Image) (source : ConfigSource) : State where
  powered := true
  stations := Vector.ofFn fun n => Station.coldStart i.stations[n.val] (rangeHolds i.isolation n.val) i.plant.lostHold
  isolation := i.isolation
  chillers := Vector.ofFn fun u => Chiller.fresh i.chillers[u.val]
  tank := Tank.unheard
  pumpGroup := ⟨false, none⟩
  plantDp := none
  watches := Vector.replicate 11 ⟨false, 0⟩
  plant := i.plant
  capacity := 0
  clock := none
  schedule := i.schedule
  storageDischarge := 0
  chargeAllowance := 0
  lastTankCommand := none
  session := none
  allocator := Allocator.fresh
  branches := Vector.ofFn fun b => Branch.fresh i.branches[b.val]
  pressure := PressureUnit.fresh i.ref i.pump
  faults := FaultList.fresh i.mask
  link := Link.fresh source
  stored := s.stored
  busSent := s.busSent
  freeCount := s.freeCount
  pending := s.pending

/-- A cold start (R185): HELLO COLD on the line; with a bad image the defaults, and CONFIG_LOST raised behind it; each
enabled branch begins its first rotation. -/
def State.coldStart (s : State) : State :=
  let s := s.cutSave
  match s.goodImage with
  | some i => (s.startFrom i .stored).arbitrateAll.judgeRelay
  | none => ((s.startFrom Image.defaults .defaults).raise .configLost 0).arbitrateAll.judgeRelay

/-! ### Loss of power -/

/-- Power is lost: the relay opens (R175) and the clock is not kept (3.2). -/
def State.powerLoss (s : State) : State :=
  let s := s.cutSave
  { s with powered := false, clock := none, faults := { s.faults with relayClosed := false } }

/-! ### Warm restart -/

/-- A station's record after a warm restart (R23, R98, R131, R142). Of an ISOLATED one the station table leaves its fields as
they were (R23), and the blocks that own the grant ΔT, the branch-bound count and the next cap sequence (R1, Table 1-10) set
these by their own sections (R186), as R63, R82, R98 and R131 say (DEDUCED, unsafe for those three: notes/assumptions/16.md).
Every defined station takes design_dt as its grant ΔT (R63, R97, R98), though R91 keeps that of a station that leaves ACTIVE
for SEEKING here (DEDUCED, unsafe for that figure: notes/assumptions/16.md). The time since the last POLL runs on, which none
of these rules sets (DEDUCED, unsafe for that time right after the restart: notes/assumptions/36.md). -/
def Station.warmRestart (r : Station) (lostHold : Nat) : Station :=
  match r.state with
  | .vacant => r
  | .isolated => { r with grantDt := r.host.designDt, nextSeq := 0, boundCount := 0 }
  | .seeking => again
  | .attaching => again
  | .active => again
  | .lost => again
where
  /-- SEEKING, nothing requested, measured or granted, with the hold timer started. -/
  again : Station :=
    { r with
      state := .seeking
      requestKw := 0
      clamped := false
      supply := none
      ret := none
      measuredDt := none
      dtHold := 0
      indexDp := none
      grantKw := 0
      grantDt := r.host.designDt
      missCount := 0
      nextSeq := 0
      debounce := 0
      boundCount := 0
      standing := .uninvolved }.startHold lostHold

/-- A branch link controller after a warm restart (R140): as after a cold start, with its settings and the transaction in
flight, abandoned (R127). -/
def Branch.warmRestart (c : Branch) : Branch :=
  { Branch.fresh c.settings with txn := c.txn.map fun t => { t with abandoned := true } }

/-- A warm restart (R186), with the charge allowance worked out again (R48), the source judged afresh (R168), and HELLO
WARM issued last (DEDUCED, unsafe for the order of notices: notes/assumptions/17.md). -/
def State.warmRestart (s : State) : State :=
  let s' := { s with
    stations := Vector.ofFn fun n => (s.stn n).warmRestart s.plant.lostHold
    branches := Vector.ofFn fun b => (s.br b).warmRestart
    allocator := Allocator.fresh
    session := none
    link := { s.link with rx := [], phase := .idle } }
  let s' := (s'.arbitrateAll.settleStorage s true false).judgePressure s.pressure.ref
  (s'.notify (.hello true s.link.source)).judgeRelay

end Sys2Proof.Machine
end

