-- ==== Sys2Proof/Machine/Timers.lean ====
section
/-!
DEFINITION. Time: what a second does (R20, R25, R43, and every timer's remaining time), and what the running out of each
timer does. A timer's running out is an event of its own: it acts when that timer is running, and otherwise changes
nothing (DEDUCED, unsafe for when it may come: notes/assumptions/2.md).
-/

namespace Sys2Proof.Machine

/-! ### One second -/

/-- A station record one second later: hold timer, age of the index DP (R20), time since the last POLL (R154). -/
def Station.tick (r : Station) : Station :=
  { r with
    hold := tickDown r.hold
    indexDp := r.indexDp.map ageUp
    sincePoll := r.sincePoll.map countUp }

/-- A chiller record one second later. -/
def Chiller.tick (c : Chiller) : Chiller :=
  { c with
    minRunTimer := tickDown c.minRunTimer
    minOffTimer := tickDown c.minOffTimer
    confirmTimer := tickDown c.confirmTimer }

/-- A branch record one second later. -/
def Branch.tick (c : Branch) : Branch := { c with wakeTimer := tickDown c.wakeTimer }

/-- A freshness watch one second later (R26): the time unheard counts up to the 15 s that make a device silent. -/
def Watch.tick (w : Watch) : Watch := { w with unheard := min 15 (w.unheard + 1) }

/-- The pressure reference unit one second later. -/
def PressureUnit.tick (p : PressureUnit) : PressureUnit :=
  { p with revertTimer := tickDown p.revertTimer, trimTimer := p.trimTimer - 1 }

/-- The time of day a second later (R43). -/
def clockUp (tod : Nat) : Nat := (tod + 1) % 86400

/-- Every clock, age and timer a second later. -/
def State.age (s : State) : State :=
  { s with
    clock := s.clock.map clockUp
    stations := Vector.ofFn fun n => (s.stn n).tick
    chillers := Vector.ofFn fun u => (s.chiller u).tick
    branches := Vector.ofFn fun b => (s.br b).tick
    watches := Vector.ofFn fun a => if s.watched a then (s.watch a).tick else s.watch a
    plantDp := s.plantDp.map ageUp
    pressure := s.pressure.tick }

/-- A second passes (R43): at a slot change S_dis, A, the charge allowance and the tank command are worked out again
(R44), and otherwise the pressures alone are judged, their ages having moved (DEDUCED, unsafe within that second:
notes/assumptions/23.md). Ages that pass the freshness setting in one second are judged together, so a primary that goes stale
with the secondary is lost to the fallback, not to the secondary (R159 to R161: DESIGN CHOICE, unsafe for the station that
INDEX_LOST names, notes/assumptions/32.md). -/
def State.clockTick (s : State) : State :=
  let s' := s.age
  if s'.currentSlot = s.currentSlot then s'.finishPressure s else (s'.event.recapacity).finish s

/-! ### Timers that run out -/

/-- A station's hold timer runs out in SEEKING or LOST (R14); a fall of the committed draw calls for a pass. -/
def State.holdExpiry (s : State) (n : Fin 48) : State :=
  let r := s.stn n
  if r.hold.isSome ∧ (r.state = .seeking ∨ r.state = .lost) then (s.event.putStn n r.expireHold).finish s else s

/-- A watched device has been unheard for 15 s (R26). -/
def State.silence (s : State) (a : Fin 11) : State :=
  if s.watched a ∧ (s.watch a).silent = false then ((s.fallSilent a).event.recapacity).finish s else s

/-- A min-run timer runs out (R32). -/
def State.minRunExpiry (s : State) (u : Fin 8) : State :=
  if (s.chiller u).minRunTimer.isSome then ((s.minRunOut u).event.recapacity).finish s else s

/-- A min-off timer runs out (R32). -/
def State.minOffExpiry (s : State) (u : Fin 8) : State :=
  if (s.chiller u).minOffTimer.isSome then s.minOffOut u else s

/-- A confirm timer runs out (R32). -/
def State.confirmExpiry (s : State) (u : Fin 8) : State :=
  if (s.chiller u).confirmTimer.isSome then (s.confirmOut u).judgeRelay else s

/-- A reading whose age has passed a freshness setting: at least one second more than it (R158). -/
def DpReading.past (freshness : Nat) (d : DpReading) : DpReading := { d with age := max d.age (freshness + 1) }

/-- The age of a candidate's index DP passes the freshness setting (R158). -/
def State.indexDpStale (s : State) (n : Fin 48) : State :=
  let old := s.stn n
  if s.pressure.ref.primary = some n ∨ s.pressure.ref.secondary = some n then
    (s.setStn n { old with indexDp := old.indexDp.map (DpReading.past s.pressure.ref.freshness) }).finishPressure s
  else s

/-- The age of the plant DP passes the freshness setting (R158). -/
def State.plantDpStale (s : State) : State :=
  ({ s with plantDp := s.plantDp.map (DpReading.past s.pressure.ref.freshness) }).finishPressure s

/-- The revert timer runs out: the source becomes PRIMARY (R162). -/
def State.revertExpiry (s : State) : State :=
  if s.pressure.revertTimer.isSome then ((s.setRevert none).lock .primary).finishPressure s else s

/-- The trim timer runs out: a trim where R165 lets one be taken, and the timer started again. -/
def State.trimExpiry (s : State) : State := s.trim.restartTrim

/-- The wake timer of a WAKING branch runs out: LIVE, and a grant pass (R152). -/
def State.wakeExpiry (s : State) (b : Fin 6) : State :=
  if (s.br b).rest = .waking ∧ (s.br b).wakeTimer.isSome then
    (((s.enterLive b).event).callPass true).finish s
  else s

/-- A rotation in which no frame was sent ends 200 ms after its start (R129, R143); not while the branch is disabled, a
frame has been sent in it, or a slot of it is due. -/
def State.emptyRotationEnd (s : State) (b : Fin 6) : State :=
  if (s.br b).settings.window.isSome ∧ (s.br b).rotSent = false ∧ s.nextDue b = none then
    (s.endRotation b).settle s false false
  else s

/-- An ACTIVE station of a RESTING branch falls due for a POLL (R154), which goes out when the rotation comes to it (DEDUCED,
unsafe for which frame follows: notes/assumptions/19.md). -/
def State.restPollDue (s : State) (n : Fin 48) : State :=
  match s.branchOf n with
  | some b =>
    if (s.stn n).state = .active ∧ (s.br b).rest = .resting then
      (s.updStn n fun r => { r with sincePoll := r.sincePoll.map (max (s.br b).settings.restPoll) }).settle s false false
    else s
  | none => s

end Sys2Proof.Machine
end

