-- ==== Sys2Proof/Machine/FieldRows.lean ====
section
/-!
DEFINITION. The meanings of what happens on a branch segment. A frame that passes R123 is judged against the transaction that
waits (R124, R125), whatever row of the table it stands in (DESIGN CHOICE, safe: notes/assumptions/20.md).
-/

namespace Sys2Proof.Machine

/-- REPLY_TIMEOUT (R124, R126). -/
def execReplyTimeout (branch : Fin 6) (s : State) : Host.Outcome State Fault Refusal :=
  whilePowered (fun s => s.replyTimeout branch) s

/-- FIELD_GAP_TIMEOUT (R123). -/
def execFieldGapTimeout (branch : Fin 6) (s : State) : Host.Outcome State Fault Refusal :=
  whilePowered (fun s => s.countBad branch) s

/-- FIELD_BAD_FRAME (R123). -/
def execFieldBadFrame (branch : Fin 6) (s : State) : Host.Outcome State Fault Refusal :=
  whilePowered (fun s => s.countBad branch) s

/-- FIELD_INVALID_REPLY (R125). -/
def execFieldInvalidReply (branch : Fin 6) (frame : FieldFrame) (s : State) : Host.Outcome State Fault Refusal :=
  whilePowered (fun s => s.fieldFrame branch frame.address (parseReply frame)) s

/-- FIELD_UNAWAITED_FRAME (R123). -/
def execFieldUnawaitedFrame (branch : Fin 6) (frame : FieldFrame) (s : State) : Host.Outcome State Fault Refusal :=
  whilePowered (fun s => s.fieldFrame branch frame.address (parseReply frame)) s

/-- REPORT (R17). -/
def execReport (branch : Fin 6) (address : Nat) (f : ReportFields) (s : State) : Host.Outcome State Fault Refusal :=
  whilePowered (fun s => s.fieldFrame branch address (some (.report f))) s

/-- ADVERTISE (R7). -/
def execAdvertise (branch : Fin 6) (address caps standaloneKw presentCap revision : Nat) (s : State) : Host.Outcome State Fault Refusal :=
  whilePowered (fun s =>
    s.fieldFrame branch address (some (.advertise caps standaloneKw presentCap revision))) s

/-- CAP_ACK (R134). -/
def execCapAck (branch : Fin 6) (address seq : Nat) (s : State) : Host.Outcome State Fault Refusal :=
  whilePowered (fun s => s.fieldFrame branch address (some (.capAck seq))) s

/-- REST_ANSWER (R147). -/
def execRestAnswer (branch : Fin 6) (address answer : Nat) (s : State) : Host.Outcome State Fault Refusal :=
  whilePowered (fun s => s.fieldFrame branch address (some (.restAnswer answer))) s

/-- WAKE_ACK (R151). -/
def execWakeAck (branch : Fin 6) (address : Nat) (s : State) : Host.Outcome State Fault Refusal :=
  whilePowered (fun s => s.fieldFrame branch address (some .wakeAck)) s

/-- METER_DATA (R137). -/
def execMeterData (branch : Fin 6) (address energy volume : Nat) (s : State) : Host.Outcome State Fault Refusal :=
  whilePowered (fun s => s.fieldFrame branch address (some (.meterData energy volume))) s

end Sys2Proof.Machine
end

