-- ==== Sys2Proof/Machine/HostRows.lean ====
section
/-!
DEFINITION. The meanings of the host's requests: each is a frame received with that request, which an idle link takes and
handles at once, and which otherwise waits its turn in the receive buffer (R179). That a row is the frame is a DESIGN CHOICE, unsafe only for a busy
link (notes/assumptions/1.md).
-/

namespace Sys2Proof.Machine

/-- CLOCK (R43). -/
def execClock (tag tod : Nat) (s : State) : Host.Outcome State Fault Refusal :=
  whilePowered (fun s => s.receive ⟨tag, .clock tod⟩) s

/-- STN_DEF (R2 to R4). -/
def execStnDef (tag : Nat) (f : StnDefFields) (s : State) : Host.Outcome State Fault Refusal :=
  whilePowered (fun s => s.receive ⟨tag, .stnDef f⟩) s

/-- STN_DROP (R5). -/
def execStnDrop (tag station : Nat) (s : State) : Host.Outcome State Fault Refusal :=
  whilePowered (fun s => s.receive ⟨tag, .stnDrop station⟩) s

/-- BR_DEF (R117 to R119). -/
def execBrDef (tag : Nat) (f : BrDefFields) (s : State) : Host.Outcome State Fault Refusal :=
  whilePowered (fun s => s.receive ⟨tag, .brDef f⟩) s

/-- ISOLATE (R120, R121). -/
def execIsolate (tag base limit : Nat) (s : State) : Host.Outcome State Fault Refusal :=
  whilePowered (fun s => s.receive ⟨tag, .isolate base limit⟩) s

/-- CH_DEF (R28, R29). -/
def execChDef (tag : Nat) (f : ChDefFields) (s : State) : Host.Outcome State Fault Refusal :=
  whilePowered (fun s => s.receive ⟨tag, .chDef f⟩) s

/-- CH_CMD_START (R30): command code 0. -/
def execChCmdStart (tag unit : Nat) (s : State) : Host.Outcome State Fault Refusal :=
  whilePowered (fun s => s.receive ⟨tag, .chCmd unit 0⟩) s

/-- CH_CMD_STOP (R31): command code 1. -/
def execChCmdStop (tag unit : Nat) (s : State) : Host.Outcome State Fault Refusal :=
  whilePowered (fun s => s.receive ⟨tag, .chCmd unit 1⟩) s

/-- PLANT_DEF (R35, R57, R76). -/
def execPlantDef (tag : Nat) (p : PlantSettings) (s : State) : Host.Outcome State Fault Refusal :=
  whilePowered (fun s => s.receive ⟨tag, .plantDef p⟩) s

/-- SCHED_WIN (R51). -/
def execSchedWin (tag first last : Nat) (s : State) : Host.Outcome State Fault Refusal :=
  whilePowered (fun s => s.receive ⟨tag, .schedWin first last⟩) s

/-- SCHED_DATA_START (R53): flag START. -/
def execSchedDataStart (tag : Nat) (records : List SlotFields) (s : State) : Host.Outcome State Fault Refusal :=
  whilePowered (fun s => s.receive ⟨tag, .schedData 0 records⟩) s

/-- SCHED_DATA_CONTINUE (R53): flag CONTINUE. -/
def execSchedDataContinue (tag : Nat) (records : List SlotFields) (s : State) : Host.Outcome State Fault Refusal :=
  whilePowered (fun s => s.receive ⟨tag, .schedData 1 records⟩) s

/-- REF_DEF (R156, R163). -/
def execRefDef (tag : Nat) (f : RefDefFields) (s : State) : Host.Outcome State Fault Refusal :=
  whilePowered (fun s => s.receive ⟨tag, .refDef f⟩) s

/-- PUMP_DEF (R157). -/
def execPumpDef (tag : Nat) (p : PumpSettings) (s : State) : Host.Outcome State Fault Refusal :=
  whilePowered (fun s => s.receive ⟨tag, .pumpDef p⟩) s

/-- BR_REST (R145). -/
def execBrRest (tag branch : Nat) (s : State) : Host.Outcome State Fault Refusal :=
  whilePowered (fun s => s.receive ⟨tag, .brRest branch⟩) s

/-- BR_WAKE (R149). -/
def execBrWake (tag branch : Nat) (s : State) : Host.Outcome State Fault Refusal :=
  whilePowered (fun s => s.receive ⟨tag, .brWake branch⟩) s

/-- METER (R136). -/
def execMeter (tag station : Nat) (s : State) : Host.Outcome State Fault Refusal :=
  whilePowered (fun s => s.receive ⟨tag, .meter station⟩) s

/-- GET_STN (R24). -/
def execGetStn (tag station : Nat) (s : State) : Host.Outcome State Fault Refusal :=
  whilePowered (fun s => s.receive ⟨tag, .getStn station⟩) s

/-- GET_BR (R141). -/
def execGetBr (tag branch part : Nat) (s : State) : Host.Outcome State Fault Refusal :=
  whilePowered (fun s => s.receive ⟨tag, .getBr branch part⟩) s

/-- GET_PLANT (R182). -/
def execGetPlant (tag part : Nat) (s : State) : Host.Outcome State Fault Refusal :=
  whilePowered (fun s => s.receive ⟨tag, .getPlant part⟩) s

/-- GET_REF (R169). -/
def execGetRef (tag : Nat) (s : State) : Host.Outcome State Fault Refusal :=
  whilePowered (fun s => s.receive ⟨tag, .getRef⟩) s

/-- GET_FAULTS (R177). -/
def execGetFaults (tag part : Nat) (s : State) : Host.Outcome State Fault Refusal :=
  whilePowered (fun s => s.receive ⟨tag, .getFaults part⟩) s

/-- FAULT_ACK (R173): one kind and subject. -/
def execFaultAck (tag kind subject : Nat) (s : State) : Host.Outcome State Fault Refusal :=
  whilePowered (fun s => s.receive ⟨tag, .faultAck kind subject⟩) s

/-- FAULT_ACK_ALL (R173): kind code 0xFF. -/
def execFaultAckAll (tag : Nat) (s : State) : Host.Outcome State Fault Refusal :=
  whilePowered (fun s => s.receive ⟨tag, .faultAck 0xFF 0⟩) s

/-- FAULT_MASK (R174). -/
def execFaultMask (tag mask : Nat) (s : State) : Host.Outcome State Fault Refusal :=
  whilePowered (fun s => s.receive ⟨tag, .faultMask mask⟩) s

end Sys2Proof.Machine
end

