-- ==== Sys2Proof/Machine/LinkRows.lean ====
section
/-!
DEFINITION. The meanings of the commands of power and of the supervisory line: COLD_START, POWER_LOSS, the frames received
and sent, UNKNOWN_REQUEST, SAVE, SAVE_READ_BACK, RESTART and WARM_RESTART.
-/

namespace Sys2Proof.Machine

/-- COLD_START (R185): power is applied or the RESET input closed. -/
def execColdStart (s : State) : Host.Outcome State Fault Refusal :=
  .next s.coldStart

/-- POWER_LOSS (R175). -/
def execPowerLoss (s : State) : Host.Outcome State Fault Refusal :=
  whilePowered (fun s => s.powerLoss) s

/-- SUPERVISORY_FRAME_RECEIVED (R179): a frame that passes R178, its body read as Table 11-2 gives. -/
def execSupervisoryFrameReceived (kind tag : Nat) (body : List Byte) (s : State) : Host.Outcome State Fault Refusal :=
  whilePowered (fun s => s.receive ⟨tag, parseRequest kind body⟩) s

/-- SUPERVISORY_BAD_FRAME (R178). -/
def execSupervisoryBadFrame (s : State) : Host.Outcome State Fault Refusal :=
  whilePowered (fun s => { s with link := { s.link with badFrames := countUp s.link.badFrames } }) s

/-- SUPERVISORY_GAP_TIMEOUT (R178). -/
def execSupervisoryGapTimeout (s : State) : Host.Outcome State Fault Refusal :=
  whilePowered (fun s => { s with link := { s.link with gaps := countUp s.link.gaps } }) s

/-- FRAME_SENT (R179, R180). -/
def execFrameSent (s : State) : Host.Outcome State Fault Refusal :=
  whilePowered (fun s => s.frameSent) s

/-- UNKNOWN_REQUEST (R181): a frame whose KIND names no request. -/
def execUnknownRequest (tag kind : Nat) (s : State) : Host.Outcome State Fault Refusal :=
  whilePowered (fun s => s.receive ⟨tag, .unknown kind⟩) s

/-- SAVE (R184). -/
def execSave (tag : Nat) (s : State) : Host.Outcome State Fault Refusal :=
  whilePowered (fun s => s.receive ⟨tag, .save⟩) s

/-- SAVE_READ_BACK (R184): the read-back of the SAVE that runs, if one runs, agrees or not. -/
def execSaveReadBack (agrees : Bool) (s : State) : Host.Outcome State Fault Refusal :=
  whilePowered (fun s => s.saveReadBack agrees) s

/-- RESTART (R186). -/
def execRestart (tag : Nat) (s : State) : Host.Outcome State Fault Refusal :=
  whilePowered (fun s => s.receive ⟨tag, .restart⟩) s

/-- WARM_RESTART (R186): carried out once the DONE to a RESTART has left the line, and not otherwise. -/
def execWarmRestart (s : State) : Host.Outcome State Fault Refusal :=
  whilePowered (fun s => if s.link.phase = .restartDue then s.warmRestart else s) s

end Sys2Proof.Machine
end

