-- ==== Sys2Proof/Machine/PlantRows.lean ====
section
/-!
DEFINITION. The meanings of the plant bus reports (R25). A report from an address that is not watched is discarded.
-/

namespace Sys2Proof.Machine

/-- CHILLER_REPORT (R33, R34). -/
def execChillerReport (unit : Fin 8) (condition : RunCondition) (available : Nat) (s : State) : Host.Outcome State Fault Refusal :=
  whilePowered (fun s =>
    if s.watched (chillerAddress unit) then ((s.chillerReport unit condition available).event.recapacity).finish s else s) s

/-- TANK_REPORT (R36). -/
def execTankReport (soc : Nat) (mode : TankMode) (rate : Nat) (s : State) : Host.Outcome State Fault Refusal :=
  whilePowered (fun s =>
    if s.watched tankAddress then
      let e := (s.tankReport soc mode rate).event.recapacity
      (allocate e).settle s true true
    else s) s

/-- PUMP_REPORT (R38, R167). -/
def execPumpReport (running : Bool) (speed : Nat) (s : State) : Host.Outcome State Fault Refusal :=
  whilePowered (fun s => (s.pumpReport running speed).judgeRelay) s

/-- PLANT_DP_REPORT (R25, R38). -/
def execPlantDpReport (dp : Nat) (s : State) : Host.Outcome State Fault Refusal :=
  whilePowered (fun s => (s.plantDpReport dp).finishPressure s) s

/-- PLANT_FRAME_DISCARDED (R25): no device is heard, and nothing changes. -/
def execPlantFrameDiscarded (s : State) : Host.Outcome State Fault Refusal :=
  whilePowered (fun s => s) s

end Sys2Proof.Machine
end

