-- ==== Sys2Proof/Machine/TimerRows.lean ====
section
/-!
DEFINITION. The meanings of CLOCK_TICK and of the timers that run out.
-/

namespace Sys2Proof.Machine

/-- CLOCK_TICK (R43). -/
def execClockTick (s : State) : Host.Outcome State Fault Refusal :=
  whilePowered (fun s => s.clockTick) s

/-- HOLD_EXPIRY (R14). -/
def execHoldExpiry (station : Fin 48) (s : State) : Host.Outcome State Fault Refusal :=
  whilePowered (fun s => s.holdExpiry station) s

/-- DEVICE_SILENT (R26). -/
def execDeviceSilent (address : Fin 11) (s : State) : Host.Outcome State Fault Refusal :=
  whilePowered (fun s => s.silence address) s

/-- MIN_RUN_EXPIRY (R32). -/
def execMinRunExpiry (unit : Fin 8) (s : State) : Host.Outcome State Fault Refusal :=
  whilePowered (fun s => s.minRunExpiry unit) s

/-- MIN_OFF_EXPIRY (R32). -/
def execMinOffExpiry (unit : Fin 8) (s : State) : Host.Outcome State Fault Refusal :=
  whilePowered (fun s => s.minOffExpiry unit) s

/-- CONFIRM_EXPIRY (R32). -/
def execConfirmExpiry (unit : Fin 8) (s : State) : Host.Outcome State Fault Refusal :=
  whilePowered (fun s => s.confirmExpiry unit) s

/-- INDEX_DP_STALE (R158). -/
def execIndexDpStale (station : Fin 48) (s : State) : Host.Outcome State Fault Refusal :=
  whilePowered (fun s => s.indexDpStale station) s

/-- PLANT_DP_STALE (R158). -/
def execPlantDpStale (s : State) : Host.Outcome State Fault Refusal :=
  whilePowered (fun s => s.plantDpStale) s

/-- REVERT_EXPIRY (R162). -/
def execRevertExpiry (s : State) : Host.Outcome State Fault Refusal :=
  whilePowered (fun s => s.revertExpiry) s

/-- TRIM_EXPIRY (R165). -/
def execTrimExpiry (s : State) : Host.Outcome State Fault Refusal :=
  whilePowered (fun s => s.trimExpiry) s

/-- EMPTY_ROTATION_END (R129). -/
def execEmptyRotationEnd (branch : Fin 6) (s : State) : Host.Outcome State Fault Refusal :=
  whilePowered (fun s => s.emptyRotationEnd branch) s

/-- REST_POLL_DUE (R154). -/
def execRestPollDue (station : Fin 48) (s : State) : Host.Outcome State Fault Refusal :=
  whilePowered (fun s => s.restPollDue station) s

/-- WAKE_TIMER_EXPIRY (R152). -/
def execWakeTimerExpiry (branch : Fin 6) (s : State) : Host.Outcome State Fault Refusal :=
  whilePowered (fun s => s.wakeExpiry branch) s

end Sys2Proof.Machine
end

