-- ==== Sys2Proof/Machine/Dispatch.lean ====
section
/-!
DEFINITION. One arm per command, in the table's order.
-/

namespace Sys2Proof.Machine

def exec (i : Instr) (s : State) : Host.Outcome State Fault Refusal :=
  match i with
  | .coldStart => Sys2Proof.Machine.execColdStart s
  | .powerLoss => Sys2Proof.Machine.execPowerLoss s
  | .supervisoryFrameReceived kind tag body => Sys2Proof.Machine.execSupervisoryFrameReceived kind tag body s
  | .supervisoryBadFrame => Sys2Proof.Machine.execSupervisoryBadFrame s
  | .supervisoryGapTimeout => Sys2Proof.Machine.execSupervisoryGapTimeout s
  | .frameSent => Sys2Proof.Machine.execFrameSent s
  | .unknownRequest tag kind => Sys2Proof.Machine.execUnknownRequest tag kind s
  | .clock tag tod => Sys2Proof.Machine.execClock tag tod s
  | .stnDef tag f => Sys2Proof.Machine.execStnDef tag f s
  | .stnDrop tag station => Sys2Proof.Machine.execStnDrop tag station s
  | .brDef tag f => Sys2Proof.Machine.execBrDef tag f s
  | .isolate tag base limit => Sys2Proof.Machine.execIsolate tag base limit s
  | .chDef tag f => Sys2Proof.Machine.execChDef tag f s
  | .chCmdStart tag unit => Sys2Proof.Machine.execChCmdStart tag unit s
  | .chCmdStop tag unit => Sys2Proof.Machine.execChCmdStop tag unit s
  | .plantDef tag p => Sys2Proof.Machine.execPlantDef tag p s
  | .schedWin tag first last => Sys2Proof.Machine.execSchedWin tag first last s
  | .schedDataStart tag records => Sys2Proof.Machine.execSchedDataStart tag records s
  | .schedDataContinue tag records => Sys2Proof.Machine.execSchedDataContinue tag records s
  | .refDef tag f => Sys2Proof.Machine.execRefDef tag f s
  | .pumpDef tag p => Sys2Proof.Machine.execPumpDef tag p s
  | .brRest tag branch => Sys2Proof.Machine.execBrRest tag branch s
  | .brWake tag branch => Sys2Proof.Machine.execBrWake tag branch s
  | .meter tag station => Sys2Proof.Machine.execMeter tag station s
  | .getStn tag station => Sys2Proof.Machine.execGetStn tag station s
  | .getBr tag branch part => Sys2Proof.Machine.execGetBr tag branch part s
  | .getPlant tag part => Sys2Proof.Machine.execGetPlant tag part s
  | .getRef tag => Sys2Proof.Machine.execGetRef tag s
  | .getFaults tag part => Sys2Proof.Machine.execGetFaults tag part s
  | .faultAck tag kind subject => Sys2Proof.Machine.execFaultAck tag kind subject s
  | .faultAckAll tag => Sys2Proof.Machine.execFaultAckAll tag s
  | .faultMask tag mask => Sys2Proof.Machine.execFaultMask tag mask s
  | .save tag => Sys2Proof.Machine.execSave tag s
  | .saveReadBack agrees => Sys2Proof.Machine.execSaveReadBack agrees s
  | .restart tag => Sys2Proof.Machine.execRestart tag s
  | .warmRestart => Sys2Proof.Machine.execWarmRestart s
  | .clockTick => Sys2Proof.Machine.execClockTick s
  | .holdExpiry station => Sys2Proof.Machine.execHoldExpiry station s
  | .deviceSilent address => Sys2Proof.Machine.execDeviceSilent address s
  | .minRunExpiry unit => Sys2Proof.Machine.execMinRunExpiry unit s
  | .minOffExpiry unit => Sys2Proof.Machine.execMinOffExpiry unit s
  | .confirmExpiry unit => Sys2Proof.Machine.execConfirmExpiry unit s
  | .chillerReport unit condition available => Sys2Proof.Machine.execChillerReport unit condition available s
  | .tankReport soc mode rate => Sys2Proof.Machine.execTankReport soc mode rate s
  | .pumpReport running speed => Sys2Proof.Machine.execPumpReport running speed s
  | .plantDpReport dp => Sys2Proof.Machine.execPlantDpReport dp s
  | .plantFrameDiscarded => Sys2Proof.Machine.execPlantFrameDiscarded s
  | .indexDpStale station => Sys2Proof.Machine.execIndexDpStale station s
  | .plantDpStale => Sys2Proof.Machine.execPlantDpStale s
  | .revertExpiry => Sys2Proof.Machine.execRevertExpiry s
  | .trimExpiry => Sys2Proof.Machine.execTrimExpiry s
  | .replyTimeout branch => Sys2Proof.Machine.execReplyTimeout branch s
  | .fieldGapTimeout branch => Sys2Proof.Machine.execFieldGapTimeout branch s
  | .fieldBadFrame branch => Sys2Proof.Machine.execFieldBadFrame branch s
  | .fieldInvalidReply branch frame => Sys2Proof.Machine.execFieldInvalidReply branch frame s
  | .fieldUnawaitedFrame branch frame => Sys2Proof.Machine.execFieldUnawaitedFrame branch frame s
  | .report branch address f => Sys2Proof.Machine.execReport branch address f s
  | .advertise branch address caps standaloneKw presentCap revision => Sys2Proof.Machine.execAdvertise branch address caps standaloneKw presentCap revision s
  | .capAck branch address seq => Sys2Proof.Machine.execCapAck branch address seq s
  | .restAnswer branch address answer => Sys2Proof.Machine.execRestAnswer branch address answer s
  | .wakeAck branch address => Sys2Proof.Machine.execWakeAck branch address s
  | .meterData branch address energy volume => Sys2Proof.Machine.execMeterData branch address energy volume s
  | .emptyRotationEnd branch => Sys2Proof.Machine.execEmptyRotationEnd branch s
  | .restPollDue station => Sys2Proof.Machine.execRestPollDue station s
  | .wakeTimerExpiry branch => Sys2Proof.Machine.execWakeTimerExpiry branch s

end Sys2Proof.Machine
end

