-- ==== Sys2Proof/WellFormed.lean ====
section
/-!
DEFINITION. Which commands the wires can carry. A field of n bytes holds a number below 256^n (Table 11-4,
Table 7-3), a body at most 250 bytes (Table 11-1) and a station frame's body at most 32 (Table 7-2). Ranges that a
rule checks and refuses (RANGE, R181) are not among these: such a request is well formed, and is refused.
`exec` answers for every command, well formed or not (DESIGN CHOICE, safe: notes/assumptions/22.md).
-/

namespace Sys2Proof

open Machine

/-- Every field fits the bytes it is sent in. -/
def fieldsFit (fs : List Field) : Bool := fs.all fun f => decide (f.value < 256 ^ f.bytes)

/-- A KIND code that names a request (Table 11-2). -/
def isRequestKind (kind : Nat) : Bool := decide (1 ≤ kind ∧ kind ≤ 0x18)

/-- A request frame the wire can carry: TAG in a byte, every field in its bytes, the body no longer than 250. -/
def requestFits (tag : Nat) (r : Request) : Bool :=
  decide (tag < 256) && fieldsFit r.fields && decide ((encodeRequest r).length ≤ 250)

/-- A station frame the wire can carry. -/
def frameFits (f : FieldFrame) : Bool :=
  decide (f.address < 256) && decide (f.kind < 256) && decide (f.seq < 256) && decide (f.body.length ≤ 32)

/-- A typed station reply the wire can carry: the address and every field in their bytes. -/
def replyFits (address : Nat) (fs : List Field) : Bool := decide (address < 256) && fieldsFit fs

/-- A well-formed command: one that the wires can carry. -/
def Instr.wellFormed : Instr → Bool
  | .coldStart => true
  | .powerLoss => true
  | .supervisoryFrameReceived kind tag body => decide (kind < 256) && decide (tag < 256) && decide (body.length ≤ 250)
  | .supervisoryBadFrame => true
  | .supervisoryGapTimeout => true
  | .frameSent => true
  | .unknownRequest tag kind => decide (tag < 256) && decide (kind < 256) && !isRequestKind kind
  | .clock tag tod => requestFits tag (.clock tod)
  | .stnDef tag f => requestFits tag (.stnDef f)
  | .stnDrop tag n => requestFits tag (.stnDrop n)
  | .brDef tag f => requestFits tag (.brDef f)
  | .isolate tag lo hi => requestFits tag (.isolate lo hi)
  | .chDef tag f => requestFits tag (.chDef f)
  | .chCmdStart tag u => requestFits tag (.chCmd u 0)
  | .chCmdStop tag u => requestFits tag (.chCmd u 1)
  | .plantDef tag p => requestFits tag (.plantDef p)
  | .schedWin tag a b => requestFits tag (.schedWin a b)
  | .schedDataStart tag rs => requestFits tag (.schedData 0 rs)
  | .schedDataContinue tag rs => requestFits tag (.schedData 1 rs)
  | .refDef tag f => requestFits tag (.refDef f)
  | .pumpDef tag p => requestFits tag (.pumpDef p)
  | .brRest tag b => requestFits tag (.brRest b)
  | .brWake tag b => requestFits tag (.brWake b)
  | .meter tag n => requestFits tag (.meter n)
  | .getStn tag n => requestFits tag (.getStn n)
  | .getBr tag b p => requestFits tag (.getBr b p)
  | .getPlant tag p => requestFits tag (.getPlant p)
  | .getRef tag => requestFits tag .getRef
  | .getFaults tag p => requestFits tag (.getFaults p)
  | .faultAck tag k s => requestFits tag (.faultAck k s) && decide (k ≠ 0xFF)
  | .faultAckAll tag => requestFits tag (.faultAck 0xFF 0)
  | .faultMask tag m => requestFits tag (.faultMask m)
  | .save tag => requestFits tag .save
  | .saveReadBack _ => true
  | .restart tag => requestFits tag .restart
  | .warmRestart => true
  | .clockTick => true
  | .holdExpiry _ => true
  | .deviceSilent _ => true
  | .minRunExpiry _ => true
  | .minOffExpiry _ => true
  | .confirmExpiry _ => true
  | .chillerReport _ _ available => fieldsFit [⟨2, available⟩]
  | .tankReport soc _ rate => fieldsFit [⟨4, soc⟩, ⟨2, rate⟩]
  | .pumpReport _ speed => fieldsFit [⟨2, speed⟩]
  | .plantDpReport dp => fieldsFit [⟨2, dp⟩]
  | .plantFrameDiscarded => true
  | .indexDpStale _ => true
  | .plantDpStale => true
  | .revertExpiry => true
  | .trimExpiry => true
  | .replyTimeout _ => true
  | .fieldGapTimeout _ => true
  | .fieldBadFrame _ => true
  | .fieldInvalidReply _ f => frameFits f
  | .fieldUnawaitedFrame _ f => frameFits f
  | .report _ a f => replyFits a [⟨2, f.requestKw⟩, ⟨2, f.supply⟩, ⟨2, f.ret⟩, ⟨2, f.indexDp⟩]
  | .advertise _ a c k p v => replyFits a [⟨1, c⟩, ⟨2, k⟩, ⟨2, p⟩, ⟨1, v⟩]
  | .capAck _ a seq => replyFits a [⟨1, seq⟩]
  | .restAnswer _ a answer => replyFits a [⟨1, answer⟩]
  | .wakeAck _ a => replyFits a []
  | .meterData _ a e v => replyFits a [⟨4, e⟩, ⟨4, v⟩]
  | .emptyRotationEnd _ => true
  | .restPollDue _ => true
  | .wakeTimerExpiry _ => true

end Sys2Proof
end

