-- ==== Sys2Proof/Safety.lean ====
section
/-!
DEFINITION. What counts as a safe state, in the terms the statements use: the laws the manual states of the whole
machine (R64, R116, R166, R170, R175, R179, R180), a link ready for a request and what it looks like when it has answered, and
the part of the state that the end of an event never touches; and the forms in which the statements write operands.
-/

namespace Sys2Proof.Machine

/-! ### The supervisory link -/

/-- The reply an outgoing frame is, with its TAG; none for a notice. -/
def OutFrame.asReply : OutFrame → Option (Nat × Reply)
  | .reply tag r => some (tag, r)
  | .notice _ => none

/-- The replies on the line or waiting, each with its TAG, in order of issue. -/
def Link.replies (l : Link) : List (Nat × Reply) := (l.sending.toList ++ l.waiting).filterMap OutFrame.asReply

/-- The link holds no more than the manual lets it hold (R179, R180): two frames received, 16 notices waiting, one reply,
which is there exactly while the link waits for it to leave; nothing waits behind a free transmitter, and an idle link has
taken every frame. -/
def Link.lawful (l : Link) : Prop :=
  l.rx.length ≤ 2 ∧ l.waitingNotices.length ≤ 16 ∧ (l.sending = none → l.waiting = []) ∧
    match l.phase with
    | .idle => l.rx = [] ∧ l.replies = []
    | .replying _ => l.replies.length = 1
    | .saving _ _ => l.replies = []
    | .restartDue => l.replies = []

/-- A powered card whose link is idle with nothing waiting: the next request is taken at once (R179). -/
def State.ready (s : State) : Prop :=
  s.powered = true ∧ s.link.phase = .idle ∧ s.link.rx = [] ∧ s.link.replies = []

/-- The link has answered a request: its one reply is on the line or waits behind notices (R179, R180). -/
def State.answered (t : State) (tag : Nat) (r : Reply) : Prop :=
  t.link.phase = .replying false ∧ t.link.replies = [(tag, r)] ∧ t.link.rx = []

/-- A state with a reply issued and nothing else changed. -/
def State.answeredOnly (s : State) (tag : Nat) (r : Reply) : State :=
  { s with link := { s.link.issue (.reply tag r) with phase := .replying false } }

/-! ### The laws of the blocks -/

/-- At most 32 entries and at most one per kind and subject (R170). -/
def FaultList.lawful (l : FaultList) : Prop :=
  l.entries.length ≤ 32 ∧ l.entries.Pairwise fun a b => ¬ (a.kind = b.kind ∧ a.subject = b.subject)

/-- The relay is closed exactly while the card has power and an unacknowledged entry of an unmasked kind, or an
unacknowledged overflow, exists (R175). -/
def State.relayLawful (s : State) : Prop := s.faults.relayClosed = (s.powered && s.faults.alarm)

/-- Enabled windows never overlap, and each is a window (R116). -/
def State.windowsLawful (s : State) : Prop :=
  (∀ b : Fin 6, ∀ w, (s.br b).settings.window = some w → w.isWindow = true) ∧
    ∀ b c : Fin 6, b ≠ c → windowsOverlap (s.br b).settings.window (s.br c).settings.window = false

/-- The speed command lies within the configured minimum and maximum (R166, R167). -/
def State.speedLawful (s : State) : Prop :=
  s.pressure.pump.minSpeed ≤ s.pressure.pump.maxSpeed ∧
    ∀ v, s.pressure.speed = some v → s.pressure.pump.minSpeed ≤ v ∧ v ≤ s.pressure.pump.maxSpeed

/-- The source is PRIMARY or SECONDARY only while the selected station is valid by the candidate rule (R159). -/
def State.sourceLawful (s : State) : Prop :=
  (s.pressure.source = .primary → s.primaryValid = true) ∧ (s.pressure.source = .secondary → s.secondaryValid = true)

/-- The FLEX snapshot is a list of ACTIVE FLEX stations, each held at most once (R84, R86). -/
def State.snapshotLawful (s : State) : Prop :=
  s.allocator.flexSnapshot.Nodup ∧
    ∀ n ∈ s.allocator.flexSnapshot, (s.stn n).state = .active ∧ (s.stn n).host.cls = .flex

/-- Only ACTIVE stations hold a grant, the grants add up to no more than A (R104), and the quantum is one the manual
admits (R76). -/
def State.grantsLawful (s : State) : Prop :=
  (∀ n : Fin 48, (s.stn n).grantKw ≠ 0 → (s.stn n).state = .active) ∧
    s.sumGrants ≤ s.capacity ∧ 10 ≤ s.plant.quantum

/-- Every station's grant is at most its request, its request at most its contract, and its grant 0 kW unless it is ACTIVE in
a LIVE branch (R74). -/
def State.demandLawful (s : State) : Prop :=
  ∀ n : Fin 48, (s.stn n).grantKw ≤ (s.stn n).requestKw ∧ (s.stn n).requestKw ≤ (s.stn n).host.contractKw ∧
    ((s.stn n).grantKw ≠ 0 → (s.stn n).state = .active ∧ s.branchLive n = true)

/-! ### The laws of the branches and the counts -/

/-- In every enabled branch the grant caps of the window's stations add up to no more than the flow limit (R64). -/
def State.capsLawful (s : State) : Prop :=
  ∀ b : Fin 6, (s.br b).settings.window.isSome = true → s.capSum b ≤ s.flowLimit b

/-- A cap queue holds entries only for ACTIVE stations inside the window, only its head may be in flight, and at most one
entry of a station waits (R130). -/
def State.queuesLawful (s : State) : Prop :=
  ∀ b : Fin 6,
    (∀ e ∈ (s.br b).queue, (s.stn e.station).state = .active ∧ s.inWindow b e.station = true) ∧
    (∀ e ∈ (s.br b).queue.tail, e.flight = none) ∧
    (((s.br b).queue.filter fun e => e.flight.isNone).map fun e => e.station).Nodup

/-- The transaction a branch had has ended: while disabled it has none, and one it has was started since, so none abandoned
(R127, R128). -/
def Branch.freed (c : Branch) : Prop :=
  (c.settings.window = none → c.txn = none) ∧ ∀ x, c.txn = some x → x.abandoned = false

/-- A cap entry without what it holds while in flight (R130). -/
def CapEntry.grounded (e : CapEntry) : CapEntry := { e with flight := none }

/-- The four link counts lie in their range (R187). -/
def Link.countsLawful (l : Link) : Prop :=
  l.badFrames ≤ 65535 ∧ l.gaps ≤ 65535 ∧ l.overruns ≤ 65535 ∧ l.noticeLosses ≤ 65535

/-- An unacknowledged entry of a kind and subject stands on the list, active when the kind lasts (R171). -/
def FaultList.shows (l : FaultList) (k : FaultKind) (subject : Nat) : Prop :=
  ∃ e ∈ l.entries, e.kind = k ∧ e.subject = subject ∧ (k.lasting = true → e.active = true) ∧ e.acked = false

/-- A raise of a kind and subject is recorded in an entry: one exists already, or a place is free (R171). -/
def FaultList.records (l : FaultList) (k : FaultKind) (subject : Nat) : Prop :=
  l.holds k subject = true ∨ l.entries.length < 32

/-- No entry of a kind and subject is active (R172). -/
def FaultList.quiet (l : FaultList) (k : FaultKind) (subject : Nat) : Prop :=
  ∀ e ∈ l.entries, e.kind = k → e.subject = subject → e.active = false

/-! ### What the end of an event brings about -/

/-- A grant pass has ended: no headroom is left, or no ACTIVE station of a LIVE branch that wants more has branch room above its
grant (R75, R81, R82, R87). -/
def State.passEnded (s : State) : Prop :=
  s.headroom ≤ 0 ∨
    ∀ (n : Fin 48) (b : Fin 6), s.branchOf n = some b → (s.stn n).state = .active → (s.br b).rest = .live →
      (s.stn n).grantKw < (s.stn n).requestKw → s.room b n ≤ (s.stn n).grantKw

/-- The grants of `t` are those of `s` after cuts inside a scope in the order of the three stages: FLEX grants to 0 kW before any
FIRM one, every FIRM grant to its floor before one goes below it, and FIRM_CUT raised at each that does, in its entry or as an
overflow of a full list (R101, R105 to R107, R109, R171). -/
def State.shedInOrder (s t : State) (scope : Fin 48 → Prop) : Prop :=
  (∀ n, (t.stn n).grantKw ≤ (s.stn n).grantKw) ∧
  (∀ n, ¬ scope n → (t.stn n).grantKw = (s.stn n).grantKw) ∧
  ∀ n, (s.stn n).host.cls = .firm → (t.stn n).grantKw < (s.stn n).grantKw →
    (∀ m, scope m → (s.stn m).host.cls = .flex → (t.stn m).grantKw = 0) ∧
    ((t.stn n).grantKw < (s.stn n).host.floorKw →
      (∀ m, scope m → (s.stn m).host.cls = .firm → (t.stn m).grantKw ≤ (s.stn m).host.floorKw) ∧
      (t.faults.shows .firmCut n.val ∨ t.faults.overflowUnacked = true))

/-- Whether a tank command is sent (R49, R50): with no last command at a tank report alone, and otherwise when its mode differs
from the last one's, its rate by the charge step or more, or its rate is 0 kW after one above. -/
def tankDue (step : Nat) (last : Option TankCommand) (now : TankCommand) (reported : Bool) : Bool :=
  match last with
  | none => reported
  | some last =>
    decide (now.mode ≠ last.mode ∨ last.rate + step ≤ now.rate ∨ now.rate + step ≤ last.rate ∨
      (now.rate = 0 ∧ 0 < last.rate))

/-- From `s` to `t` the tank command has been worked out again, and put on the plant bus where R49 and R50 send it. -/
def State.tankSettled (s t : State) (reported : Bool) : Prop :=
  let now : TankCommand := match t.slotNow.mode with
    | .hold => ⟨.hold, 0⟩
    | .charge => ⟨.charge, t.chargeAllowance⟩
    | .discharge => ⟨.discharge, t.storageDischarge⟩
  if 0 < t.plant.tankCapacity ∧ tankDue t.plant.chargeStep s.lastTankCommand now reported = true
  then t.busSent = s.busSent ++ [.tankSet now.mode now.rate] ∧ t.lastTankCommand = some now
  else t.busSent = s.busSent ∧ t.lastTankCommand = s.lastTankCommand

/-! ### What the end of an event leaves alone -/

/-- A station's record without what the allocator, the cap queue, the rest state machine and the rotation write at the end
of an event: grant, branch-bound count, next cap sequence, standing and the time since the last POLL. -/
def Station.stable (r : Station) : Station :=
  { r with grantKw := 0, boundCount := 0, nextSeq := 0, standing := .uninvolved, sincePoll := none }

/-- What of the link the end of an event leaves alone: all but the notices it issues. -/
structure LinkKept where
  rx : List HostFrame
  phase : LinkPhase
  replies : List (Nat × Reply)
  badFrames : Nat
  gaps : Nat
  overruns : Nat
  source : ConfigSource

/-- What of the state the end of an event leaves alone (R78, R128, R158): the settings, the plant's records, the clock and
schedule, A, the speed command, the stored image, the queue of commands, and the stable part of every record. -/
structure Kept where
  powered : Bool
  stations : Fin 48 → Station
  isolation : Option Range
  chillers : Vector Chiller 8
  tank : Tank
  pumpGroup : PumpGroup
  plantDp : Option DpReading
  watches : Vector Watch 11
  plant : PlantSettings
  capacity : Nat
  clock : Option Nat
  schedule : Vector SlotRecord 96
  storageDischarge : Nat
  session : Option LoadSession
  branches : Fin 6 → BranchSettings × Nat × Nat
  ref : RefSettings
  pump : PumpSettings
  trimTimer : Nat
  speed : Option Nat
  lastTrim : Option TrimError
  mask : BitVec 10
  link : LinkKept
  stored : Option Image
  freeCount : Nat
  pending : List Instr

/-- The part of the link that the end of an event leaves alone. -/
def Link.kept (l : Link) : LinkKept where
  rx := l.rx
  phase := l.phase
  replies := l.replies
  badFrames := l.badFrames
  gaps := l.gaps
  overruns := l.overruns
  source := l.source

/-- The part of the state that the end of an event leaves alone. -/
def State.kept (s : State) : Kept where
  powered := s.powered
  stations := fun n => (s.stn n).stable
  isolation := s.isolation
  chillers := s.chillers
  tank := s.tank
  pumpGroup := s.pumpGroup
  plantDp := s.plantDp
  watches := s.watches
  plant := s.plant
  capacity := s.capacity
  clock := s.clock
  schedule := s.schedule
  storageDischarge := s.storageDischarge
  session := s.session
  branches := fun b => ((s.br b).settings, (s.br b).badFrames, (s.br b).protocolErrors)
  ref := s.pressure.ref
  pump := s.pressure.pump
  trimTimer := s.pressure.trimTimer
  speed := s.pressure.speed
  lastTrim := s.pressure.lastTrim
  mask := s.faults.mask
  link := s.link.kept
  stored := s.stored
  freeCount := s.freeCount
  pending := s.pending

/-- The kept part with a station's record changed. -/
def Kept.withStation (k : Kept) (n : Fin 48) (r : Station) : Kept :=
  { k with stations := fun m => if m = n then r.stable else k.stations m }

/-- The kept part once a request that an idle link took has been answered: its reply is issued, and an open load session is
closed (R52, R179). -/
def State.afterRequest (s : State) (tag : Nat) (r : Reply) : Kept :=
  { s.kept with
    session := none
    link := { s.link.kept with phase := .replying false, replies := [(tag, r)] } }

/-! ### Operands as the statements write them -/

/-- The STN-DEF that carries a station's host-agreed fields (R2). -/
def HostFields.asFrame (h : HostFields) (n : Fin 48) : StnDefFields :=
  ⟨n.val, h.cls.code, h.contractKw, h.floorKw, h.fallbackKw, h.designDt, h.dtMode.code, h.offered.code⟩

/-- The BR-DEF that carries a branch's settings (R117). -/
def BranchSettings.asFrame (c : BranchSettings) (b : Fin 6) : BrDefFields :=
  match c.window with
  | some w => ⟨b.val, 1, w.base, w.limit, c.flowLimit, c.rampStep, c.restThreshold, c.wakeTime, c.restPoll⟩
  | none => ⟨b.val, 0, 0, 0, c.flowLimit, c.rampStep, c.restThreshold, c.wakeTime, c.restPoll⟩

/-- The REF-DEF that carries the index settings (R156). -/
def RefSettings.asFrame (r : RefSettings) : RefDefFields :=
  ⟨(r.primary.map Fin.val).getD 0xFF, (r.secondary.map Fin.val).getD 0xFF, r.autoSwitch.toNat, r.fallback.code,
    r.revertDelay, r.freshness, r.indexSetpoint, r.plantSetpoint⟩

/-- The fields of a station's reply fit the bytes they are sent in (Table 7-3). -/
def FieldReply.fits : FieldReply → Bool
  | .report f => fieldsFit [⟨2, f.requestKw⟩, ⟨2, f.supply⟩, ⟨2, f.ret⟩, ⟨2, f.indexDp⟩]
  | .advertise c k p v => fieldsFit [⟨1, c⟩, ⟨2, k⟩, ⟨2, p⟩, ⟨1, v⟩]
  | .capAck seq => fieldsFit [⟨1, seq⟩]
  | .restAnswer a => fieldsFit [⟨1, a⟩]
  | .wakeAck => true
  | .meterData e v => fieldsFit [⟨4, e⟩, ⟨4, v⟩]

end Sys2Proof.Machine

namespace Sys2Proof

open Machine

/-- The request frame a typed request row stands for, with its TAG (Table 11-2); none for the other rows. -/
def Instr.asRequest : Instr → Option (Nat × Request)
  | .unknownRequest tag kind => some (tag, .unknown kind)
  | .clock tag tod => some (tag, .clock tod)
  | .stnDef tag f => some (tag, .stnDef f)
  | .stnDrop tag n => some (tag, .stnDrop n)
  | .brDef tag f => some (tag, .brDef f)
  | .isolate tag lo hi => some (tag, .isolate lo hi)
  | .chDef tag f => some (tag, .chDef f)
  | .chCmdStart tag u => some (tag, .chCmd u 0)
  | .chCmdStop tag u => some (tag, .chCmd u 1)
  | .plantDef tag p => some (tag, .plantDef p)
  | .schedWin tag a b => some (tag, .schedWin a b)
  | .schedDataStart tag rs => some (tag, .schedData 0 rs)
  | .schedDataContinue tag rs => some (tag, .schedData 1 rs)
  | .refDef tag f => some (tag, .refDef f)
  | .pumpDef tag p => some (tag, .pumpDef p)
  | .brRest tag b => some (tag, .brRest b)
  | .brWake tag b => some (tag, .brWake b)
  | .meter tag n => some (tag, .meter n)
  | .getStn tag n => some (tag, .getStn n)
  | .getBr tag b p => some (tag, .getBr b p)
  | .getPlant tag p => some (tag, .getPlant p)
  | .getRef tag => some (tag, .getRef)
  | .getFaults tag p => some (tag, .getFaults p)
  | .faultAck tag k n => some (tag, .faultAck k n)
  | .faultAckAll tag => some (tag, .faultAck 0xFF 0)
  | .faultMask tag m => some (tag, .faultMask m)
  | .save tag => some (tag, .save)
  | .restart tag => some (tag, .restart)
  | .coldStart | .powerLoss | .supervisoryFrameReceived _ _ _ | .supervisoryBadFrame | .supervisoryGapTimeout
  | .frameSent | .saveReadBack _ | .warmRestart | .clockTick | .holdExpiry _ | .deviceSilent _ | .minRunExpiry _
  | .minOffExpiry _ | .confirmExpiry _ | .chillerReport _ _ _ | .tankReport _ _ _ | .pumpReport _ _ | .plantDpReport _
  | .plantFrameDiscarded | .indexDpStale _ | .plantDpStale | .revertExpiry | .trimExpiry | .replyTimeout _
  | .fieldGapTimeout _ | .fieldBadFrame _ | .fieldInvalidReply _ _ | .fieldUnawaitedFrame _ _ | .report _ _ _
  | .advertise _ _ _ _ _ _ | .capAck _ _ _ | .restAnswer _ _ _ | .wakeAck _ _ | .meterData _ _ _ _
  | .emptyRotationEnd _ | .restPollDue _ | .wakeTimerExpiry _ => none

end Sys2Proof
end

