-- ==== Sys2Proof/Certificates/Slice0/Obligations.lean ====
section
/-!
DEFINITION. The statements for the provers. A statement about a command names the state it asks for and its operands alone,
and concludes that `exec` answers a next state, and what that state holds. `State.kept` is all of the state but what
the end of an event may write (the grants, the cap queues and the arbiters, the storage commands, the source, the fault
entries and waiting notices): where a command brings such an end, `kept` is stated whole; where it brings none, the next
state is.
-/

open Sys2Proof Sys2Proof.Machine

/-! ### The whole machine -/

/-- A step takes the command at the front of the queue and runs it on the state with the queue's rest. On an empty queue the
part stays as it is: that clause is the model's choice (notes/assumptions/3.md). -/
def Obligations.StepTakesTheFront : Prop :=
  ∀ s : State,
    (∀ c rest, s.pending = c :: rest → step s = exec c { s with pending := rest }) ∧
    (s.pending = [] → step s = .next s)

/-- No command touches the queue of waiting commands: the queue is the model's own (notes/assumptions/15.md). -/
def Obligations.ExecKeepsTheQueue : Prop :=
  ∀ (c : Instr) (s t : State), exec c s = .next t → t.pending = s.pending

/-- POWER_LOSS opens the relay (R175), and the clock, the link's buffers and what the link was doing are gone; a SAVE that
was being written leaves whatever the write left of the image (R184), a free value. The rest of the data stays where it is
until the cold start writes it, and a card without power takes nothing but COLD_START: both are the model's choice
(notes/assumptions/4.md, 6.md). -/
def Obligations.PowerIsLost : Prop :=
  (∀ s : State, s.powered = true →
    exec .powerLoss s = .next { s with
      powered := false
      clock := none
      faults := { s.faults with relayClosed := false }
      link := { s.link with rx := [], phase := .idle, sending := none, waiting := [] }
      stored := if s.link.phase.saves then Config.freeImage s.freeCount else s.stored
      freeCount := if s.link.phase.saves then s.freeCount + 1 else s.freeCount }) ∧
  ∀ (c : Instr) (s : State), s.powered = false → c ≠ .coldStart → exec c s = .next s

/-- The state after reset meets every law that the invariants below keep. -/
def Obligations.ResetMeetsTheLaws : Prop :=
  State.reset.faults.lawful ∧ State.reset.relayLawful ∧ State.reset.link.lawful ∧ State.reset.windowsLawful ∧
    State.reset.speedLawful ∧ State.reset.sourceLawful ∧ State.reset.grantsLawful ∧ State.reset.demandLawful ∧
    State.reset.snapshotLawful ∧ State.reset.capsLawful ∧ State.reset.queuesLawful ∧ State.reset.link.countsLawful

/-! ### Laws that every step keeps -/

/-- The fault list holds at most 32 entries and at most one entry per kind and subject (R170). -/
def Obligations.FaultListStaysLawful : Prop :=
  ∀ s t : State, s.faults.lawful → step s = .next t → t.faults.lawful

/-- The alert relay is closed exactly while an unacknowledged entry of an unmasked kind, or an unacknowledged overflow,
exists; without power it is open (R175). -/
def Obligations.RelayFollowsTheFaultList : Prop :=
  ∀ s t : State, s.relayLawful → step s = .next t → t.relayLawful

/-- The receive buffer holds up to two frames, the notice queue up to 16, and there is at most one reply, which is there
exactly while the link waits for it to leave (R179, R180). -/
def Obligations.LinkStaysLawful : Prop :=
  ∀ s t : State, s.link.lawful → step s = .next t → t.link.lawful

/-- Enabled windows never overlap, and each spans at most 12 stations (R116); the speed command always lies within the
configured minimum and maximum (R166); the source is PRIMARY or SECONDARY only while the selected station is valid (R159). -/
def Obligations.WindowsAndSpeedStayLawful : Prop :=
  (∀ s t : State, s.windowsLawful → step s = .next t → t.windowsLawful) ∧
  (∀ s t : State, s.speedLawful → step s = .next t → t.speedLawful) ∧
  ∀ s t : State, s.sourceLawful → step s = .next t → t.sourceLawful

/-- The sum of all stations' grants never exceeds A, and a grant above 0 kW belongs to an ACTIVE station (R74, R91). Every
station's grant is at most its request, its request at most its contract, and its grant 0 kW unless it is ACTIVE in a LIVE
branch (R74). The FLEX snapshot holds ACTIVE FLEX stations alone, each at most once (R84, R86). -/
def Obligations.GrantsNeverExceedCapacity : Prop :=
  (∀ s t : State, s.grantsLawful → step s = .next t → t.grantsLawful) ∧
  (∀ s t : State, s.windowsLawful → s.demandLawful → step s = .next t → t.demandLawful) ∧
  ∀ s t : State, s.snapshotLawful → step s = .next t → t.snapshotLawful

/-- In every enabled branch, the sum of the flow caps of its stations' grants never exceeds the branch flow limit (R64). -/
def Obligations.CapsNeverExceedTheFlowLimit : Prop :=
  ∀ s t : State, s.windowsLawful → s.grantsLawful → s.capsLawful → step s = .next t → t.capsLawful

/-- A cap queue holds entries only for ACTIVE stations inside its window, at most one that is not in flight for each, only
the head may be in flight, and so never more than 13 (R130). -/
def Obligations.CapQueuesStayLawful : Prop :=
  (∀ s t : State, s.windowsLawful → s.grantsLawful → s.queuesLawful → step s = .next t → t.queuesLawful) ∧
  ∀ s : State, s.windowsLawful → s.queuesLawful → ∀ b : Fin 6, (s.br b).queue.length ≤ 13

/-- The four link counts stay at 65535 once there, fall at no event but a cold start, and are 0 after one (R187). -/
def Obligations.LinkCountsOnlyRise : Prop :=
  (∀ (c : Instr) (s t : State), c ≠ .coldStart → s.link.countsLawful → exec c s = .next t →
    t.link.countsLawful ∧ s.link.badFrames ≤ t.link.badFrames ∧ s.link.gaps ≤ t.link.gaps ∧
      s.link.overruns ≤ t.link.overruns ∧ s.link.noticeLosses ≤ t.link.noticeLosses) ∧
  ∀ s t : State, exec .coldStart s = .next t →
    t.link.badFrames = 0 ∧ t.link.gaps = 0 ∧ t.link.overruns = 0 ∧ t.link.noticeLosses = 0

/-! ### The frames of the two links -/

/-- Every request whose fields fit their bytes is read back from the body it is sent in (Tables 11-2 and 11-4). -/
def Obligations.RequestsRoundTrip : Prop :=
  ∀ (tag : Nat) (r : Request), requestFits tag r = true →
    (∀ k, r ≠ .unknown k) → (∀ k, r ≠ .badFormat k) →
    (∀ flag rs, r = .schedData flag rs → 1 ≤ rs.length ∧ rs.length ≤ 24) →
    parseRequest r.kindCode (encodeRequest r) = r

/-- A supervisory frame, a station frame and a station's reply are read back from the bytes they are sent in (R122, R178,
Tables 7-2, 7-3 and 11-1). -/
def Obligations.FramesRoundTrip : Prop :=
  (∀ (kind tag : Nat) (body : List Byte), kind < 256 → tag < 256 → body.length ≤ 250 →
    readSupervisory (supervisoryWire kind tag body) = some (kind, tag, body)) ∧
  (∀ f : FieldFrame, frameFits f = true → readField (fieldWire f) = some f) ∧
  ∀ (address : Nat) (r : FieldReply), r.fits = true → parseReply (r.frame address) = some r

/-- Every typed request row is the SUPERVISORY_FRAME_RECEIVED of the frame that carries it (R181; notes/assumptions/1.md). A
SCHED-DATA of 0 or more than 24 records has no frame that carries it: its refusal is stated in `SchedDataIsLoaded`. -/
def Obligations.RequestRowsAreFrames : Prop :=
  ∀ (c : Instr) (tag : Nat) (r : Request) (s : State), c.asRequest = some (tag, r) → c.wellFormed = true →
    (∀ flag rs, r = .schedData flag rs → 1 ≤ rs.length ∧ rs.length ≤ 24) →
    exec c s = exec (.supervisoryFrameReceived r.kindCode tag (encodeRequest r)) s

/-! ### Flow cap arithmetic -/

/-- The limit cases of the flow cap (R60). -/
def Obligations.FlowCapLimits : Prop :=
  (∀ d, 10 ≤ d → d ≤ 150 → flowCap 0 d = 0) ∧
  (∀ k, 1 ≤ k → k ≤ 3 → flowCap k 150 = 0) ∧ flowCap 4 150 = 1 ∧ flowCap 1 10 = 2 ∧
  4186 * 10 = 41860 ∧ 20000 * 100000 + 4186 * 10 / 2 = 47778 * 41860 + 33850 ∧
  flowCap 20000 10 = 47778 ∧ flowCap 20000 150 = 3185 ∧
  ∀ k d, k ≤ 20000 → 10 ≤ d → d ≤ 150 → flowCap k d ≤ 47778

/-- The flow cap is the quotient rounded to the nearest whole dL/s, an exact half up; it never falls as the figure rises and
never rises as the difference rises (R59). The kW equivalent is the least whole number of kW not below the exact product, where
that product is at most 20000 kW, and 20000 kW above it: 0 kW of no flow, and at least 1 kW of any (R61). -/
def Obligations.ConversionsRound : Prop :=
  (∀ k d, 10 ≤ d → d ≤ 150 →
    2 * (k * 100000) < (2 * flowCap k d + 1) * (4186 * d) ∧
    2 * flowCap k d * (4186 * d) ≤ 2 * (k * 100000) + 4186 * d) ∧
  (∀ k m d, 10 ≤ d → k ≤ m → flowCap k d ≤ flowCap m d) ∧
  (∀ k d e, 10 ≤ d → d ≤ e → flowCap k e ≤ flowCap k d) ∧
  (∀ f d,
    (f * 4186 * d ≤ 20000 * 100000 →
      f * 4186 * d ≤ kwEquivalent f d * 100000 ∧ kwEquivalent f d * 100000 < f * 4186 * d + 100000) ∧
    (20000 * 100000 < f * 4186 * d → kwEquivalent f d = 20000)) ∧
  (∀ d, kwEquivalent 0 d = 0) ∧ (∀ f d, 1 ≤ f → 10 ≤ d → 1 ≤ kwEquivalent f d) ∧
  kwEquivalent 65534 150 = 20000 ∧ (65534 * 4186 * 150 + 99999) / 100000 = 411488

/-- A grant of room_kw at the grant ΔT has a cap no greater than the room in flow R, so a station given its whole room keeps
the cap sum at or below the limit (R66). -/
def Obligations.RoomNeverOverfillsABranch : Prop :=
  (∀ r d, 10 ≤ d → d ≤ 150 → flowCap (kwRoom r d) d ≤ r) ∧
  ∀ (s : State) (b : Fin 6) (n : Fin 48), s.inWindow b n = true → s.capSum b ≤ s.flowLimit b →
    10 ≤ (s.stn n).grantDt → (s.stn n).grantDt ≤ 150 →
    (s.updStn n fun r => { r with grantKw := s.room b n }).capSum b ≤ s.flowLimit b

/-! ### Power and the supervisory line -/

/-- A cold start from a good image: its settings and every block's cold-start values (R13, R14, R22, R40, R43, R45, R97, R139,
R168, R185); HELLO COLD with source STORED is on the line (R183). A SAVE that is cut short leaves a free image in memory, which is
judged as any other (R184; notes/assumptions/6.md). What a VACANT record and a watch begin with is the model's choice
(notes/assumptions/24.md). -/
def Obligations.ColdStartTakesTheStoredImage : Prop :=
  ∀ (s : State) (i : Image),
    (if s.link.phase.saves then Config.freeImage s.freeCount else s.stored) = some i → i.inRange = true →
    ∃ t, exec .coldStart s = .next t ∧
      t.powered = true ∧ t.stored = some i ∧ t.plant = i.plant ∧ t.schedule = i.schedule ∧ t.isolation = i.isolation ∧
      t.pressure.ref = i.ref ∧ t.pressure.pump = i.pump ∧ t.faults.mask = i.mask ∧
      (∀ b : Fin 6, (t.br b).settings = i.branches[b.val] ∧ (t.br b).queue = [] ∧ (t.br b).read = none ∧
        (t.br b).rest = .live ∧ (t.br b).idleCount = 0 ∧ (t.br b).wakeTimer = none ∧ (t.br b).badFrames = 0 ∧
        (t.br b).protocolErrors = 0) ∧
      (∀ u : Fin 8, t.chiller u = ⟨i.chillers[u.val], .unknown, none, none, none, none⟩) ∧
      (∀ n : Fin 48, i.stations[n.val] = none → t.stn n = Station.vacantRecord) ∧
      (∀ (n : Fin 48) (h : HostFields), i.stations[n.val] = some h →
        (t.stn n).host = h ∧ (t.stn n).advert = none ∧ (t.stn n).requestKw = 0 ∧ (t.stn n).clamped = false ∧
        (t.stn n).supply = none ∧ (t.stn n).ret = none ∧ (t.stn n).measuredDt = none ∧ (t.stn n).dtHold = 0 ∧
        (t.stn n).indexDp = none ∧ (t.stn n).grantKw = 0 ∧ (t.stn n).grantDt = h.designDt ∧
        (t.stn n).confirmedDt = h.designDt ∧ (t.stn n).missCount = 0 ∧ (t.stn n).nextSeq = 0 ∧
        (t.stn n).debounce = 0 ∧ (t.stn n).boundCount = 0 ∧
        if rangeHolds i.isolation n.val then
          (t.stn n).state = .isolated ∧ (t.stn n).confirmedKw = 0 ∧ (t.stn n).confirmedFlow = 0 ∧ (t.stn n).hold = none
        else if i.plant.lostHold = 0 then
          (t.stn n).state = .seeking ∧ (t.stn n).confirmedKw = h.fallbackKw ∧
          (t.stn n).confirmedFlow = flowCap h.fallbackKw h.designDt ∧ (t.stn n).hold = none
        else
          (t.stn n).state = .seeking ∧ (t.stn n).confirmedKw = h.contractKw ∧
          (t.stn n).confirmedFlow = flowCap h.contractKw h.designDt ∧ (t.stn n).hold = some i.plant.lostHold) ∧
      t.tank = ⟨none, none, none, false⟩ ∧ t.pumpGroup = ⟨false, none⟩ ∧ t.plantDp = none ∧
      (∀ a : Fin 11, t.watch a = ⟨false, 0⟩) ∧ t.capacity = 0 ∧ t.clock = none ∧ t.storageDischarge = 0 ∧
      t.chargeAllowance = 0 ∧ t.lastTankCommand = none ∧ t.session = none ∧ t.allocator = ⟨0, 0, [], 47, 47⟩ ∧
      t.pressure.source = .hold ∧ t.pressure.revertTimer = none ∧ t.pressure.trimTimer = i.pump.interval ∧
      t.pressure.speed = none ∧ t.pressure.lastTrim = none ∧
      t.faults = ⟨[], 0, false, i.mask, false⟩ ∧
      t.link = ⟨[], .idle, some (.notice (.hello false .stored)), [], 0, 0, 0, 0, .stored⟩

/-- A cold start from a bad image: the defaults, CONFIG_LOST with subject 0 stamped clock unset, the relay closed, HELLO COLD
with source DEFAULTS on the line and the FAULT notice behind it; the image stays as it is (R177, R185), or as a SAVE that is
cut short leaves it, a free value (R184; notes/assumptions/6.md). That overlapping windows make an image bad, and what a VACANT
record begins with, are the model's (notes/assumptions/18.md, 24.md). -/
def Obligations.ColdStartFromABadImage : Prop :=
  ∀ s : State,
    let stored := if s.link.phase.saves then Config.freeImage s.freeCount else s.stored
    (∀ i, stored = some i → i.inRange = false) →
    ∃ t, exec .coldStart s = .next t ∧
      t.powered = true ∧ t.stored = stored ∧
      (∀ n : Fin 48, t.stn n = Station.vacantRecord) ∧ t.isolation = none ∧
      (∀ b : Fin 6, (t.br b).settings = ⟨none, 0, 0, 0, 60, 30⟩ ∧ (t.br b).txn = none) ∧
      (∀ u : Fin 8, t.chiller u = ⟨⟨0, 600, 900, 300, 600⟩, .unknown, none, none, none, none⟩) ∧
      t.plant = ⟨0, 250, 30, 600, 0, 0, 0, 1, 100⟩ ∧ (∀ i : Fin 96, t.slot i = ⟨.hold, 0⟩) ∧
      t.pressure = ⟨⟨none, none, false, .plant, 60, 15, 800, 1500⟩, ⟨20, 5, 100, 20, 300, 1000⟩, .hold, none, 5, none,
        none⟩ ∧
      t.clock = none ∧ t.capacity = 0 ∧ t.session = none ∧
      t.faults = ⟨[⟨.configLost, 0, none, 1, false, false⟩], 0, false, 0, true⟩ ∧
      t.link = ⟨[], .idle, some (.notice (.hello false .defaults)), [.notice (.fault .configLost 0 none false)],
        0, 0, 0, 0, .defaults⟩

/-- A received frame joins the receive buffer while the link is busy; a frame received while two wait is discarded, the
overrun count rises and LINK_OVERRUN is raised with subject 0 (R179). -/
def Obligations.ReceivedFramesWaitOrOverrun : Prop :=
  ∀ (s : State) (kind tag : Nat) (body : List Byte), s.powered = true →
    (s.link.rx.length < 2 → s.link.phase ≠ .idle →
      exec (.supervisoryFrameReceived kind tag body) s =
        .next { s with link := { s.link with rx := s.link.rx ++ [⟨tag, parseRequest kind body⟩] } }) ∧
    (2 ≤ s.link.rx.length →
      ∃ t, exec (.supervisoryFrameReceived kind tag body) s = .next t ∧
        t.kept = { s.kept with link := { s.link.kept with overruns := min 65535 (s.link.overruns + 1) } } ∧
        t.stations = s.stations ∧ t.branches = s.branches ∧ t.busSent = s.busSent ∧
        (s.faults.records .linkOverrun 0 → t.faults.shows .linkOverrun 0))

/-- Frames that are discarded or disregarded are counted and do nothing else (R123, R125, R178): a bad frame and a gap of the
supervisory line, a bad frame and a gap of a segment, a frame that is no valid reply during a transaction. A frame that arrives
while no reply is awaited is not even counted, nor is one from an ISOLATED station (R15, R121) while the transaction that waits
is to another station: that clause is the model's reading against R125 (notes/assumptions/29.md). -/
def Obligations.DiscardedFramesAreOnlyCounted : Prop :=
  ∀ s : State, s.powered = true →
    exec .supervisoryBadFrame s =
      .next { s with link := { s.link with badFrames := min 65535 (s.link.badFrames + 1) } } ∧
    exec .supervisoryGapTimeout s = .next { s with link := { s.link with gaps := min 65535 (s.link.gaps + 1) } } ∧
    ∀ b : Fin 6,
      exec (.fieldBadFrame b) s =
        .next (s.updBr b fun c => { c with badFrames := min 65535 (c.badFrames + 1) }) ∧
      exec (.fieldGapTimeout b) s =
        .next (s.updBr b fun c => { c with badFrames := min 65535 (c.badFrames + 1) }) ∧
      ∀ f : FieldFrame,
        ((s.br b).txn = none → exec (.fieldUnawaitedFrame b f) s = .next s) ∧
        ∀ x, (s.br b).txn = some x →
          (∀ m : Fin 48, f.address = m.val → m ≠ x.station → (s.stn m).state = .isolated →
            exec (.fieldInvalidReply b f) s = .next s ∧ exec (.fieldUnawaitedFrame b f) s = .next s) ∧
          ((∀ m : Fin 48, f.address = m.val → m ≠ x.station → (s.stn m).state ≠ .isolated) →
            (parseReply f = none ∨ ∃ r, parseReply f = some r ∧ (f.address ≠ x.station.val ∨ x.kind.pairs r = false)) →
            exec (.fieldInvalidReply b f) s =
              .next (s.updBr b fun c => { c with protocolErrors := min 65535 (c.protocolErrors + 1) }))

/-- A frame that has left the line makes room for the next waiting one (R180); when it is the reply, the link is idle, or the
warm restart of a RESTART falls due (R186). An idle link takes the oldest received frame within the event: the next state is that
frame handled on the idle link, and, where it was the only one, what its request row gives there (R179). -/
def Obligations.SentFramesMakeRoom : Prop :=
  ∀ (s : State) (f : OutFrame), s.powered = true → s.link.sending = some f →
    let next := { s.link with sending := s.link.waiting.head?, waiting := s.link.waiting.tail }
    (f.isNotice = true → exec .frameSent s = .next { s with link := next }) ∧
    (f.isNotice = false → s.link.phase = .replying true →
      exec .frameSent s = .next { s with link := { next with phase := .restartDue } }) ∧
    (f.isNotice = false → s.link.phase = .replying false → s.link.rx = [] →
      exec .frameSent s = .next { s with link := { next with phase := .idle } }) ∧
    ∀ g rest, f.isNotice = false → s.link.phase = .replying false → s.link.rx = g :: rest →
      let idle := { s with link := { next with phase := .idle, rx := rest } }
      exec .frameSent s = .next (State.handle idle g) ∧
        ∀ c, c.asRequest = some (g.tag, g.request) → rest = [] → idle.link.replies = [] → exec .frameSent s = exec c idle

/-- SAVE holds the image of the settings as they stand when it is taken, and no reply is sent yet. A read-back that agrees
stores it, answered DONE; one that does not is answered REFUSED STORE_FAILED, the image being whatever the write left, a free
value (R184). -/
def Obligations.SaveWritesTheSettings : Prop :=
  (∀ (s : State) (tag : Nat), s.ready →
    ∃ i : Image, exec (.save tag) s = .next { s with link := { s.link with phase := .saving tag i } } ∧
      (∀ n : Fin 48, i.stations[n.val] = if (s.stn n).state = .vacant then none else some (s.stn n).host) ∧
      (∀ b : Fin 6, i.branches[b.val] = (s.br b).settings) ∧ (∀ u : Fin 8, i.chillers[u.val] = (s.chiller u).settings) ∧
      i.plant = s.plant ∧ i.ref = s.pressure.ref ∧ i.pump = s.pressure.pump ∧ i.isolation = s.isolation ∧
      i.schedule = s.schedule ∧ i.mask = s.faults.mask) ∧
  (∀ (s : State) (tag : Nat) (i : Image), s.powered = true → s.link.phase = .saving tag i →
    exec (.saveReadBack true) s =
      .next (State.answeredOnly { s with stored := some i, session := none } tag (.done [])) ∧
    exec (.saveReadBack false) s =
      .next (State.answeredOnly { s with stored := Config.freeImage s.freeCount, freeCount := s.freeCount + 1 } tag
        (.refused .storeFailed)))

/-- RESTART is answered DONE and closes a load session, and its warm restart follows the reply: every block's warm-restart
values, the settings, the plant and the clock kept, and HELLO WARM issued last (R23, R41, R98, R140, R168, R177, R186). S_dis
is kept, and the charge allowance and the tank command are worked out again (R48, R49). The source is the one the fallback
rule gives; a station that was selected gets its INDEX_LOST, and every other entry and the overflow stay (R168, R177). That it
is last even behind a FAULT notice the restart itself causes, which three figures of an ISOLATED record their owners set beside
the fields that R23 keeps, and that the grant ΔT of the others is design_dt where R91 keeps it, are the model's readings (notes/assumptions/17.md, 16.md). -/
def Obligations.RestartsKeepTheSettings : Prop :=
  (∀ (s : State) (tag : Nat), s.ready →
    exec (.restart tag) s = .next { s with
      session := none
      link := { s.link.issue (.reply tag (.done [])) with phase := .replying true } }) ∧
  ∀ s : State, s.powered = true → s.link.phase = .restartDue → (s.link.sending = none → s.link.waiting = []) →
    ∃ t, exec .warmRestart s = .next t ∧
      t.plant = s.plant ∧ t.chillers = s.chillers ∧ t.tank = s.tank ∧ t.pumpGroup = s.pumpGroup ∧
      t.plantDp = s.plantDp ∧ t.watches = s.watches ∧ t.capacity = s.capacity ∧ t.clock = s.clock ∧
      t.schedule = s.schedule ∧ t.isolation = s.isolation ∧ t.stored = s.stored ∧ t.session = none ∧
      t.allocator = ⟨0, 0, [], 47, 47⟩ ∧ t.faults.mask = s.faults.mask ∧
      t.pressure.ref = s.pressure.ref ∧ t.pressure.pump = s.pressure.pump ∧ t.pressure.speed = s.pressure.speed ∧
      t.pressure.trimTimer = s.pressure.trimTimer ∧ t.pressure.lastTrim = s.pressure.lastTrim ∧
      t.pressure.revertTimer = none ∧ t.pressure.source.locked = false ∧
      (∀ b : Fin 6, (t.br b).settings = (s.br b).settings ∧ (t.br b).queue = [] ∧ (t.br b).read = none ∧
        (t.br b).rest = .live ∧ (t.br b).idleCount = 0 ∧ (t.br b).wakeTimer = none ∧ (t.br b).badFrames = 0 ∧
        (t.br b).protocolErrors = 0 ∧
        ∀ x, (s.br b).txn = some x → (t.br b).txn = some { x with abandoned := true }) ∧
      (∀ n : Fin 48, (s.stn n).state = .vacant → t.stn n = s.stn n) ∧
      (∀ n : Fin 48, (s.stn n).state = .isolated →
        t.stn n = { s.stn n with grantDt := (s.stn n).host.designDt, nextSeq := 0, boundCount := 0 }) ∧
      (∀ n : Fin 48, (s.stn n).state ≠ .vacant → (s.stn n).state ≠ .isolated →
        (t.stn n).state = .seeking ∧ (t.stn n).host = (s.stn n).host ∧ (t.stn n).advert = (s.stn n).advert ∧
        (t.stn n).requestKw = 0 ∧ (t.stn n).clamped = false ∧ (t.stn n).supply = none ∧ (t.stn n).ret = none ∧
        (t.stn n).measuredDt = none ∧ (t.stn n).dtHold = 0 ∧ (t.stn n).indexDp = none ∧ (t.stn n).grantKw = 0 ∧
        (t.stn n).grantDt = (s.stn n).host.designDt ∧ (t.stn n).missCount = 0 ∧ (t.stn n).nextSeq = 0 ∧
        (t.stn n).debounce = 0 ∧ (t.stn n).boundCount = 0 ∧ (t.stn n).standing = .uninvolved ∧
        if s.plant.lostHold = 0 then
          (t.stn n).hold = none ∧ (t.stn n).confirmedKw = (s.stn n).assumedKw ∧
          (t.stn n).confirmedFlow = flowCap (s.stn n).assumedKw (s.stn n).host.designDt ∧
          (t.stn n).confirmedDt = (s.stn n).host.designDt
        else
          (t.stn n).hold = some s.plant.lostHold ∧ (t.stn n).confirmedKw = (s.stn n).confirmedKw ∧
          (t.stn n).confirmedFlow = (s.stn n).confirmedFlow ∧ (t.stn n).confirmedDt = (s.stn n).confirmedDt) ∧
      t.storageDischarge = s.storageDischarge ∧ t.chargeAllowance = t.chargeNow ∧ s.tankSettled t false ∧
      (let fallback : Source := if s.pressure.ref.fallback = .plant ∧ s.plantDpFresh = true then .plant else .hold
      let lost : Option (Fin 48) := match s.pressure.source with
        | .primary => s.pressure.ref.primary
        | .secondary => s.pressure.ref.secondary
        | .plant => none
        | .hold => none
      let others (l : FaultList) := l.entries.filter fun e => !lost.any fun n => e.names .indexLost n.val
      t.pressure.source = fallback ∧ others t.faults = others s.faults ∧
        (∀ n, lost = some n → s.faults.records .indexLost n.val → t.faults.shows .indexLost n.val) ∧
        ((∀ n, lost = some n → s.faults.records .indexLost n.val) →
          t.faults.overflowCount = s.faults.overflowCount ∧ t.faults.overflowUnacked = s.faults.overflowUnacked)) ∧
      t.link.rx = [] ∧ t.link.phase = .idle ∧
      (t.link.sending.toList ++ t.link.waiting).getLast? = some (.notice (.hello true s.link.source))

/-! ### Host requests -/

/-- Every request taken gets one reply, but a SAVE, which is answered when its write is complete; a request code that names no
request is refused UNKNOWN, a body of the wrong length FORMAT, and a refused request changes none of the state (R181). -/
def Obligations.RefusedRequestsChangeNothing : Prop :=
  ∀ (s : State) (tag kind : Nat) (body : List Byte), s.ready →
    exec (.unknownRequest tag kind) s = .next (s.answeredOnly tag (.refused .unknown)) ∧
    (isRequestKind kind = false →
      exec (.supervisoryFrameReceived kind tag body) s = .next (s.answeredOnly tag (.refused .unknown))) ∧
    ((∃ k, parseRequest kind body = .badFormat k) →
      exec (.supervisoryFrameReceived kind tag body) s = .next (s.answeredOnly tag (.refused .format))) ∧
    ∃ t, exec (.supervisoryFrameReceived kind tag body) s = .next t ∧
      ((∃ i, t.link.phase = .saving tag i ∧ t.link.replies = []) ∨
        ∃ r, t.link.replies = [(tag, r)] ∧ ∀ reason, r = .refused reason → t = s.answeredOnly tag r)

/-- CLOCK sets the time of day; a time in another slot, or the first one, works S_dis, A, the charge allowance and the tank
command out again, and a time in the current slot changes nothing else (R43, R44, R46, R49). -/
def Obligations.ClockSetsTheTime : Prop :=
  ∀ (s : State) (tag tod : Nat), s.ready →
    (86399 < tod → exec (.clock tag tod) s = .next (s.answeredOnly tag (.refused .range))) ∧
    (tod ≤ 86399 → s.clock.map (· / 900) = some (tod / 900) →
      exec (.clock tag tod) s = .next (State.answeredOnly { s with clock := some tod, session := none } tag (.done []))) ∧
    (tod ≤ 86399 → s.clock.map (fun c => c / 900 % 96) ≠ some (tod / 900) →
      ∃ t, exec (.clock tag tod) s = .next t ∧
        t.kept = { s.afterRequest tag (.done []) with
          clock := some tod
          capacity := t.capacityNow
          storageDischarge := t.dischargeNow } ∧
        t.chargeAllowance = t.chargeNow ∧ s.tankSettled t false)

/-- STN-DEF checked against the ranges of Table 1-10, and the definition of a VACANT station (R2, R3). That a capability code
with a bit above the four named ones names no set, and is refused, is the model's choice (notes/assumptions/7.md), and so is the
time since the last POLL of a new record, none (notes/assumptions/24.md). -/
def Obligations.StationsAreDefined : Prop :=
  (∀ (s : State) (tag : Nat) (f : StnDefFields), s.ready →
    (47 < f.station ∨ f.contractKw = 0 ∨ 20000 < f.contractKw ∨ f.contractKw < f.floorKw ∨
      (f.cls = 1 ∧ f.floorKw ≠ 0) ∨ f.contractKw < f.fallbackKw ∨ f.designDt < 30 ∨ 150 < f.designDt ∨
      1 < f.cls ∨ 1 < f.dtMode ∨ 15 < f.offered →
      exec (.stnDef tag f) s = .next (s.answeredOnly tag (.refused .range))) ∧
    (f.station ≤ 47 → 1 ≤ f.contractKw → f.contractKw ≤ 20000 → f.floorKw ≤ f.contractKw →
      (f.cls = 1 → f.floorKw = 0) → f.fallbackKw ≤ f.contractKw → 30 ≤ f.designDt → f.designDt ≤ 150 →
      f.cls ≤ 1 → f.dtMode ≤ 1 → f.offered ≤ 15 →
      ∃ (n : Fin 48) (h : HostFields), f = h.asFrame n ∧ h.inRange = true ∧
        ∃ t, exec (.stnDef tag f) s = .next t ∧ t.answered tag (.done []) ∧ (t.stn n).host = h)) ∧
  ∀ (s : State) (tag : Nat) (n : Fin 48) (h : HostFields), s.ready → h.inRange = true → (s.stn n).state = .vacant →
    let record : Station :=
      if rangeHolds s.isolation n.val then
        { Station.vacantRecord with host := h, state := .isolated, grantDt := h.designDt, confirmedDt := h.designDt }
      else
        { Station.vacantRecord with
          host := h
          state := .seeking
          grantDt := h.designDt
          confirmedKw := h.fallbackKw
          confirmedFlow := flowCap h.fallbackKw h.designDt
          confirmedDt := h.designDt }
    ∃ t, exec (.stnDef tag (h.asFrame n)) s = .next t ∧
      t.kept = (s.afterRequest tag (.done [])).withStation n record ∧ t.stn n = record ∧
      record.grantKw = 0 ∧ record.nextSeq = 0 ∧ record.boundCount = 0 ∧ record.standing = .uninvolved ∧
      record.advert = none ∧ record.requestKw = 0 ∧ record.clamped = false ∧ record.supply = none ∧ record.ret = none ∧
      record.measuredDt = none ∧ record.indexDp = none ∧ record.dtHold = 0 ∧ record.debounce = 0 ∧ record.missCount = 0 ∧
      record.hold = none ∧ (record.state = .isolated → record.confirmedKw = 0 ∧ record.confirmedFlow = 0)

/-- STN-DEF for a defined station replaces the host-agreed fields in place: a request above the new contract is lowered to it,
index_dp goes when INDEX is no longer resolved. When the station is ACTIVE and an input of its ΔT_eff has changed, the grant ΔT of
every ACTIVE station is set to its ΔT_eff exactly (R4, R8, R69). That a change for a station that is not ACTIVE recomputes none is
the model's reading (notes/assumptions/12.md). -/
def Obligations.StationsAreRedefined : Prop :=
  ∀ (s : State) (tag : Nat) (n : Fin 48) (h : HostFields), s.ready → h.inRange = true → (s.stn n).state ≠ .vacant →
    let old := s.stn n
    let replaced := { old with host := h }
    let new := { replaced with
      requestKw := min old.requestKw h.contractKw
      clamped := old.clamped || decide (h.contractKw < old.requestKw)
      indexDp := if replaced.resolved.index then old.indexDp else none }
    let changed := old.state = .active ∧
      (old.host.designDt ≠ h.designDt ∨ old.host.dtMode ≠ h.dtMode ∨ old.resolved.track ≠ replaced.resolved.track)
    ∃ t, exec (.stnDef tag (h.asFrame n)) s = .next t ∧
      t.kept = { s.afterRequest tag (.done []) with
        stations := fun m =>
          let r := if m = n then new else s.stn m
          if changed ∧ r.state = .active then { r with grantDt := r.effectiveDt s.plant.dtFloor : Station }.stable
          else r.stable }

/-- STN-DROP: RANGE above 47, STATE for a VACANT station, and otherwise the record takes its VACANT meaning; a read
outstanding for the station ends with a METER-DONE notice of DROPPED, which is issued where the drop brings no shed whose
FAULT notices could displace it (R5, R138, R180). A transaction in flight to the station is abandoned and keeps its segment,
and any other goes on (R127). What a VACANT record holds is the model's choice (notes/assumptions/24.md). -/
def Obligations.StationsAreDropped : Prop :=
  (∀ (s : State) (tag station : Nat), s.ready → 47 < station →
    exec (.stnDrop tag station) s = .next (s.answeredOnly tag (.refused .range))) ∧
  ∀ (s : State) (tag : Nat) (n : Fin 48), s.ready →
    ((s.stn n).state = .vacant → exec (.stnDrop tag n.val) s = .next (s.answeredOnly tag (.refused .state))) ∧
    ((s.stn n).state ≠ .vacant →
      ∃ t, exec (.stnDrop tag n.val) s = .next t ∧
        t.kept = (s.afterRequest tag (.done [])).withStation n Station.vacantRecord ∧
        (∀ b x, (s.br b).txn = some x →
          (t.br b).txn = some (if x.station = n then { x with abandoned := true } else x)) ∧
        ∀ b r, (s.br b).read = some r → r.station = n → (t.br b).read = none ∧
          (s.capsLawful → s.sumGrants ≤ s.capacity →
            .notice (.meterDone r.tag n .dropped) ∈ t.link.sending.toList ++ t.link.waiting))

/-- BR-DEF: RANGE, OVERLAP and BUSY in this order; an accepted one replaces the settings, and every ACTIVE or ATTACHING
station whose branch a change of windows has changed goes to SEEKING with its hold timer started (R6, R117, R118). A limit
raised in a window that stays brings a grant pass, and one lowered cuts the branch's grants in the order of the stages until
their caps fit it, and none where they fit it already (R101, R109, R119). That enabled is code 1 and disabled code 0, and that
the base and limit beside disabled are disregarded, are the model's (notes/assumptions/7.md, 9.md). -/
def Obligations.BranchesAreDefined : Prop :=
  (∀ (s : State) (tag : Nat) (f : BrDefFields), s.ready →
    5 < f.branch ∨ 1 < f.enabled ∨ (f.enabled = 1 ∧ (f.limit < f.base ∨ 47 < f.limit ∨ 12 < f.limit - f.base + 1)) ∨
      60000 < f.flowLimit ∨ 5000 < f.rampStep ∨ 255 < f.restThreshold ∨ f.wakeTime < 5 ∨ 600 < f.wakeTime ∨
      f.restPoll < 5 ∨ 120 < f.restPoll →
    exec (.brDef tag f) s = .next (s.answeredOnly tag (.refused .range))) ∧
  ∀ (s : State) (tag : Nat) (b : Fin 6) (c : BranchSettings) (f : BrDefFields), s.ready → c.inRange = true →
    f = { c.asFrame b with base := f.base, limit := f.limit } → (c.window ≠ none → f = c.asFrame b) →
    ((∃ d : Fin 6, d ≠ b ∧ windowsOverlap c.window (s.br d).settings.window = true) →
      exec (.brDef tag f) s = .next (s.answeredOnly tag (.refused .overlap))) ∧
    ((∀ d : Fin 6, d ≠ b → windowsOverlap c.window (s.br d).settings.window = false) →
      ((s.br b).settings.window ≠ c.window → s.branchBusy b c.window = true →
        exec (.brDef tag f) s = .next (s.answeredOnly tag (.refused .busy))) ∧
      (((s.br b).settings.window ≠ c.window → s.branchBusy b c.window = false) →
        let after := s.updBr b fun r => { r with settings := c }
        ∃ t, exec (.brDef tag f) s = .next t ∧
          t.kept = { s.afterRequest tag (.done []) with
            branches := fun d => if d = b then (c, (s.br b).badFrames, (s.br b).protocolErrors) else s.kept.branches d
            stations := fun n =>
              if s.branchOf n ≠ after.branchOf n ∧ ((s.stn n).state = .attaching ∨ (s.stn n).state = .active) then
                ({ s.stn n with state := .seeking, missCount := 0, debounce := 0 }.startHold s.plant.lostHold).stable
              else (s.stn n).stable } ∧
          ((s.br b).settings.flowLimit < c.flowLimit → 10 ≤ s.plant.quantum → t.passEnded) ∧
          (c.window = (s.br b).settings.window → c.flowLimit ≤ (s.br b).settings.flowLimit → s.capsLawful →
            s.sumGrants ≤ s.capacity → 10 ≤ s.plant.quantum →
            s.shedInOrder t (fun n => s.inWindow b n = true) ∧ (c.window ≠ none → t.capSum b ≤ c.flowLimit) ∧
            (s.capSum b ≤ c.flowLimit → ∀ n : Fin 48, (t.stn n).grantKw = (s.stn n).grantKw))))

/-- ISOLATE: RANGE for a range that is none, and otherwise the range is replaced; every defined station in the new range and
not in the old one becomes ISOLATED, every ISOLATED station in the old and not in the new SEEKING (R15, R16, R120). Base 0xFF
is the code for no range (Table 11-2), and the limit beside it is disregarded: the model's choice (notes/assumptions/7.md). A
transaction in flight to a station that enters is abandoned and keeps its segment, and any other goes on; a read outstanding for
one that enters ends with a METER-DONE notice of ISOLATED, issued where no shed's FAULT notices could displace it (R121, R127,
R138). -/
def Obligations.StationsAreIsolated : Prop :=
  ∀ (s : State) (tag base limit : Nat), s.ready →
    (base ≠ 0xFF → limit < base ∨ 47 < limit →
      exec (.isolate tag base limit) s = .next (s.answeredOnly tag (.refused .range))) ∧
    ∀ new : Option Range,
      (base = 0xFF ∧ new = none) ∨ (base ≠ 0xFF ∧ base ≤ limit ∧ limit ≤ 47 ∧ new = some ⟨base, limit⟩) →
      let enters (n : Fin 48) : Prop :=
        (s.stn n).state ≠ .vacant ∧ rangeHolds new n.val = true ∧ ¬ rangeHolds s.isolation n.val = true
      ∃ t, exec (.isolate tag base limit) s = .next t ∧
        t.kept = { s.afterRequest tag (.done []) with
          isolation := new
          stations := fun n =>
            let r := s.stn n
            if r.state = .vacant then r.stable
            else if rangeHolds new n.val ∧ ¬ rangeHolds s.isolation n.val then
              { r with
                state := .isolated
                confirmedKw := 0
                confirmedFlow := 0
                hold := none
                missCount := 0
                debounce := 0
                requestKw := 0
                clamped := false
                supply := none
                ret := none
                measuredDt := none
                indexDp := none
                dtHold := 0 : Station }.stable
            else if rangeHolds s.isolation n.val ∧ ¬ rangeHolds new n.val ∧ r.state = .isolated then
              { r with
                state := .seeking
                hold := none
                confirmedKw := r.assumedKw
                confirmedFlow := flowCap r.assumedKw r.host.designDt
                confirmedDt := r.host.designDt : Station }.stable
            else r.stable } ∧
        (∀ b x, (s.br b).txn = some x →
          (enters x.station → (t.br b).txn = some { x with abandoned := true }) ∧
          (¬ enters x.station → (t.br b).txn = some x)) ∧
        ∀ b r, (s.br b).read = some r → enters r.station → (t.br b).read = none ∧
          (s.capsLawful → s.sumGrants ≤ s.capacity →
            .notice (.meterDone r.tag r.station .isolated) ∈ t.link.sending.toList ++ t.link.waiting)

/-- CH-DEF replaces a unit's settings: a unit no longer fitted becomes UNKNOWN with every timer stopped and leaves its watch, one
now fitted begins its watch, and A is worked out again (R28, R29). -/
def Obligations.ChillersAreDefined : Prop :=
  (∀ (s : State) (tag : Nat) (f : ChDefFields), s.ready →
    7 < f.unit ∨ 20000 < f.settings.ratedKw ∨ f.settings.minRun < 60 ∨ 3600 < f.settings.minRun ∨
      f.settings.minOff < 60 ∨ 3600 < f.settings.minOff ∨ f.settings.startConfirm < 60 ∨ 900 < f.settings.startConfirm ∨
      f.settings.stopConfirm < 60 ∨ 1800 < f.settings.stopConfirm →
    exec (.chDef tag f) s = .next (s.answeredOnly tag (.refused .range))) ∧
  ∀ (s : State) (tag : Nat) (u : Fin 8) (c : ChillerSettings), s.ready → c.inRange = true →
    let old := s.chiller u
    let fitted := decide (0 < old.settings.ratedKw)
    ∃ t, exec (.chDef tag ⟨u.val, c⟩) s = .next t ∧
      t.kept = { s.afterRequest tag (.done []) with
        chillers := s.chillers.set u.val
          (if fitted = true ∧ c.ratedKw = 0 then ⟨c, .unknown, none, none, none, none⟩ else { old with settings := c })
        watches := if fitted = decide (0 < c.ratedKw) then s.watches else s.watches.set u.val ⟨false, 0⟩
        capacity := t.capacityNow
        storageDischarge := t.dischargeNow } ∧
      (fitted = true → c.ratedKw = 0 → t.faults.quiet .deviceSilent u.val)

/-- CH-CMD START by the unit's state, and RANGE for either command of a unit above 7 and for a code that names neither START nor
STOP (R30). -/
def Obligations.ChillersStart : Prop :=
  (∀ (s : State) (tag unit : Nat), s.ready → 7 < unit →
    exec (.chCmdStart tag unit) s = .next (s.answeredOnly tag (.refused .range)) ∧
    exec (.chCmdStop tag unit) s = .next (s.answeredOnly tag (.refused .range))) ∧
  (∀ (s : State) (tag : Nat) (u c : Byte), s.ready → 2 ≤ c.toNat →
    exec (.supervisoryFrameReceived 0x07 tag [u, c]) s = .next (s.answeredOnly tag (.refused .range))) ∧
  ∀ (s : State) (tag : Nat) (u : Fin 8), s.ready →
    let c := s.chiller u
    let s' := { s with session := none }
    (c.state = .off → c.minOffTimer = none →
      exec (.chCmdStart tag u.val) s = .next (State.answeredOnly { s' with
        chillers := s.chillers.set u.val { c with state := .starting, confirmTimer := some c.settings.startConfirm }
        busSent := s.busSent ++ [.chillerRun u] } tag (.done []))) ∧
    (c.state = .off → c.minOffTimer ≠ none →
      exec (.chCmdStart tag u.val) s = .next (State.answeredOnly { s' with
        chillers := s.chillers.set u.val { c with state := .startHeld } } tag (.done []))) ∧
    (c.state = .stopHeld →
      exec (.chCmdStart tag u.val) s = .next (State.answeredOnly { s' with
        chillers := s.chillers.set u.val { c with state := .run } } tag (.done []))) ∧
    (c.state = .startHeld ∨ c.state = .starting ∨ c.state = .run →
      exec (.chCmdStart tag u.val) s = .next (s'.answeredOnly tag (.done []))) ∧
    (c.state = .stopping ∨ c.state = .tripped ∨ c.state = .unknown →
      exec (.chCmdStart tag u.val) s = .next (s.answeredOnly tag (.refused .state)))

/-- CH-CMD STOP by the unit's state; at the stop of a running unit its contribution goes and A is worked out again (R31). -/
def Obligations.ChillersStop : Prop :=
  (∀ (s : State) (tag unit : Nat), s.ready → 7 < unit →
    exec (.chCmdStop tag unit) s = .next (s.answeredOnly tag (.refused .range))) ∧
  ∀ (s : State) (tag : Nat) (u : Fin 8), s.ready →
    let c := s.chiller u
    let s' := { s with session := none }
    (c.state = .run → c.minRunTimer = none →
      ∃ t, exec (.chCmdStop tag u.val) s = .next t ∧
        t.kept = { s.afterRequest tag (.done []) with
          chillers := s.chillers.set u.val { c with state := .stopping, confirmTimer := some c.settings.stopConfirm }
          capacity := t.capacityNow
          storageDischarge := t.dischargeNow } ∧
        ∃ l, t.busSent = s.busSent ++ .chillerStop u :: l) ∧
    (c.state = .run → c.minRunTimer ≠ none →
      exec (.chCmdStop tag u.val) s = .next (State.answeredOnly { s' with
        chillers := s.chillers.set u.val { c with state := .stopHeld } } tag (.done []))) ∧
    (c.state = .startHeld →
      exec (.chCmdStop tag u.val) s = .next (State.answeredOnly { s' with
        chillers := s.chillers.set u.val { c with state := .off } } tag (.done []))) ∧
    (c.state = .starting → exec (.chCmdStop tag u.val) s = .next (s.answeredOnly tag (.refused .busy))) ∧
    (c.state = .off ∨ c.state = .stopHeld ∨ c.state = .stopping ∨ c.state = .tripped ∨ c.state = .unknown →
      exec (.chCmdStop tag u.val) s = .next (s'.answeredOnly tag (.done [])))

/-- PLANT-DEF is checked whole; an accepted one puts the settings in place, refits and judges the tank, works A out again, and
recomputes every ACTIVE station exactly when dt_floor has changed (R35, R36, R39, R57, R69, R76). A changed quantum and a raised A
bring a grant pass (R77), and a changed max discharge has the tank command of a fitted tank worked out again (R46, R49). That a
changed dt_floor recomputes an ACTIVE station inside the deadband whose ΔT_eff it leaves, and that the tank command is judged by
the new charge step within the event, are the model's readings (notes/assumptions/12.md, 27.md). -/
def Obligations.PlantIsDefined : Prop :=
  ∀ (s : State) (tag : Nat) (p : PlantSettings), s.ready →
    (20000 < p.margin ∨ p.quantum < 10 ∨ 2000 < p.quantum ∨ p.dtFloor < 10 ∨ 100 < p.dtFloor ∨ 3600 < p.lostHold ∨
      400000 < p.tankCapacity ∨ 60000 < p.maxDischarge ∨
      (p.tankCapacity ≠ 0 ∧ (p.reserveHigh ≤ p.reserveLow ∨ p.tankCapacity < p.reserveHigh)) ∨
      p.chargeStep < 10 ∨ 2000 < p.chargeStep →
      exec (.plantDef tag p) s = .next (s.answeredOnly tag (.refused .range))) ∧
    (p.inRange = true →
      let old := s.plant
      ∃ t, exec (.plantDef tag p) s = .next t ∧
        t.kept = { s.afterRequest tag (.done []) with
          plant := p
          tank :=
            if old.tankCapacity = 0 ∧ p.tankCapacity = 0 then s.tank
            else if old.tankCapacity = 0 ∨ p.tankCapacity = 0 then ⟨none, none, none, false⟩
            else match s.tank.soc with
              | none => s.tank
              | some v =>
                let v := min v p.tankCapacity
                { s.tank with
                  soc := some v
                  enabled := if p.reserveHigh ≤ v then true else if v ≤ p.reserveLow then false else s.tank.enabled }
          watches :=
            if decide (old.tankCapacity = 0) = decide (p.tankCapacity = 0) then s.watches
            else s.watches.set 8 ⟨false, 0⟩
          capacity := t.capacityNow
          storageDischarge := t.dischargeNow
          stations := fun n =>
            if old.dtFloor ≠ p.dtFloor ∧ (s.stn n).state = .active then
              { s.stn n with grantDt := (s.stn n).effectiveDt p.dtFloor : Station }.stable
            else (s.stn n).stable } ∧
        (old.quantum ≠ p.quantum ∨ s.capacity < t.capacity → t.passEnded) ∧
        (old.tankCapacity ≠ 0 → old.maxDischarge ≠ p.maxDischarge → s.tankSettled t false))

/-- SCHED-WIN opens a load session over a window of slots, last clamped to 95, and answers with the clamped last; it writes no
slot (R51). -/
def Obligations.LoadSessionsOpen : Prop :=
  ∀ (s : State) (tag first last : Nat), s.ready →
    (95 < first ∨ last < first → exec (.schedWin tag first last) s = .next (s.answeredOnly tag (.refused .range))) ∧
    (first ≤ 95 → first ≤ last →
      exec (.schedWin tag first last) s =
        .next (State.answeredOnly { s with session := some ⟨first, min last 95, first⟩ } tag (.done [⟨1, min last 95⟩])))

/-- SCHED-DATA: FORMAT and SEQUENCE; a START writes from first and a CONTINUE from the pointer, up to the session's last slot,
the rest being spilled; an unknown mode is stored as HOLD 0 kW and counted, and the figures are held to 60000 kW and, in
DISCHARGE, to the max discharge. A write to the current slot works S_dis, A, the charge allowance and the tank command out
again, and any other leaves them, the stations, the branches and the plant bus as they were (R53, R54, R55). A flag that names
neither is refused RANGE (R53); the two rows carry START and CONTINUE, so it comes as a received frame. -/
def Obligations.SchedDataIsLoaded : Prop :=
  ∀ (s : State) (tag : Nat) (records : List SlotFields), s.ready →
    (records.length = 0 ∨ 24 < records.length →
      exec (.schedDataStart tag records) s = .next (s.answeredOnly tag (.refused .format)) ∧
      exec (.schedDataContinue tag records) s = .next (s.answeredOnly tag (.refused .format))) ∧
    (1 ≤ records.length → records.length ≤ 24 → s.session = none →
      exec (.schedDataStart tag records) s = .next (s.answeredOnly tag (.refused .sequence)) ∧
      exec (.schedDataContinue tag records) s = .next (s.answeredOnly tag (.refused .sequence))) ∧
    (∀ (flag : Nat) (body : List Byte), parseRequest 0x0A body = .schedData flag records → 2 ≤ flag →
      1 ≤ records.length → records.length ≤ 24 →
      exec (.supervisoryFrameReceived 0x0A tag body) s = .next (s.answeredOnly tag (.refused .range))) ∧
    ∀ (l : LoadSession) (c : Instr) (start : Nat),
      1 ≤ records.length → records.length ≤ 24 → s.session = some l → l.last ≤ 95 →
      (c = .schedDataStart tag records ∧ start = l.first) ∨ (c = .schedDataContinue tag records ∧ start = l.pointer) →
      let written := min records.length (l.last + 1 - start)
      let coerced := ((records.take written).filter fun r => decide (2 < r.mode)).length
      let stored (r : SlotFields) : SlotRecord :=
        if r.mode = 0 then ⟨.hold, min r.kw 60000⟩
        else if r.mode = 1 then ⟨.charge, min r.kw 60000⟩
        else if r.mode = 2 then ⟨.discharge, min (min r.kw 60000) s.plant.maxDischarge⟩
        else ⟨.hold, 0⟩
      ∃ t, exec c s = .next t ∧
        t.answered tag (.done [⟨2, written⟩, ⟨2, records.length - written⟩, ⟨2, coerced⟩]) ∧
        t.session = some { l with pointer := start + written } ∧
        (∀ i : Fin 96, t.slot i =
          if start ≤ i.val ∧ i.val < start + written then
            stored (records.getD (i.val - start) ⟨0, 0⟩) else s.slot i) ∧
        t.kept = { s.afterRequest tag (.done [⟨2, written⟩, ⟨2, records.length - written⟩, ⟨2, coerced⟩]) with
          schedule := t.schedule
          session := t.session
          capacity := t.capacity
          storageDischarge := t.storageDischarge } ∧
        (∀ i : Fin 96, s.currentSlot = some i → start ≤ i.val → i.val < start + written →
          t.capacity = t.capacityNow ∧ t.storageDischarge = t.dischargeNow ∧ t.chargeAllowance = t.chargeNow ∧
          s.tankSettled t false) ∧
        ((∀ i : Fin 96, s.currentSlot = some i → i.val < start ∨ start + written ≤ i.val) →
          t.capacity = s.capacity ∧ t.storageDischarge = s.storageDischarge ∧ t.chargeAllowance = s.chargeAllowance ∧
          t.stations = s.stations ∧ t.branches = s.branches ∧ t.faults = s.faults ∧ t.busSent = s.busSent ∧
          t.lastTankCommand = s.lastTankCommand)

/-- REF-DEF is checked whole, and an accepted one replaces the index settings at once; no station, branch or speed command is
touched (R156). That auto-switch on is code 1 and off code 0 is the model's choice (notes/assumptions/7.md). -/
def Obligations.PressureReferenceIsDefined : Prop :=
  (∀ (s : State) (tag : Nat) (f : RefDefFields), s.ready →
    (47 < f.primary ∧ f.primary ≠ 0xFF) ∨ (47 < f.secondary ∧ f.secondary ≠ 0xFF) ∨
      (f.primary ≤ 47 ∧ f.primary = f.secondary) ∨ 1 < f.autoSwitch ∨ 1 < f.fallback ∨ 600 < f.revertDelay ∨
      f.freshness < 5 ∨ 60 < f.freshness ∨ f.indexSetpoint < 200 ∨ 3000 < f.indexSetpoint ∨ f.plantSetpoint < 200 ∨
      3000 < f.plantSetpoint →
    exec (.refDef tag f) s = .next (s.answeredOnly tag (.refused .range))) ∧
  ∀ (s : State) (tag : Nat) (r : RefSettings), s.ready → r.inRange = true →
    ∃ t, exec (.refDef tag r.asFrame) s = .next t ∧
      t.kept = { s.afterRequest tag (.done []) with ref := r } ∧
      t.stations = s.stations ∧ t.branches = s.branches ∧ t.busSent = s.busSent ∧
      (t.pressure.source = .primary → t.primaryValid = true) ∧
      (t.pressure.source = .secondary → t.secondaryValid = true)

/-- PUMP-DEF is checked whole; an accepted one replaces the trim settings, and a speed command outside the new range is clamped
into it and sent (R157, R167). -/
def Obligations.PumpTrimIsDefined : Prop :=
  ∀ (s : State) (tag : Nat) (p : PumpSettings), s.ready →
    (200 < p.deadband ∨ p.interval < 1 ∨ 60 < p.interval ∨ p.gain < 1 ∨ 1000 < p.gain ∨ p.maxStep < 1 ∨
      100 < p.maxStep ∨ p.maxSpeed < p.minSpeed ∨ 1000 < p.maxSpeed →
      exec (.pumpDef tag p) s = .next (s.answeredOnly tag (.refused .range))) ∧
    (p.inRange = true → s.pressure.speed = none →
      exec (.pumpDef tag p) s = .next (State.answeredOnly { s with
        session := none
        pressure := { s.pressure with pump := p } } tag (.done []))) ∧
    ∀ v, p.inRange = true → s.pressure.speed = some v →
      let v' := max p.minSpeed (min v p.maxSpeed)
      exec (.pumpDef tag p) s = .next (State.answeredOnly { s with
        session := none
        pressure := { s.pressure with pump := p, speed := some v' }
        busSent := if v' = v then s.busSent else s.busSent ++ [.pumpSet v'] } tag (.done []))

/-- BR-REST: the checks in their order, and the entry into OFFERING with every grant of the branch released and an offer owed to
every ACTIVE station, or straight into RESTING with none ACTIVE (R92, R145, R146). -/
def Obligations.BranchesAreRested : Prop :=
  (∀ (s : State) (tag branch : Nat), s.ready → 5 < branch →
    exec (.brRest tag branch) s = .next (s.answeredOnly tag (.refused .range))) ∧
  ∀ (s : State) (tag : Nat) (b : Fin 6), s.ready →
    let c := s.br b
    (c.settings.window = none → exec (.brRest tag b.val) s = .next (s.answeredOnly tag (.refused .state))) ∧
    (c.settings.window ≠ none →
      (c.rest = .offering ∨ c.rest = .resting →
        exec (.brRest tag b.val) s = .next (State.answeredOnly { s with session := none } tag (.done []))) ∧
      (c.rest = .waking → exec (.brRest tag b.val) s = .next (s.answeredOnly tag (.refused .busy))) ∧
      (c.rest = .live → (∃ n ∈ s.activeIn b, (s.stn n).resolved.rest = false) →
        exec (.brRest tag b.val) s = .next (s.answeredOnly tag (.refused .capability))) ∧
      (c.rest = .live → (∀ n ∈ s.activeIn b, (s.stn n).resolved.rest = true) →
        ∃ t, exec (.brRest tag b.val) s = .next t ∧ t.kept = s.afterRequest tag (.done []) ∧
          (t.br b).rest = (if s.activeIn b = [] then .resting else .offering) ∧ (t.br b).idleCount = 0 ∧
          ∀ n ∈ s.activeIn b, (t.stn n).grantKw = 0 ∧ (t.stn n).standing = .offerOwed))

/-- BR-WAKE: RANGE, STATE, the entry into WAKING from OFFERING or RESTING with a WAKE owed to every ACTIVE station and the wake
timer started, and no effect in WAKING or LIVE (R149, R150). -/
def Obligations.BranchesAreWoken : Prop :=
  (∀ (s : State) (tag branch : Nat), s.ready → 5 < branch →
    exec (.brWake tag branch) s = .next (s.answeredOnly tag (.refused .range))) ∧
  ∀ (s : State) (tag : Nat) (b : Fin 6), s.ready →
    let c := s.br b
    (c.settings.window = none → exec (.brWake tag b.val) s = .next (s.answeredOnly tag (.refused .state))) ∧
    (c.settings.window ≠ none → c.rest = .waking ∨ c.rest = .live →
      exec (.brWake tag b.val) s = .next (State.answeredOnly { s with session := none } tag (.done []))) ∧
    (c.settings.window ≠ none → c.rest = .offering ∨ c.rest = .resting → s.windowsLawful →
      ∃ t, exec (.brWake tag b.val) s = .next t ∧ t.kept = s.afterRequest tag (.done []) ∧
        (t.br b).rest = .waking ∧ (t.br b).wakeTimer = some c.settings.wakeTime ∧
        ∀ n ∈ s.activeIn b, (t.stn n).standing = .wakeOwed)

/-- METER: RANGE, STATE, CAPABILITY and BUSY in this order, and otherwise the branch's read slot takes the station and the TAG,
answered TAKEN, its METER-ASK owed or already sent (R136). A valid METER-DATA ends the read with its figures and frees the
slot (R137). That a read holds the attempt count 0 before its first METER-ASK is the model's choice (notes/assumptions/7.md). -/
def Obligations.MeterReads : Prop :=
  (∀ (s : State) (tag station : Nat), s.ready → 47 < station →
    exec (.meter tag station) s = .next (s.answeredOnly tag (.refused .range))) ∧
  (∀ (s : State) (tag : Nat) (n : Fin 48), s.ready →
    ((s.stn n).state ≠ .active → exec (.meter tag n.val) s = .next (s.answeredOnly tag (.refused .state))) ∧
    ∀ b : Fin 6, (s.stn n).state = .active → s.branchOf n = some b →
      ((s.stn n).resolved.meter = false →
        exec (.meter tag n.val) s = .next (s.answeredOnly tag (.refused .capability))) ∧
      ((s.stn n).resolved.meter = true → (s.br b).read ≠ none →
        exec (.meter tag n.val) s = .next (s.answeredOnly tag (.refused .busy))) ∧
      ((s.stn n).resolved.meter = true → (s.br b).read = none →
        ∃ t, exec (.meter tag n.val) s = .next t ∧ t.kept = s.afterRequest tag .taken ∧
          ((t.br b).read = some ⟨n, tag, 0, true⟩ ∨
            ((t.br b).read = some ⟨n, tag, 1, false⟩ ∧ (t.br b).txn = some ⟨n, .meterAsk, false⟩)))) ∧
  ∀ (s : State) (b : Fin 6) (n : Fin 48) (r : MeterRead) (energy volume : Nat), s.powered = true →
    (s.br b).txn = some ⟨n, .meterAsk, false⟩ → (s.br b).read = some r → r.station = n →
    ∃ t, exec (.meterData b n.val energy volume) s = .next t ∧
      t.kept = s.kept.withStation n { s.stn n with missCount := 0 } ∧ (t.br b).read = none ∧
      .notice (.meterDone r.tag n (.data energy volume)) ∈ t.link.sending.toList ++ t.link.waiting

/-- The GET requests return what the controller holds and change nothing but the link and an open load session; a VACANT station
gives its state alone; numbers and parts out of range are refused (R24, R52, R141, R169, R177, R182). -/
def Obligations.GetsChangeNothing : Prop :=
  ∀ (s : State) (tag : Nat), s.ready →
    let s' := { s with session := none }
    (∀ n : Fin 48, exec (.getStn tag n.val) s = .next (s'.answeredOnly tag (.data (s.stationFields n))) ∧
      ((s.stn n).state = .vacant → s.stationFields n = [⟨1, 0⟩])) ∧
    (∀ n, 47 < n → exec (.getStn tag n) s = .next (s.answeredOnly tag (.refused .range))) ∧
    (∀ b : Fin 6, exec (.getBr tag b.val 0) s = .next (s'.answeredOnly tag (.data (s.branchPart0 b))) ∧
      exec (.getBr tag b.val 1) s =
        .next (s'.answeredOnly tag (.data (listFields (s.br b).queue CapEntry.toFields)))) ∧
    (∀ b p, 5 < b ∨ 1 < p → exec (.getBr tag b p) s = .next (s.answeredOnly tag (.refused .range))) ∧
    exec (.getPlant tag 0) s = .next (s'.answeredOnly tag (.data s.plantPart0)) ∧
    exec (.getPlant tag 1) s = .next (s'.answeredOnly tag (.data s.plantPart1)) ∧
    (∀ p, 1 < p → exec (.getPlant tag p) s = .next (s.answeredOnly tag (.refused .range))) ∧
    exec (.getRef tag) s = .next (s'.answeredOnly tag (.data s.refFields)) ∧
    exec (.getFaults tag 0) s = .next (s'.answeredOnly tag (.data (s.faults.toFields (s.faults.entries.take 16)))) ∧
    exec (.getFaults tag 1) s =
      .next (s'.answeredOnly tag (.data (s.faults.toFields ((s.faults.entries.drop 16).take 16)))) ∧
    (∀ p, 1 < p → exec (.getFaults tag p) s = .next (s.answeredOnly tag (.refused .range)))

/-- FAULT-ACK of a kind and subject acknowledges its entry, and removes it when it is not active; of all, every entry, and the
overflow with its count; FAULT-MASK replaces the mask. The relay is judged within the event (R173, R174, R175). -/
def Obligations.FaultsAreAcknowledged : Prop :=
  ∀ (s : State) (tag : Nat), s.ready →
    (∀ kind subject, 9 < kind → kind ≠ 0xFF →
      exec (.faultAck tag kind subject) s = .next (s.answeredOnly tag (.refused .range))) ∧
    (∀ (k : FaultKind) (subject : Nat), ∃ t, exec (.faultAck tag k.code subject) s = .next t ∧
      t = State.answeredOnly { s with session := none, faults := t.faults } tag (.done []) ∧
      t.faults.entries = (s.faults.entries.filter fun e => !(e.names k subject && !e.active)).map
        (fun e => if e.names k subject then { e with acked := true } else e) ∧
      t.faults.overflowCount = s.faults.overflowCount ∧ t.faults.overflowUnacked = s.faults.overflowUnacked ∧
      t.faults.mask = s.faults.mask ∧ t.faults.relayClosed = t.faults.alarm) ∧
    (∃ t, exec (.faultAckAll tag) s = .next t ∧
      t = State.answeredOnly { s with session := none, faults := t.faults } tag (.done []) ∧
      t.faults = ⟨(s.faults.entries.filter fun e => e.active).map fun e => { e with acked := true }, 0, false,
        s.faults.mask, false⟩) ∧
    (∀ mask, 1023 < mask → exec (.faultMask tag mask) s = .next (s.answeredOnly tag (.refused .range))) ∧
    (∀ mask, mask ≤ 1023 → ∃ t, exec (.faultMask tag mask) s = .next t ∧
      t = State.answeredOnly { s with session := none, faults := t.faults } tag (.done []) ∧
      t.faults.mask.toNat = mask ∧ t.faults.relayClosed = t.faults.alarm ∧
      t.faults.entries = s.faults.entries ∧ t.faults.overflowCount = s.faults.overflowCount ∧
      t.faults.overflowUnacked = s.faults.overflowUnacked)

/-! ### Time and timers -/

/-- A second passes: the clock counts up and wraps after 86399 s, every timer's remaining time falls, the wake timers and the
revert timer among them, and every age rises, staying at 65534 s; the time since a station's last POLL counts up, unless the
event sends it a POLL. The revert timer is stopped once the source is PRIMARY or the primary is not valid, and runs on
otherwise. At a slot change S_dis, A and the tank command are worked out again, and otherwise no branch is touched but for its
wake timer (R20, R25, R26, R43, R44, R46, R49, R152, R154, R162). That no tick runs a timer out, that the ages it raises are
judged within it, and that the time since the last POLL stays at 65535 s, are the model's (notes/assumptions/2.md, 23.md,
19.md). -/
def Obligations.ASecondPasses : Prop :=
  ∀ s : State, s.powered = true →
    let down (o : Option Nat) : Option Nat := o.map (· - 1)
    let older (d : DpReading) : DpReading := { d with age := min 65534 (d.age + 1) }
    let clock := s.clock.map fun c => (c + 1) % 86400
    let change := decide (clock.map slotOf ≠ s.clock.map slotOf)
    ∃ t, exec .clockTick s = .next t ∧
      t.kept = { s.kept with
        clock := clock
        stations := fun n =>
          { s.stn n with hold := down (s.stn n).hold, indexDp := (s.stn n).indexDp.map older : Station }.stable
        chillers := Vector.ofFn fun u =>
          { s.chiller u with
            minRunTimer := down (s.chiller u).minRunTimer
            minOffTimer := down (s.chiller u).minOffTimer
            confirmTimer := down (s.chiller u).confirmTimer }
        watches := Vector.ofFn fun a =>
          if s.watched a then { s.watch a with unheard := min 15 ((s.watch a).unheard + 1) } else s.watch a
        plantDp := s.plantDp.map older
        trimTimer := s.pressure.trimTimer - 1
        capacity := if change then t.capacityNow else s.capacity
        storageDischarge := if change then t.dischargeNow else s.storageDischarge } ∧
      (∀ b : Fin 6, (t.br b).wakeTimer = down (s.br b).wakeTimer) ∧
      (∀ n : Fin 48,
        (t.stn n).sincePoll = (s.stn n).sincePoll.map (fun k => min 65535 (k + 1)) ∨
          (change = true ∧ (t.stn n).sincePoll = some 0 ∧ ∃ b : Fin 6, (t.br b).txn = some ⟨n, .poll, false⟩)) ∧
      (t.pressure.source = .primary ∨ t.primaryValid = false → t.pressure.revertTimer = none) ∧
      (t.pressure.source ≠ .primary → t.primaryValid = true →
        t.pressure.revertTimer =
          match s.pressure.revertTimer with
          | some k => some (k - 1)
          | none => some s.pressure.ref.revertDelay) ∧
      (change = true → t.chargeAllowance = t.chargeNow ∧ s.tankSettled t false) ∧
      (change = false →
        t.branches = Vector.ofFn (fun b => { s.br b with wakeTimer := down (s.br b).wakeTimer }) ∧ t.busSent = s.busSent)

/-- A hold timer that runs out in SEEKING or LOST: the figures of standalone_kw if an advertisement is on record, else of
fallback_kw, at design_dt, and the timer stopped (R14). -/
def Obligations.HoldTimersRunOut : Prop :=
  ∀ (s : State) (n : Fin 48), s.powered = true → (s.stn n).hold ≠ none →
    (s.stn n).state = .seeking ∨ (s.stn n).state = .lost →
    let kw := match (s.stn n).advert with
      | some a => a.standaloneKw
      | none => (s.stn n).host.fallbackKw
    ∃ t, exec (.holdExpiry n) s = .next t ∧
      t.kept = s.kept.withStation n { s.stn n with
        confirmedKw := kw
        confirmedFlow := flowCap kw (s.stn n).host.designDt
        confirmedDt := (s.stn n).host.designDt
        hold := none }

/-- A watched device falls silent: DEVICE_SILENT is raised with its address, a chiller becomes UNKNOWN with every timer stopped,
the tank's condition goes and storage is disabled, the pump group reads as not running, the plant DP is absent (R26, R34, R37,
R38). -/
def Obligations.DevicesFallSilent : Prop :=
  ∀ (s : State) (a : Fin 11), s.powered = true → s.watched a = true → (s.watch a).silent = false →
    ∃ t, exec (.deviceSilent a) s = .next t ∧
      t.kept = { s.kept with
        watches := s.watches.set a.val ⟨true, 15⟩
        chillers := if h : a.val < 8 then s.chillers.set a.val ⟨s.chillers[a.val].settings, .unknown, none, none, none, none⟩
          else s.chillers
        tank := if a = 8 then ⟨none, none, none, false⟩ else s.tank
        pumpGroup := if a = 9 then ⟨false, none⟩ else s.pumpGroup
        plantDp := if a = 10 then none else s.plantDp
        capacity := t.capacityNow
        storageDischarge := t.dischargeNow } ∧
      (s.faults.records .deviceSilent a.val → t.faults.shows .deviceSilent a.val)

/-- The timers of a chiller run out: a held stop is carried out at min-run, a held start at min-off, a start has failed or a stop
has not been seen at confirm, and in any other state the timer simply stops (R32). -/
def Obligations.ChillerTimersRunOut : Prop :=
  ∀ (s : State) (u : Fin 8), s.powered = true →
    let c := s.chiller u
    (c.minRunTimer ≠ none →
      ∃ t, exec (.minRunExpiry u) s = .next t ∧
        t.kept = { s.kept with
          chillers := s.chillers.set u.val
            (if c.state = .stopHeld then
              { c with state := .stopping, minRunTimer := none, confirmTimer := some c.settings.stopConfirm }
            else { c with minRunTimer := none })
          capacity := t.capacityNow
          storageDischarge := t.dischargeNow } ∧
        (c.state = .stopHeld → ∃ l, t.busSent = s.busSent ++ .chillerStop u :: l)) ∧
    (c.minOffTimer ≠ none →
      exec (.minOffExpiry u) s = .next (
        if c.state = .startHeld then { s with
          chillers := s.chillers.set u.val
            { c with state := .starting, minOffTimer := none, confirmTimer := some c.settings.startConfirm }
          busSent := s.busSent ++ [.chillerRun u] }
        else { s with chillers := s.chillers.set u.val { c with minOffTimer := none } })) ∧
    (c.confirmTimer ≠ none →
      ∃ t, exec (.confirmExpiry u) s = .next t ∧
        t.kept = { s.kept with
          chillers := s.chillers.set u.val
            (if c.state = .starting then
              { c with state := .off, minRunTimer := none, minOffTimer := some c.settings.minOff, confirmTimer := none }
            else { c with confirmTimer := none }) } ∧
        t.busSent = s.busSent ∧ t.stations = s.stations ∧ t.branches = s.branches ∧
        (c.state = .starting → s.faults.records .startFailed u.val → t.faults.shows .startFailed u.val) ∧
        (c.state = .stopping → s.faults.records .stopFailed u.val → t.faults.shows .stopFailed u.val))

/-! ### The plant bus -/

/-- A chiller report from a fitted unit: available kW is recorded in every state, the unit moves by Table 2-4, entering TRIPPED
raises CHILLER_TRIP, the silence ends, and A is worked out again; the report of a unit not fitted is discarded (R25, R26, R33,
R34). A rise of A brings a grant pass (R77, R87). A fall of A below the grants brings a capacity shed, after which they add up to
exactly A, FLEX grants having gone before FIRM ones and floors last (R102 to R107); it is stated where no branch shed comes with
it. The pass leaves the shed pointers, and the shed the allocation pointers and the FLEX snapshot (R84, R100). -/
def Obligations.ChillersReport : Prop :=
  ∀ (s : State) (u : Fin 8) (condition : RunCondition) (available : Nat), s.powered = true →
    ((s.chiller u).settings.ratedKw = 0 → exec (.chillerReport u condition available) s = .next s) ∧
    (0 < (s.chiller u).settings.ratedKw →
      let c := { s.chiller u with available := if available < 65535 then some available else none }
      let new : Chiller := match condition with
        | .run =>
          if c.state = .run ∨ c.state = .stopHeld ∨ c.state = .stopping then c
          else { c with
            state := .run
            minRunTimer := if c.state = .unknown then none else some c.settings.minRun
            minOffTimer := none
            confirmTimer := none }
        | .stopped =>
          if c.state = .off ∨ c.state = .startHeld ∨ c.state = .starting then c
          else if c.state = .tripped then { c with state := .off }
          else { c with state := .off, minRunTimer := none, minOffTimer := some c.settings.minOff, confirmTimer := none }
        | .tripped =>
          if c.state = .tripped then c
          else { c with state := .tripped, minRunTimer := none, minOffTimer := some c.settings.minOff, confirmTimer := none }
      ∃ t, exec (.chillerReport u condition available) s = .next t ∧
        t.kept = { s.kept with
          chillers := s.chillers.set u.val new
          watches := s.watches.set u.val ⟨false, 0⟩
          capacity := t.capacityNow
          storageDischarge := t.dischargeNow } ∧
        t.faults.quiet .deviceSilent u.val ∧
        (new.state = .tripped → c.state ≠ .tripped → s.faults.records .chillerTrip u.val →
          t.faults.shows .chillerTrip u.val) ∧
        (s.capacity < t.capacity → 10 ≤ s.plant.quantum → t.passEnded) ∧
        (s.capacity < t.capacity → s.sumGrants ≤ s.capacity → s.capsLawful →
          t.allocator.flexShedPtr = s.allocator.flexShedPtr ∧ t.allocator.firmShedPtr = s.allocator.firmShedPtr) ∧
        (t.capacity ≤ s.capacity → t.capacity < s.sumGrants → s.capsLawful → 10 ≤ s.plant.quantum →
          t.sumGrants = t.capacity ∧ (s.shedInOrder t fun _ => True) ∧
          t.allocator.firmPtr = s.allocator.firmPtr ∧ t.allocator.flexPtr = s.allocator.flexPtr ∧
          t.allocator.flexSnapshot = s.allocator.flexSnapshot))

/-- A tank report while the tank is fitted: the state of charge clamped to capacity, mode and rate, storage_enabled from
reserve_high alone at the first report and by hysteresis after it, STORAGE_RESERVE raised when it turns to no and ended when it
turns to yes, and A and the charge allowance worked out again. The present command is sent when the last was none, or when it
has moved past it by R49. A report of a tank not fitted is discarded (R25, R35, R36, R48, R49, R50). A state of charge at or below
reserve_low is taken to lie below reserve_high, as it does while the reserves lie as R35 has them. -/
def Obligations.TheTankReports : Prop :=
  ∀ (s : State) (soc : Nat) (mode : TankMode) (rate : Nat), s.powered = true →
    (s.plant.tankCapacity = 0 → exec (.tankReport soc mode rate) s = .next s) ∧
    (0 < s.plant.tankCapacity →
      let v := min soc s.plant.tankCapacity
      ∃ t, exec (.tankReport soc mode rate) s = .next t ∧
        t.kept = { s.kept with
          tank := ⟨some v, some mode, if rate < 65535 then some rate else none,
            if s.tank.soc = none then decide (s.plant.reserveHigh ≤ v)
            else if s.plant.reserveHigh ≤ v then true
            else if v ≤ s.plant.reserveLow then false else s.tank.enabled⟩
          watches := s.watches.set 8 ⟨false, 0⟩
          capacity := t.capacityNow
          storageDischarge := t.dischargeNow } ∧
        t.chargeAllowance = t.chargeNow ∧ t.faults.quiet .deviceSilent 8 ∧
        s.tankSettled t true ∧
        (v ≤ s.plant.reserveLow → v < s.plant.reserveHigh → s.tank.soc = none ∨ s.tank.enabled = true →
          s.faults.records .storageReserve 8 → t.faults.shows .storageReserve 8) ∧
        (s.plant.reserveHigh ≤ v → (s.tank.soc = none ∧ s.plant.reserveLow < v) ∨
            (s.tank.soc ≠ none ∧ s.tank.enabled = false) →
          t.faults.quiet .storageReserve 8) ∧
        (s.tank.soc ≠ none → t.tank.enabled = s.tank.enabled →
          (t.faults.entries.filter fun e => e.kind = .storageReserve) =
            s.faults.entries.filter fun e => e.kind = .storageReserve))

/-- A pump report is recorded, its speed adopted and clamped while the command is none, and the command repeated at the first
report after a silence; a plant DP report is recorded when it lies in range; a discarded frame changes nothing (R25, R38,
R167). That the report after a silence adopts its speed while the command is none, with nothing to repeat, is the model's reading
(notes/assumptions/14.md). -/
def Obligations.PumpsAndTransmitterReport : Prop :=
  ∀ s : State, s.powered = true →
    (∀ (running : Bool) (speed : Nat),
      let present := if speed < 65535 then some (min speed 1000) else none
      let clamp (v : Nat) : Nat := max s.pressure.pump.minSpeed (min v s.pressure.pump.maxSpeed)
      ∃ t, exec (.pumpReport running speed) s = .next t ∧
        t.kept = { s.kept with
          pumpGroup := ⟨running, present⟩
          watches := s.watches.set 9 ⟨false, 0⟩
          speed := match s.pressure.speed with
            | some c => some c
            | none => present.map clamp } ∧
        t.busSent = s.busSent ++ (match s.pressure.speed, present with
          | some c, _ => if (s.watch 9).silent then [.pumpSet c] else []
          | none, some v => if clamp v = v then [] else [.pumpSet (clamp v)]
          | none, none => []) ∧
        t.stations = s.stations ∧ t.branches = s.branches ∧ t.faults.quiet .deviceSilent 9) ∧
    (∀ dp : Nat, ∃ t, exec (.plantDpReport dp) s = .next t ∧
      t.kept = { s.kept with
        plantDp := if dp ≤ 6000 then some ⟨dp, 0⟩ else s.plantDp
        watches := s.watches.set 10 ⟨false, 0⟩ } ∧
      t.stations = s.stations ∧ t.branches = s.branches ∧ t.busSent = s.busSent ∧ t.faults.quiet .deviceSilent 10) ∧
    exec .plantFrameDiscarded s = .next s

/-! ### The pressure reference unit -/

/-- An index DP whose age passes the freshness setting makes its candidate invalid, and a plant DP stale; a source that rested on
it is left (R158, R159, R161). A primary that was the source is left for a valid SECONDARY with auto-switch, which ends every
INDEX_LOST condition, and otherwise, as a secondary always, for what the fallback rule gives, INDEX_LOST being raised with the
station lost; from PLANT or HOLD a valid secondary is promoted while the primary is not valid, and otherwise the fallback rule
gives the source (R159, R160, R161, R164). The revert timer must run wherever the primary is valid and not the source, as R162 has
it, or the end of the event may start it or revert. A revert timer that runs out while the primary is valid makes the source
PRIMARY and ends every INDEX_LOST condition (R162, R164). That the stale rows themselves raise the age to one second more than the
setting is the model's reading (notes/assumptions/23.md). -/
def Obligations.PressureTimersRunOut : Prop :=
  ∀ s : State, s.powered = true →
    let auto := s.pressure.ref.autoSwitch
    let rests := s.pressure.source = .plant ∨ s.pressure.source = .hold
    let timed := s.primaryValid = false ∨ s.pressure.revertTimer ≠ none
    (∀ (n : Fin 48) (d : DpReading), (s.stn n).indexDp = some d →
      s.pressure.ref.primary = some n ∨ s.pressure.ref.secondary = some n →
      ∃ t, exec (.indexDpStale n) s = .next t ∧
        t.kept = s.kept.withStation n
          { s.stn n with indexDp := some { d with age := max d.age (s.pressure.ref.freshness + 1) } } ∧
        t.candidateValid (some n) = false ∧ t.branches = s.branches ∧ t.busSent = s.busSent ∧
        (s.pressure.ref.primary = some n → t.pressure.source ≠ .primary) ∧
        (s.pressure.ref.secondary = some n → t.pressure.source ≠ .secondary) ∧
        (let fallback : Source := if s.pressure.ref.fallback = .plant ∧ s.plantDpFresh = true then .plant else .hold
        (s.pressure.source = .primary → s.pressure.ref.primary = some n →
          (auto = true → t.secondaryValid = true →
            t.pressure.source = .secondary ∧ ∀ subject, t.faults.quiet .indexLost subject) ∧
          (auto = false ∨ t.secondaryValid = false →
            t.pressure.source = fallback ∧ (s.faults.records .indexLost n.val → t.faults.shows .indexLost n.val))) ∧
        (s.pressure.source = .secondary → s.pressure.ref.secondary = some n → timed →
          t.pressure.source = fallback ∧ (s.faults.records .indexLost n.val → t.faults.shows .indexLost n.val)) ∧
        (rests → timed →
          t.pressure.source =
            if auto = true ∧ t.primaryValid = false ∧ t.secondaryValid = true then .secondary else fallback))) ∧
    (∀ d : DpReading, s.plantDp = some d →
      ∃ t, exec .plantDpStale s = .next t ∧
        t.kept = { s.kept with plantDp := some { d with age := max d.age (s.pressure.ref.freshness + 1) } } ∧
        t.plantDpFresh = false ∧ t.pressure.source ≠ .plant ∧
        (rests → timed →
          if auto = true ∧ s.primaryValid = false ∧ s.secondaryValid = true then t.pressure.source = .secondary
          else t.pressure.source = .hold ∧ t.faults.entries = s.faults.entries) ∧
        t.stations = s.stations ∧ t.branches = s.branches ∧ t.busSent = s.busSent) ∧
    (s.pressure.revertTimer ≠ none → s.primaryValid = true →
      ∃ t, exec .revertExpiry s = .next t ∧ t.kept = s.kept ∧ t.pressure.source = .primary ∧
        t.pressure.revertTimer = none ∧ (∀ subject, t.faults.quiet .indexLost subject) ∧
        t.stations = s.stations ∧ t.branches = s.branches ∧ t.busSent = s.busSent)

/-- The trim timer runs out: with a source that gives a pressure, the pumps running and a speed command, the command moves by the
step δ inside its range and is sent when it has changed; in every other case nothing moves. The timer is started again (R165,
R166). -/
def Obligations.TheSpeedIsTrimmed : Prop :=
  ∀ s : State, s.powered = true →
    let p := s.pressure.pump
    let index (o : Option (Fin 48)) : Option Nat := o.bind fun n => (s.stn n).indexDp.map (·.value)
    let e : Option Int := match s.pressure.source with
      | .primary => (index s.pressure.ref.primary).map fun (m : Nat) => (s.pressure.ref.indexSetpoint : Int) - m
      | .secondary => (index s.pressure.ref.secondary).map fun (m : Nat) => (s.pressure.ref.indexSetpoint : Int) - m
      | .plant => s.plantDp.map fun d => (s.pressure.ref.plantSetpoint : Int) - d.value
      | .hold => none
    let running := !(s.watch 9).silent && s.pumpGroup.running
    (e = none ∨ running = false ∨ s.pressure.speed = none →
      exec .trimExpiry s = .next { s with pressure := { s.pressure with trimTimer := p.interval } }) ∧
    ∀ (err : Int) (v : Nat), e = some err → running = true → s.pressure.speed = some v →
      let q := (err * p.gain).tdiv 1000
      let δ := if q = 0 then err.sign else q
      let δ := if (p.maxStep : Int) < δ then (p.maxStep : Int) else if δ < -(p.maxStep : Int) then -(p.maxStep : Int) else δ
      let v' := if err.natAbs ≤ p.deadband then v else (max (p.minSpeed : Int) (min (v + δ) p.maxSpeed)).toNat
      exec .trimExpiry s = .next { s with
        pressure := { s.pressure with
          speed := some v'
          lastTrim := some ⟨err, s.pressure.source⟩
          trimTimer := p.interval }
        busSent := if v' = v then s.busSent else s.busSent ++ [.pumpSet v'] }

/-! ### The branch segments -/

/-- A transaction that ends in a miss, by the state of its station: the miss count, LOST with its hold timer and STATION_LOST
at the third in ACTIVE, back to SEEKING at the third in ATTACHING, and nothing for a PROBE; the end of an abandoned one has no
effect. Whatever the case the transaction has ended: a disabled branch has none, and any other is one just started (R9, R11,
R12, R124, R126, R127). A CAP missed below its third attempt is sent again with the same figures when the cap queue is next
chosen, and at the third its entry goes, the station's present grant is queued afresh at the tail where it has no other entry,
and the protocol-error count of the branch rises (R133); a missed METER-ASK is owed again below its third attempt, and the
third ends the read with METER-DONE of NO_REPLY (R137), as the loss of its station ends it with LOST (R138). The queue and
those notices are stated where no shed comes with the event. -/
def Obligations.RepliesTimeOut : Prop :=
  ∀ (s : State) (b : Fin 6) (x : Txn), s.powered = true → (s.br b).txn = some x →
    let r := s.stn x.station
    (x.abandoned = true → ∃ t, exec (.replyTimeout b) s = .next t ∧ t.kept = s.kept ∧ (t.br b).freed) ∧
    (x.abandoned = false →
      (r.state = .active → r.missCount < 2 →
        let missed := s.kept.withStation x.station { r with missCount := r.missCount + 1 }
        ∃ t, exec (.replyTimeout b) s = .next t ∧ (t.br b).freed ∧
          ((∀ e ∈ (s.br b).queue.head?, ∀ f, e.flight = some f → e.station = x.station → 3 ≤ f.attempts →
              ∀ seq flow grant, x.kind ≠ .cap seq flow grant) →
            t.kept = missed) ∧
          (∀ e rest f seq flow grant, (s.br b).queue = e :: rest → e.flight = some f → e.station = x.station →
            x.kind = .cap seq flow grant →
            (f.attempts < 3 → s.capsLawful → s.sumGrants ≤ s.capacity → (s.br b).settings.window ≠ none →
              (s.br b).capsInRow ≠ 4 →
              (t.br b).queue = { e with flight := some { f with attempts := f.attempts + 1 } } :: rest ∧
              (t.br b).txn = some ⟨e.station, .cap e.seq f.flowSent f.grantSent, false⟩) ∧
            (3 ≤ f.attempts →
              t.kept = { missed with
                branches := fun d =>
                  if d = b then ((s.br b).settings, (s.br b).badFrames, min 65535 ((s.br b).protocolErrors + 1))
                  else s.kept.branches d } ∧
              (s.capsLawful → s.sumGrants ≤ s.capacity →
                let again : CapEntry := ⟨x.station, r.nextSeq, r.grantKw, r.grantCap, r.grantDt, none⟩
                (t.br b).queue.map CapEntry.grounded =
                  (if ∃ d ∈ rest, d.station = x.station then rest else rest ++ [again]).map CapEntry.grounded))) ∧
          (∀ m, x.kind = .meterAsk → (s.br b).read = some m → m.station = x.station →
            (m.attempts < 3 →
              (t.br b).read = some { m with owed := true } ∨
                ((t.br b).read = some { m with attempts := m.attempts + 1, owed := false } ∧
                  (t.br b).txn = some ⟨x.station, .meterAsk, false⟩)) ∧
            (3 ≤ m.attempts → (t.br b).read = none ∧
              (s.capsLawful → s.sumGrants ≤ s.capacity →
                .notice (.meterDone m.tag x.station .noReply) ∈ t.link.sending.toList ++ t.link.waiting)))) ∧
      (r.state = .active → 2 ≤ r.missCount →
        ∃ t, exec (.replyTimeout b) s = .next t ∧ (t.br b).freed ∧
          t.kept = s.kept.withStation x.station
            ({ r with state := .lost, missCount := 0, debounce := 0 }.startHold s.plant.lostHold) ∧
          (t.stn x.station).standing = .uninvolved ∧
          (s.faults.records .stationLost x.station.val → t.faults.shows .stationLost x.station.val) ∧
          ∀ d m, (s.br d).read = some m → m.station = x.station → (t.br d).read = none ∧
            (s.capsLawful → s.sumGrants ≤ s.capacity →
              .notice (.meterDone m.tag x.station .lost) ∈ t.link.sending.toList ++ t.link.waiting)) ∧
      (r.state = .attaching → r.missCount < 2 →
        ∃ t, exec (.replyTimeout b) s = .next t ∧ (t.br b).freed ∧
          t.kept = s.kept.withStation x.station { r with missCount := r.missCount + 1, debounce := 0 }) ∧
      (r.state = .attaching → 2 ≤ r.missCount →
        ∃ t, exec (.replyTimeout b) s = .next t ∧ (t.br b).freed ∧
          t.kept = s.kept.withStation x.station
            ({ r with state := .seeking, missCount := 0, debounce := 0 }.startHold s.plant.lostHold)) ∧
      (r.state = .seeking ∨ r.state = .lost →
        ∃ t, exec (.replyTimeout b) s = .next t ∧ t.kept = s.kept ∧ (t.br b).freed))

/-- A REPORT in answer to a POLL: the request clamped to the contract, the temperatures with the measured ΔT and its hold
count, the index DP and the STANDALONE flag are taken (R18 to R21); an ACTIVE station's grant ΔT moves across the 5 dK
deadband (R67) and its grant ends at or below its request (R74, R89), and a wake reason wakes its branch (R148); an ATTACHING
station's debounce rises, the second report makes it ACTIVE at its ΔT_eff (R9, R10, R70, R172), and its request wakes its
branch as well (R148). A want left above 0 kW, and entering ACTIVE, bring a grant pass (R77, R87). A cap entry with the
station's grant stands in its branch after the STANDALONE flag of an ACTIVE station (R21), and after it has entered ACTIVE, at
a grant of 0 kW too (R10). That the hold count runs from 0 while no difference is held is the model's reading
(notes/assumptions/26.md). -/
def Obligations.ReportsFillTheRecord : Prop :=
  ∀ (s : State) (b : Fin 6) (n : Fin 48) (f : ReportFields), s.powered = true →
    (s.br b).txn = some ⟨n, .poll, false⟩ →
    let r := s.stn n
    let supply := if f.supply ≤ 300 then some f.supply else none
    let ret := if f.ret ≤ 400 then some f.ret else none
    let pair := supply.isSome && ret.isSome
    let held := min 10 (r.dtHold + 1)
    let new : Station := { r with
      missCount := 0
      requestKw := min f.requestKw r.host.contractKw
      clamped := decide (r.host.contractKw < f.requestKw)
      supply := supply
      ret := ret
      measuredDt := if pair then some (f.ret - f.supply) else if held = 10 then none else r.measuredDt
      dtHold := if pair then 0 else held
      indexDp :=
        if r.resolved.index = false then none else if f.indexDp ≤ 6000 then some ⟨f.indexDp, 0⟩ else r.indexDp
      confirmedKw := if f.standalone then r.assumedKw else r.confirmedKw
      confirmedFlow := if f.standalone then flowCap r.assumedKw r.host.designDt else r.confirmedFlow
      confirmedDt := if f.standalone then r.host.designDt else r.confirmedDt }
    let dt := new.effectiveDt s.plant.dtFloor
    let atRest := (s.br b).rest = .offering ∨ (s.br b).rest = .resting
    (r.state = .active →
      ∃ t, exec (.report b n.val f) s = .next t ∧
        t.kept = s.kept.withStation n
          { new with grantDt := if r.grantDt + 5 ≤ dt ∨ dt + 5 ≤ r.grantDt then dt else r.grantDt } ∧
        (t.stn n).grantKw ≤ (t.stn n).requestKw ∧
        (0 < f.requestKw ∨ f.standalone = true → atRest → (t.br b).rest = .waking) ∧
        (r.grantKw < new.requestKw → 10 ≤ s.plant.quantum → t.passEnded) ∧
        (f.standalone = true → s.branchOf n = some b → (∀ e ∈ (s.br b).queue, e.station = n → e.flight ≠ none) →
          ∃ e ∈ (t.br b).queue, e.station = n ∧ e.seq = r.nextSeq ∧ e.targetGrant = (t.stn n).grantKw ∧
            e.targetFlow = (t.stn n).grantCap ∧ (0 < (t.stn n).grantKw → e.dtUsed = (t.stn n).grantDt))) ∧
    (r.state = .attaching → r.debounce = 0 →
      ∃ t, exec (.report b n.val f) s = .next t ∧ t.kept = s.kept.withStation n { new with debounce := 1 } ∧
        (0 < f.requestKw → atRest → (t.br b).rest = .waking)) ∧
    (r.state = .attaching → 1 ≤ r.debounce →
      ∃ t, exec (.report b n.val f) s = .next t ∧
        t.kept = s.kept.withStation n { new with state := .active, debounce := 0, grantDt := dt } ∧
        t.faults.quiet .stationLost n.val ∧
        (0 < f.requestKw → atRest → (t.br b).rest = .waking) ∧
        (10 ≤ s.plant.quantum → t.passEnded) ∧
        (s.branchOf n = some b → (∀ e ∈ (s.br b).queue, e.station ≠ n) →
          ∃ e ∈ (t.br b).queue, e.station = n ∧ e.seq = r.nextSeq ∧ e.targetGrant = (t.stn n).grantKw ∧
            e.targetFlow = (t.stn n).grantCap ∧ e.dtUsed = (t.stn n).grantDt))

/-- An ADVERTISE in range from a SEEKING or LOST station: the advertisement stored, the figures of its present cap at design_dt,
the hold timer stopped, nothing requested or measured, and the station ATTACHING (R7). -/
def Obligations.StationsAdvertise : Prop :=
  ∀ (s : State) (b : Fin 6) (n : Fin 48) (caps standaloneKw presentCap revision : Nat), s.powered = true →
    (s.br b).txn = some ⟨n, .probe, false⟩ → (s.stn n).state = .seeking ∨ (s.stn n).state = .lost →
    standaloneKw ≤ 20000 → presentCap ≤ 65534 →
    ∃ t, exec (.advertise b n.val caps standaloneKw presentCap revision) s = .next t ∧
      t.kept = s.kept.withStation n { s.stn n with
        state := .attaching
        advert := some ⟨⟨caps.testBit 0, caps.testBit 1, caps.testBit 2, caps.testBit 3⟩, standaloneKw, presentCap, revision⟩
        confirmedFlow := presentCap
        confirmedKw := min 20000 ((presentCap * 4186 * (s.stn n).host.designDt + 99999) / 100000)
        confirmedDt := (s.stn n).host.designDt
        hold := none
        requestKw := 0
        clamped := false
        supply := none
        ret := none
        measuredDt := none
        dtHold := 0
        indexDp := none
        debounce := 0
        missCount := 0 }

/-- A valid CAP-ACK for the entry in flight writes the confirmed figures: the flow and the grant kW sent, and the entry's dt used.
The entry is removed and its transaction has ended. What a ramp left of its flow is appended at the tail under the station's next
cap sequence, unless the station has another entry there (R131, R134); a pass or a shed of the event may add to the queue or
change its figures, and where neither comes the queue is the rest with that remainder. With a CAP next in turn the head goes out
at once: its flow held to one ramp step above the confirmed flow, its grant kW to the equivalent of that flow (R128, R132). That a
fall of confirmed_kw alone calls for the pass is the model's reading (notes/assumptions/11.md). -/
def Obligations.CapsAreAcknowledged : Prop :=
  ∀ (s : State) (b : Fin 6) (e : CapEntry) (rest : List CapEntry) (f : Flight) (flow grant : Nat), s.powered = true →
    (s.br b).txn = some ⟨e.station, .cap e.seq flow grant, false⟩ → (s.br b).queue = e :: rest → e.flight = some f →
    let r := s.stn e.station
    let ramped := f.flowSent < e.targetFlow ∧ ∀ d ∈ rest, d.station ≠ e.station
    let again : CapEntry := ⟨e.station, r.nextSeq, e.targetGrant, e.targetFlow, e.dtUsed, none⟩
    let left := if ramped then rest ++ [again] else rest
    let key (d : CapEntry) : Fin 48 × Nat := (d.station, d.seq)
    ∃ t, exec (.capAck b e.station.val e.seq) s = .next t ∧
      t.kept = s.kept.withStation e.station { r with
        missCount := 0
        confirmedFlow := f.flowSent
        confirmedDt := e.dtUsed
        confirmedKw := f.grantSent } ∧
      (t.br b).freed ∧ left.map key <+: (t.br b).queue.map key ∧
      (f.grantSent < r.confirmedKw → 10 ≤ s.plant.quantum → t.passEnded) ∧
      (r.confirmedKw ≤ f.grantSent → s.capsLawful → s.sumGrants ≤ s.capacity →
        (t.br b).queue.map CapEntry.grounded = left.map CapEntry.grounded ∧
        (t.stn e.station).nextSeq = (if ramped then (r.nextSeq + 1) % 256 else r.nextSeq) ∧
        ∀ e₁ rest₁, left = e₁ :: rest₁ → e₁.flight = none → (s.br b).settings.window ≠ none → (s.br b).capsInRow ≠ 4 →
          let confirmed := (t.stn e₁.station).confirmedFlow
          let ramp := (s.br b).settings.rampStep
          let sent := if confirmed < e₁.targetFlow ∧ 0 < ramp then min e₁.targetFlow (confirmed + ramp) else e₁.targetFlow
          let kw := if sent = e₁.targetFlow then e₁.targetGrant else min e₁.targetGrant (kwEquivalent sent e₁.dtUsed)
          (t.br b).queue = { e₁ with flight := some ⟨1, sent, kw⟩ } :: rest₁ ∧
          (t.br b).txn = some ⟨e₁.station, .cap e₁.seq sent kw, false⟩)

/-- A valid REST-ANSWER in OFFERING: an accept makes the standing accepted, and the branch rests once every ACTIVE station of its
window stands so; a decline wakes the branch (R147, R150). A valid WAKE-ACK in WAKING takes the standing wake owed away
(R151). -/
def Obligations.RestIsAnswered : Prop :=
  ∀ (s : State) (b : Fin 6) (n : Fin 48), s.powered = true → s.windowsLawful → s.inWindow b n = true →
    (s.stn n).state = .active →
    ((s.br b).txn = some ⟨n, .restOffer, false⟩ → (s.br b).rest = .offering →
      ((s.stn n).standing = .offerOwed →
        ∃ t, exec (.restAnswer b n.val 1) s = .next t ∧
          t.kept = s.kept.withStation n { s.stn n with missCount := 0 } ∧ (t.stn n).standing = .accepted ∧
          ((∀ m ∈ s.activeIn b, m ≠ n → (s.stn m).standing = .accepted) → (t.br b).rest = .resting) ∧
          ((∃ m ∈ s.activeIn b, m ≠ n ∧ (s.stn m).standing ≠ .accepted) → (t.br b).rest = .offering)) ∧
      ∃ t, exec (.restAnswer b n.val 0) s = .next t ∧
        t.kept = s.kept.withStation n { s.stn n with missCount := 0 } ∧ (t.br b).rest = .waking ∧
        (t.br b).wakeTimer = some (s.br b).settings.wakeTime ∧
        ∀ m ∈ s.activeIn b, (t.stn m).standing = .wakeOwed) ∧
    ((s.br b).txn = some ⟨n, .wake, false⟩ → (s.br b).rest = .waking → (s.stn n).standing = .wakeOwed →
      ∃ t, exec (.wakeAck b n.val) s = .next t ∧
        t.kept = s.kept.withStation n { s.stn n with missCount := 0 } ∧ (t.stn n).standing = .uninvolved)

/-- A rotation in which no frame was sent and no slot is due ends: the count rises from 7 to 0, and a LIVE branch judges it
(R129, R143); once its idle count has reached a rest threshold above 0 and every ACTIVE station has REST, the branch enters
OFFERING with an offer owed to each, or rests at once with none ACTIVE, and otherwise it stays LIVE (R144, R146). An ACTIVE
station of a RESTING branch falls due for a POLL, which is sent as soon as the segment is free (R154). The wake timer of a
WAKING branch runs out: LIVE, the timer stopped, and a grant pass (R77, R87, R152); with a rest threshold of 1 the end of an
idle rotation may put it to rest again within the event. When a rotation is judged, when a POLL that has fallen due goes out,
and a rotation with no ACTIVE station, are read as notes/assumptions/8.md, 19.md and 31.md say. -/
def Obligations.RotationsAndWakeTimersEnd : Prop :=
  ∀ (s : State) (b : Fin 6), s.powered = true →
    ((s.br b).settings.window ≠ none → (s.br b).rotSent = false → s.nextDue b = none →
      ∃ t, exec (.emptyRotationEnd b) s = .next t ∧ t.kept = s.kept ∧
        (t.br b).rotCount = ((s.br b).rotCount + 1) % 8 ∧
        ((s.br b).rest = .live → (s.br b).settings.restThreshold = 0 →
          (t.br b).idleCount = if s.rotationIdle b then min 255 ((s.br b).idleCount + 1) else 0) ∧
        (let idle := if s.rotationIdle b then min 255 ((s.br b).idleCount + 1) else 0
        let threshold := (s.br b).settings.restThreshold
        (s.br b).rest = .live → 0 < threshold →
          if threshold ≤ idle ∧ ∀ n ∈ s.activeIn b, (s.stn n).resolved.rest = true then
            (t.br b).rest = (if s.activeIn b = [] then .resting else .offering) ∧ (t.br b).idleCount = 0 ∧
              ∀ n ∈ s.activeIn b, (t.stn n).standing = .offerOwed ∧ (t.stn n).grantKw = 0
          else (t.br b).rest = .live ∧ (t.br b).idleCount = idle)) ∧
    (∀ n : Fin 48, s.branchOf n = some b → (s.stn n).state = .active → (s.br b).rest = .resting →
      ∃ t, exec (.restPollDue n) s = .next t ∧ t.kept = s.kept ∧
        ((t.stn n).sincePoll = (s.stn n).sincePoll.map (max (s.br b).settings.restPoll) ∨
          ((t.stn n).sincePoll = some 0 ∧ ∃ d : Fin 6, (t.br d).txn = some ⟨n, .poll, false⟩))) ∧
    ((s.br b).rest = .waking → (s.br b).wakeTimer ≠ none →
      ∃ t, exec (.wakeTimerExpiry b) s = .next t ∧ t.kept = s.kept ∧ (t.br b).wakeTimer = none ∧
        ((s.br b).settings.restThreshold ≠ 1 → (t.br b).rest = .live) ∧ (10 ≤ s.plant.quantum → t.passEnded))
end

