-- ==== Sys2Proof/Laws/State.lean ====
section
/-!
SUPPORT. Reading a record after writing one, and the fields that each named update of the state leaves alone.
-/

namespace Sys2Proof.Machine

/-! ### Station records -/

@[simp] theorem stn_setStn_same (s : State) (n : Fin 48) (r : Station) : (s.setStn n r).stn n = r := by
  simp [State.setStn, State.stn]

theorem stn_setStn_ne (s : State) {n m : Fin 48} (h : m ≠ n) (r : Station) : (s.setStn n r).stn m = s.stn m := by
  have : n.val ≠ m.val := fun e => h (Fin.ext e.symm)
  simp [State.setStn, State.stn, this]

theorem stn_setStn (s : State) (n m : Fin 48) (r : Station) :
    (s.setStn n r).stn m = if m = n then r else s.stn m := by
  by_cases h : m = n
  · subst h; simp
  · simp [stn_setStn_ne s h, h]

theorem stn_updStn (s : State) (n m : Fin 48) (f : Station → Station) :
    (s.updStn n f).stn m = if m = n then f (s.stn n) else s.stn m := by
  rw [State.updStn, stn_setStn]

@[simp] theorem stn_updStn_same (s : State) (n : Fin 48) (f : Station → Station) :
    (s.updStn n f).stn n = f (s.stn n) := by simp [State.updStn]

@[simp] theorem stn_mapStn (s : State) (f : Fin 48 → Station → Station) (n : Fin 48) :
    (s.mapStn f).stn n = f n (s.stn n) := by simp [State.mapStn, State.stn]

/-! ### Branch records -/

@[simp] theorem br_setBr_same (s : State) (b : Fin 6) (c : Branch) : (s.setBr b c).br b = c := by
  simp [State.setBr, State.br]

theorem br_setBr_ne (s : State) {b d : Fin 6} (h : d ≠ b) (c : Branch) : (s.setBr b c).br d = s.br d := by
  have : b.val ≠ d.val := fun e => h (Fin.ext e.symm)
  simp [State.setBr, State.br, this]

theorem br_setBr (s : State) (b d : Fin 6) (c : Branch) :
    (s.setBr b c).br d = if d = b then c else s.br d := by
  by_cases h : d = b
  · subst h; simp
  · simp [br_setBr_ne s h, h]

theorem br_updBr (s : State) (b d : Fin 6) (f : Branch → Branch) :
    (s.updBr b f).br d = if d = b then f (s.br b) else s.br d := by
  rw [State.updBr, br_setBr]

@[simp] theorem br_updBr_same (s : State) (b : Fin 6) (f : Branch → Branch) :
    (s.updBr b f).br b = f (s.br b) := by simp [State.updBr]

@[simp] theorem br_mapBr (s : State) (f : Branch → Branch) (b : Fin 6) : (s.mapBr f).br b = f (s.br b) := by
  simp [State.mapBr, State.br]

/-! ### Chillers and watches -/

@[simp] theorem chiller_setChiller_same (s : State) (u : Fin 8) (c : Chiller) :
    (s.setChiller u c).chiller u = c := by simp [State.setChiller, State.chiller]

theorem chiller_setChiller (s : State) (u v : Fin 8) (c : Chiller) :
    (s.setChiller u c).chiller v = if v = u then c else s.chiller v := by
  by_cases h : v = u
  · subst h; simp
  · have : u.val ≠ v.val := fun e => h (Fin.ext e.symm)
    simp [State.setChiller, State.chiller, this, h]

@[simp] theorem watch_setWatch_same (s : State) (a : Fin 11) (w : Watch) : (s.setWatch a w).watch a = w := by
  simp [State.setWatch, State.watch]

theorem watch_setWatch (s : State) (a c : Fin 11) (w : Watch) :
    (s.setWatch a w).watch c = if c = a then w else s.watch c := by
  by_cases h : c = a
  · subst h; simp
  · have : a.val ≠ c.val := fun e => h (Fin.ext e.symm)
    simp [State.setWatch, State.watch, this, h]

/-! ### What one record's write leaves alone -/

@[simp] theorem br_setStn (s : State) (n : Fin 48) (r : Station) (b : Fin 6) : (s.setStn n r).br b = s.br b := rfl
@[simp] theorem br_updStn (s : State) (n : Fin 48) (f : Station → Station) (b : Fin 6) :
    (s.updStn n f).br b = s.br b := rfl
@[simp] theorem br_mapStn (s : State) (f : Fin 48 → Station → Station) (b : Fin 6) :
    (s.mapStn f).br b = s.br b := by simp only [State.mapStn, State.br]
@[simp] theorem stn_setBr (s : State) (b : Fin 6) (c : Branch) (n : Fin 48) : (s.setBr b c).stn n = s.stn n := rfl
@[simp] theorem stn_updBr (s : State) (b : Fin 6) (f : Branch → Branch) (n : Fin 48) :
    (s.updBr b f).stn n = s.stn n := rfl
@[simp] theorem stn_mapBr (s : State) (f : Branch → Branch) (n : Fin 48) : (s.mapBr f).stn n = s.stn n := by
  simp only [State.mapBr, State.stn]
@[simp] theorem stn_setChiller (s : State) (u : Fin 8) (c : Chiller) (n : Fin 48) :
    (s.setChiller u c).stn n = s.stn n := rfl
@[simp] theorem stn_setWatch (s : State) (a : Fin 11) (w : Watch) (n : Fin 48) :
    (s.setWatch a w).stn n = s.stn n := rfl
@[simp] theorem br_setChiller (s : State) (u : Fin 8) (c : Chiller) (b : Fin 6) :
    (s.setChiller u c).br b = s.br b := rfl
@[simp] theorem br_setWatch (s : State) (a : Fin 11) (w : Watch) (b : Fin 6) :
    (s.setWatch a w).br b = s.br b := rfl
@[simp] theorem chiller_setWatch (s : State) (a : Fin 11) (w : Watch) (u : Fin 8) :
    (s.setWatch a w).chiller u = s.chiller u := rfl
@[simp] theorem stn_bus (s : State) (c : BusCommand) (n : Fin 48) : (s.bus c).stn n = s.stn n := rfl
@[simp] theorem br_bus (s : State) (c : BusCommand) (b : Fin 6) : (s.bus c).br b = s.br b := rfl
@[simp] theorem chiller_bus (s : State) (c : BusCommand) (u : Fin 8) : (s.bus c).chiller u = s.chiller u := rfl
@[simp] theorem stn_notify (s : State) (x : Notice) (n : Fin 48) : (s.notify x).stn n = s.stn n := rfl
@[simp] theorem br_notify (s : State) (x : Notice) (b : Fin 6) : (s.notify x).br b = s.br b := rfl

/-! ### Events -/

@[simp] theorem event_st (s : State) : s.event.st = s := rfl
@[simp] theorem event_pass (s : State) : s.event.pass = false := rfl
@[simp] theorem map_st (e : Event) (f : State → State) : (e.map f).st = f e.st := rfl
@[simp] theorem map_pass (e : Event) (f : State → State) : (e.map f).pass = e.pass := rfl
@[simp] theorem callPass_st (e : Event) (c : Bool) : (e.callPass c).st = e.st := rfl
@[simp] theorem callPass_pass (e : Event) (c : Bool) : (e.callPass c).pass = (e.pass || c) := rfl
@[simp] theorem putStn_st (e : Event) (n : Fin 48) (r : Station) : (e.putStn n r).st = e.st.setStn n r := rfl

/-! ### The judging of a frame -/

/-- The address of a station is an ISOLATED one exactly while that station is ISOLATED. -/
@[simp] theorem isolatedAddress_val (s : State) (n : Fin 48) :
    s.isolatedAddress n.val = decide ((s.stn n).state = .isolated) := by
  simp [State.isolatedAddress, stationOf]

/-- With no transaction waiting a frame is discarded (R123). -/
theorem fieldFrame_unawaited {s : State} {b : Fin 6} (h : (s.br b).txn = none) (a : Nat) (r : Option FieldReply) :
    s.fieldFrame b a r = s := by simp [State.fieldFrame, h]

/-- A frame from an ISOLATED station to which the waiting transaction is not addressed is discarded (R121). -/
theorem fieldFrame_isolated {s : State} {b : Fin 6} {t : Txn} {n : Fin 48} (h : (s.br b).txn = some t)
    (hn : n ≠ t.station) (hs : (s.stn n).state = .isolated) (r : Option FieldReply) : s.fieldFrame b n.val r = s := by
  simp [State.fieldFrame, h, hs, Fin.val_inj, hn]

/-- A frame of the station that the waiting transaction addresses is judged as its reply (R124, R125). -/
theorem fieldFrame_own {s : State} {b : Fin 6} {t : Txn} (h : (s.br b).txn = some t) (r : Option FieldReply) :
    s.fieldFrame b t.station.val r =
      match r with
      | some r => if s.validReply t t.station.val r then s.replied b t r else s.countProtocol b
      | none => s.countProtocol b := by
  cases r <;> simp [State.fieldFrame, h]

/-! ### The whole of a powered event -/

@[simp] theorem whilePowered_on (f : State → State) (s : State) (h : s.powered = true) :
    whilePowered f s = .next (f s) := by simp [whilePowered, h]

@[simp] theorem whilePowered_off (f : State → State) (s : State) (h : s.powered = false) :
    whilePowered f s = .next s := by simp [whilePowered, h]

end Sys2Proof.Machine
end

