-- ==== Sys2Proof/Laws/Kept.lean ====
section
/-!
SUPPORT. What each operation of the end of an event leaves alone, one lemma an operation, up to the whole of it: the
settings, the plant's records and the stable part of every station record are as they were (`State.kept`).
-/

namespace Sys2Proof.Machine

/-! ### Cap entries -/

@[simp] theorem grounded_station (e : CapEntry) : e.grounded.station = e.station := rfl
@[simp] theorem grounded_seq (e : CapEntry) : e.grounded.seq = e.seq := rfl
@[simp] theorem grounded_flight (e : CapEntry) : e.grounded.flight = none := rfl
@[simp] theorem grounded_idem (e : CapEntry) : e.grounded.grounded = e.grounded := rfl

/-- The sending of an entry changes only what it holds while in flight (R132, R133). -/
@[simp] theorem grounded_launch (e : CapEntry) (confirmed ramp : Nat) : (e.launch confirmed ramp).grounded = e.grounded := by
  unfold CapEntry.launch
  split <;> rfl

/-! ### Folds -/

/-- A fold of an operation that keeps a view keeps it. -/
theorem foldl_keeps {α σ τ : Type} (view : σ → τ) (f : σ → α → σ) (h : ∀ s a, view (f s a) = view s)
    (l : List α) (s : σ) : view (l.foldl f s) = view s := by
  induction l generalizing s with
  | nil => rfl
  | cons a l ih => rw [List.foldl_cons, ih, h]

/-! ### Records -/

theorem kept_setStn (s : State) (n : Fin 48) (r : Station) (h : r.stable = (s.stn n).stable) :
    (s.setStn n r).kept = s.kept := by
  have : (fun m => ((s.setStn n r).stn m).stable) = fun m => (s.stn m).stable := by
    funext m
    rw [stn_setStn]
    split
    · next e => rw [e, h]
    · rfl
  simp only [State.kept, this]
  rfl

theorem kept_updStn (s : State) (n : Fin 48) (f : Station → Station) (h : ∀ r, (f r).stable = r.stable) :
    (s.updStn n f).kept = s.kept := kept_setStn s n _ (h _)

theorem kept_setBr (s : State) (b : Fin 6) (c : Branch) (h : c.settings = (s.br b).settings)
    (h1 : c.badFrames = (s.br b).badFrames) (h2 : c.protocolErrors = (s.br b).protocolErrors) :
    (s.setBr b c).kept = s.kept := by
  have : (fun d => (((s.setBr b c).br d).settings, ((s.setBr b c).br d).badFrames, ((s.setBr b c).br d).protocolErrors))
      = fun d => ((s.br d).settings, (s.br d).badFrames, (s.br d).protocolErrors) := by
    funext d
    rw [br_setBr]
    split
    · next e => rw [e, h, h1, h2]
    · rfl
  simp only [State.kept, this]
  rfl

theorem kept_updBr (s : State) (b : Fin 6) (f : Branch → Branch) (h : ∀ c, (f c).settings = c.settings)
    (h1 : ∀ c, (f c).badFrames = c.badFrames) (h2 : ∀ c, (f c).protocolErrors = c.protocolErrors) :
    (s.updBr b f).kept = s.kept := kept_setBr s b _ (h _) (h1 _) (h2 _)

/-! ### Notices and faults -/

@[simp] theorem asReply_notice (n : Notice) : (OutFrame.notice n).asReply = none := rfl
@[simp] theorem asReply_reply (t : Nat) (r : Reply) : (OutFrame.reply t r).asReply = some (t, r) := rfl

theorem eraseP_notice (l : List OutFrame) :
    (l.eraseP OutFrame.isNotice).filterMap OutFrame.asReply = l.filterMap OutFrame.asReply := by
  induction l with
  | nil => rfl
  | cons a l ih =>
    cases a with
    | reply t r => simp [OutFrame.isNotice, ih]
    | notice n => simp [List.eraseP_cons, OutFrame.isNotice, List.filterMap_cons]

theorem replies_issue (l : Link) (f : OutFrame) (h : l.sending = none → l.waiting = []) :
    (l.issue f).replies = l.replies ++ f.asReply.toList := by
  unfold Link.issue Link.replies
  split
  · next e => cases f <;> simp [e, h e, List.filterMap_cons]
  · next e =>
    rw [e]
    cases f <;> simp only [Option.toList_some, List.filterMap_append, ← List.append_assoc] <;> simp

theorem replies_issueNotice (l : Link) (n : Notice) : (l.issueNotice n).replies = l.replies := by
  unfold Link.issueNotice
  split
  · unfold Link.replies
    simp only [List.filterMap_append]
    rw [eraseP_notice]
    simp
  · unfold Link.issue Link.replies
    split
    · next e => simp [e, List.filterMap_cons]
    · simp [List.filterMap_append, List.filterMap_cons]

theorem link_kept_issueNotice (l : Link) (n : Notice) : (l.issueNotice n).kept = l.kept := by
  have h := replies_issueNotice l n
  simp only [Link.kept, h]
  unfold Link.issueNotice Link.issue
  split
  · rfl
  · split <;> rfl

@[simp] theorem kept_notify (s : State) (n : Notice) : (s.notify n).kept = s.kept := by
  have h := link_kept_issueNotice s.link n
  show State.kept { s with link := s.link.issueNotice n } = s.kept
  simp only [State.kept, h]
  rfl

theorem kept_faults (s : State) (l : FaultList) (h : l.mask = s.faults.mask) :
    State.kept { s with faults := l } = s.kept := by
  simp only [State.kept, h]
  rfl

@[simp] theorem kept_raise (s : State) (k : FaultKind) (subject : Nat) : (s.raise k subject).kept = s.kept := by
  unfold State.raise
  split
  · exact kept_faults s _ rfl
  · split
    · dsimp only
      split
      · exact kept_faults s _ rfl
      · rw [kept_notify]; exact kept_faults s _ rfl
    · exact kept_faults s _ rfl

@[simp] theorem kept_endCondition (s : State) (k : FaultKind) (subject : Nat) :
    (s.endCondition k subject).kept = s.kept := kept_faults s _ rfl

@[simp] theorem kept_endIndexLost (s : State) : s.endIndexLost.kept = s.kept := kept_faults s _ rfl

@[simp] theorem kept_judgeRelay (s : State) : s.judgeRelay.kept = s.kept := kept_faults s _ rfl

/-! ### The cap queue and the allocator -/

@[simp] theorem kept_appendEntry (s : State) (b : Fin 6) (n : Fin 48) (g f d : Nat) :
    (s.appendEntry b n g f d).kept = s.kept := by
  unfold State.appendEntry
  rw [kept_updStn, kept_updBr] <;> intros <;> rfl

@[simp] theorem kept_queueChange (s : State) (b : Fin 6) (n : Fin 48) (g f d : Nat) :
    (s.queueChange b n g f d).kept = s.kept := by
  unfold State.queueChange
  split
  · rw [kept_updBr] <;> intros <;> rfl
  · exact kept_appendEntry _ _ _ _ _ _

@[simp] theorem kept_handGrant (s : State) (n : Fin 48) : (s.handGrant n).kept = s.kept := by
  unfold State.handGrant
  split
  · exact kept_queueChange _ _ _ _ _ _
  · rfl

theorem kept_setGrant (s : State) (n : Fin 48) (f : Station → Nat) :
    (s.updStn n fun r => { r with grantKw := f r }).kept = s.kept := by
  rw [kept_updStn]; intros; rfl

@[simp] theorem kept_release (s : State) (n : Fin 48) (k : Nat) : (s.release n k).kept = s.kept := by
  unfold State.release
  split
  · rw [kept_handGrant]; exact kept_setGrant s n fun _ => k
  · rfl

theorem kept_allocator (s : State) (a : Allocator) : State.kept { s with allocator := a } = s.kept := rfl

@[simp] theorem kept_offer (w : PassWork) (n : Fin 48) : (w.offer n).1.st.kept = w.st.kept := by
  unfold PassWork.offer
  split
  · rfl
  · dsimp only
    split
    · exact kept_setStn _ _ _ rfl
    · exact kept_setStn _ _ _ rfl

theorem kept_firmOffers (l : List (Fin 48)) (w : PassWork) (g : Option (Fin 48)) :
    (firmOffers l w g).1.st.kept = w.st.kept := by
  induction l generalizing w g with
  | nil => rfl
  | cons n l ih =>
    unfold firmOffers
    split
    · rfl
    · split
      · dsimp only; rw [ih, kept_offer]
      · exact ih _ _

@[simp] theorem kept_firmPart (w : PassWork) : w.firmPart.st.kept = w.st.kept := by
  unfold PassWork.firmPart
  dsimp only
  split
  · rw [kept_allocator, kept_firmOffers]
  · exact kept_firmOffers _ _ _

@[simp] theorem kept_setFlex (w : PassWork) (l : List (Fin 48)) : (w.setFlex l).st.kept = w.st.kept := rfl

@[simp] theorem kept_takeFlex (w : PassWork) : w.takeFlex.st.kept = w.st.kept := by
  unfold PassWork.takeFlex
  split <;> rfl

@[simp] theorem kept_dropFlex (w : PassWork) : w.dropFlex.st.kept = w.st.kept := rfl

@[simp] theorem kept_flexStep (w : PassWork) : w.flexStep.st.kept = w.st.kept := by
  unfold PassWork.flexStep
  dsimp only
  split
  · simp
  · rw [kept_allocator]; simp

@[simp] theorem kept_round (w : PassWork) : w.round.st.kept = w.st.kept := by
  unfold PassWork.round
  dsimp only
  split <;> simp

theorem kept_rounds (fuel : Nat) (w : PassWork) : (rounds fuel w).st.kept = w.st.kept := by
  induction fuel generalizing w with
  | zero => rfl
  | succ k ih =>
    unfold rounds
    split
    · rw [ih]; simp
    · rfl

@[simp] theorem kept_grantPass (s : State) (l : List (Fin 48)) : (grantPass s l).st.kept = s.kept :=
  kept_rounds _ _

@[simp] theorem kept_cutAt (w : ShedWork) (c : ShedScope) (g : ShedStage) (n : Fin 48) :
    (w.cutAt c g n).st.kept = w.st.kept := by
  unfold ShedWork.cutAt
  dsimp only
  split
  · rw [kept_raise]; exact kept_setGrant _ _ fun r => r.grantKw - _
  · exact kept_setGrant _ _ fun r => r.grantKw - _

theorem kept_shedWalk (fuel : Nat) (c : ShedScope) (g : ShedStage) (p : Fin 48) (w : ShedWork) :
    (shedWalk fuel c g p w).st.kept = w.st.kept := by
  induction fuel generalizing p w with
  | zero => rfl
  | succ k ih =>
    unfold shedWalk
    split
    · rfl
    · split
      · rfl
      · rw [ih, kept_cutAt]

@[simp] theorem kept_stage (w : ShedWork) (c : ShedScope) (g : ShedStage) :
    (w.stage c g).st.kept = w.st.kept := by
  unfold ShedWork.stage
  dsimp only
  rw [kept_allocator, kept_shedWalk]

@[simp] theorem kept_shed (c : ShedScope) (s : State) (l : List (Fin 48)) : (shed c s l).st.kept = s.kept := by
  simp [shed]

@[simp] theorem kept_sheds (s : State) : (sheds s).1.kept = s.kept := by
  unfold sheds
  dsimp only
  have h : ∀ l : List (Fin 6), ∀ w : State × List (Fin 48),
      (l.foldl (fun (w : State × List (Fin 48)) b =>
        if w.1.overLimit b then
          let d := shed (.branch b) w.1 w.2
          (d.st, d.changed)
        else w) w).1.kept = w.1.kept := fun l w =>
    foldl_keeps (fun w : State × List (Fin 48) => w.1.kept) _ (fun w b => by
      dsimp only
      split
      · simp
      · rfl) l w
  split
  · rw [kept_shed, h]
  · rw [h]

@[simp] theorem kept_handChanges (before : State) (l : List (Fin 48)) (s : State) :
    (handChanges before l s).kept = s.kept :=
  foldl_keeps State.kept _ (fun s n => by
    split
    · rfl
    · exact kept_handGrant s n) l s

@[simp] theorem kept_allocate (e : Event) : (allocate e).kept = e.st.kept := by
  unfold allocate
  dsimp only
  split <;> simp

/-! ### Rest, rotation and the arbiter -/

@[simp] theorem kept_setStanding (s : State) (n : Fin 48) (t : Standing) : (s.setStanding n t).kept = s.kept := by
  unfold State.setStanding
  rw [kept_updStn]; intros; rfl

@[simp] theorem kept_judgeOffering (s : State) (b : Fin 6) : (s.judgeOffering b).kept = s.kept := by
  unfold State.judgeOffering
  split
  · rw [kept_updBr] <;> intros <;> rfl
  · rfl

@[simp] theorem kept_enterOffering (s : State) (b : Fin 6) : (s.enterOffering b).kept = s.kept := by
  unfold State.enterOffering
  dsimp only
  rw [kept_judgeOffering, foldl_keeps State.kept _ (fun s n => kept_setStanding s n _),
    foldl_keeps State.kept _ (fun s n => kept_release s n 0), kept_updBr] <;> intros <;> rfl

@[simp] theorem kept_enterWaking (s : State) (b : Fin 6) : (s.enterWaking b).kept = s.kept := by
  unfold State.enterWaking
  dsimp only
  rw [foldl_keeps State.kept _ (fun s n => kept_setStanding s n _), kept_updBr] <;> intros <;> rfl

@[simp] theorem kept_wakeReason (s : State) (b : Fin 6) : (s.wakeReason b).kept = s.kept := by
  unfold State.wakeReason
  split
  · exact kept_enterWaking s b
  · rfl

@[simp] theorem kept_enterLive (s : State) (b : Fin 6) : (s.enterLive b).kept = s.kept := by
  unfold State.enterLive
  rw [kept_updBr] <;> intros <;> rfl

@[simp] theorem kept_joinRest (s : State) (b : Fin 6) (n : Fin 48) : (s.joinRest b n).kept = s.kept := by
  unfold State.joinRest
  split
  · rfl
  · exact kept_setStanding _ _ _
  · split
    · exact kept_setStanding _ _ _
    · exact kept_enterWaking _ _
  · split
    · exact kept_setStanding _ _ _
    · exact kept_enterWaking _ _

@[simp] theorem kept_judgeIdle (s : State) (b : Fin 6) : (s.judgeIdle b).kept = s.kept := by
  unfold State.judgeIdle
  split
  · dsimp only; rw [kept_updBr] <;> intros <;> rfl
  · rfl

@[simp] theorem kept_endRotation (s : State) (b : Fin 6) : (s.endRotation b).kept = s.kept := by
  unfold State.endRotation
  dsimp only
  split
  · rw [kept_enterOffering, kept_updBr, kept_judgeIdle] <;> intros <;> rfl
  · rw [kept_updBr, kept_judgeIdle] <;> intros <;> rfl

@[simp] theorem kept_passRotation (s : State) (b : Fin 6) : (s.passRotation b).kept = s.kept := by
  unfold State.passRotation
  split
  · exact kept_endRotation s b
  · rfl

@[simp] theorem kept_send (s : State) (b : Fin 6) (c : Choice) : (s.send b c).kept = s.kept := by
  unfold State.send
  split
  · unfold State.sendCap
    split
    · rfl
    · dsimp only; rw [kept_updBr] <;> intros <;> rfl
  · rw [kept_updBr] <;> intros <;> rfl
  · unfold State.sendMeterAsk
    split
    · rw [kept_updBr] <;> intros <;> rfl
    · rfl
  · unfold State.sendRotation
    dsimp only
    split
    · rw [kept_updStn, kept_updBr] <;> intros <;> rfl
    · rw [kept_updBr] <;> intros <;> rfl

@[simp] theorem kept_arbitrate (s : State) (b : Fin 6) : (s.arbitrate b).kept = s.kept := by
  unfold State.arbitrate
  split
  · dsimp only
    split <;> simp
  · rfl

@[simp] theorem kept_arbitrateAll (s : State) : s.arbitrateAll.kept = s.kept :=
  foldl_keeps State.kept _ kept_arbitrate _ s

/-! ### Storage, pressure and the whole -/

@[simp] theorem kept_sendTank (s : State) (c : TankCommand) : (s.sendTank c).kept = s.kept := rfl

@[simp] theorem kept_evalTank (s : State) (r : Bool) : (s.evalTank r).kept = s.kept := by
  unfold State.evalTank
  split
  · rfl
  · split
    · split <;> rfl
    · split <;> rfl

@[simp] theorem kept_settleStorage (s before : State) (t r : Bool) :
    (s.settleStorage before t r).kept = s.kept := by
  unfold State.settleStorage
  split
  · rw [kept_evalTank]; rfl
  · rfl

@[simp] theorem kept_setSource (s : State) (c : Source) : (s.setSource c).kept = s.kept := rfl

@[simp] theorem kept_setRevert (s : State) (t : Option Nat) : (s.setRevert t).kept = s.kept := rfl

@[simp] theorem kept_lock (s : State) (c : Source) : (s.lock c).kept = s.kept := by simp [State.lock]

@[simp] theorem kept_loseSource (s : State) (n : Option (Fin 48)) : (s.loseSource n).kept = s.kept := by
  unfold State.loseSource
  dsimp only
  split <;> simp

@[simp] theorem kept_judgePressure (s : State) (was : RefSettings) : (s.judgePressure was).kept = s.kept := by
  have h : (s.judgeSource was).kept = s.kept := by
    unfold State.judgeSource
    repeat' split
    all_goals simp
  rw [← h]
  unfold State.judgePressure State.judgeRevert
  repeat' split
  all_goals simp

/-- The end of an event after the allocator leaves the kept part of the state alone. -/
@[simp] theorem kept_settle (s before : State) (t r : Bool) : (s.settle before t r).kept = s.kept := by
  simp [State.settle]

/-- The end of an event leaves the kept part of the state alone. -/
@[simp] theorem kept_finish (e : Event) (before : State) : (e.finish before).kept = e.st.kept := by
  simp [Event.finish]

/-- The end of an event that touches pressures alone leaves the kept part of the state alone. -/
@[simp] theorem kept_finishPressure (s before : State) : (s.finishPressure before).kept = s.kept := by
  simp [State.finishPressure]

end Sys2Proof.Machine
end

