-- ==== Sys2Proof/Laws/Link.lean ====
section
/-!
SUPPORT. What a request does that finds the link idle: it is handled at once, and its reply is issued. One lemma for each
operation on the way, up to `exec_request`, which a statement about a request row cites in place of unfolding the link.
-/

namespace Sys2Proof.Machine

/-! ### Taking a request -/

/-- A typed request row receives its request. -/
theorem exec_asRequest {c : Instr} {tag : Nat} {r : Request} (h : c.asRequest = some (tag, r)) (s : State) :
    exec c s = whilePowered (fun s => s.receive ⟨tag, r⟩) s := by
  cases c <;> simp only [Instr.asRequest, reduceCtorEq, Option.some.injEq, Prod.mk.injEq] at h <;>
    (obtain ⟨rfl, rfl⟩ := h; rfl)

/-- An idle link with an empty buffer handles a received frame at once. -/
theorem receive_of_ready {s : State} (h : s.ready) (f : HostFrame) : s.receive f = s.handle f := by
  obtain ⟨-, hp, hr, -⟩ := h
  cases s with | mk _ _ _ _ _ _ _ _ _ _ _ _ _ _ _ _ _ _ _ _ link _ _ _ _ =>
  cases link
  simp only at hp hr
  subst hp hr
  rfl

/-- The row of a request, on a ready state, is the request handled. -/
theorem exec_ready {c : Instr} {tag : Nat} {r : Request} (h : c.asRequest = some (tag, r)) {s : State} (hs : s.ready) :
    exec c s = .next (s.handle ⟨tag, r⟩) := by
  rw [exec_asRequest h, whilePowered_on _ _ hs.1, receive_of_ready hs]

/-- A frame received on a ready state is handled. -/
theorem exec_frame_ready {s : State} (hs : s.ready) (kind tag : Nat) (body : List Byte) :
    exec (.supervisoryFrameReceived kind tag body) s = .next (s.handle ⟨tag, parseRequest kind body⟩) := by
  show whilePowered (fun s => s.receive ⟨tag, parseRequest kind body⟩) s = _
  rw [whilePowered_on _ _ hs.1, receive_of_ready hs]

/-! ### Handling it -/

/-- A request other than SAVE and RESTART is carried out, and its reply issued. -/
theorem handle_eq {s : State} {tag : Nat} {r : Request} (h1 : r ≠ .save) (h2 : r ≠ .restart) :
    s.handle ⟨tag, r⟩ = ((s.carryOut tag r).1.closeSession r (s.carryOut tag r).2).reply tag (s.carryOut tag r).2
      (.replying false) := by
  cases r <;> first | rfl | exact absurd rfl h1 | exact absurd rfl h2

/-- A refusal leaves everything but the link as it was (R181). -/
theorem handle_refused {s : State} {tag : Nat} {r : Request} {reason : Reason}
    (h : s.carryOut tag r = (s, .refused reason)) : s.handle ⟨tag, r⟩ = s.answeredOnly tag (.refused reason) := by
  have h1 : r ≠ .save := by rintro rfl; simp [State.carryOut, State.doneEmpty] at h
  have h2 : r ≠ .restart := by rintro rfl; simp [State.carryOut, State.doneEmpty] at h
  rw [handle_eq h1 h2, h]
  rfl

/-- A request carried out with no more than its own effect: the state it leaves, the session closed, its reply issued. -/
theorem handle_done {s s' : State} {tag : Nat} {r : Request} {reply : Reply} (h1 : r ≠ .save) (h2 : r ≠ .restart)
    (h : s.carryOut tag r = (s', reply)) (hr : reply.isRefusal = false) (hk : r.keepsSession = false) :
    s.handle ⟨tag, r⟩ = State.answeredOnly { s' with session := none } tag reply := by
  rw [handle_eq h1 h2, h]
  simp [State.closeSession, hr, hk, State.reply, State.answeredOnly]

/-! ### The kept part -/

/-- Replies once one is issued where none was. -/
theorem replies_issue_first (l : Link) (h : l.replies = []) (tag : Nat) (r : Reply) :
    (l.issue (.reply tag r)).replies = [(tag, r)] := by
  unfold Link.replies at h
  unfold Link.issue Link.replies
  cases e : l.sending with
  | none => rw [e] at h; simp_all
  | some f =>
    rw [e] at h
    simp only [Option.toList_some, ← List.append_assoc, List.filterMap_append] at h ⊢
    rw [h]
    simp

/-- The kept part with a reply issued where none was. -/
theorem kept_answeredOnly (s : State) (h : s.link.replies = []) (tag : Nat) (r : Reply) :
    (s.answeredOnly tag r).kept =
      { s.kept with link := { s.link.kept with phase := .replying false, replies := [(tag, r)] } } := by
  have e := replies_issue_first s.link h tag r
  have e2 : (s.link.issue (.reply tag r)).kept = { s.link.kept with replies := [(tag, r)] } := by
    simp only [Link.kept, e]
    unfold Link.issue
    split <;> rfl
  have e3 : Link.kept { s.link.issue (.reply tag r) with phase := .replying false } =
      { (s.link.issue (.reply tag r)).kept with phase := .replying false } := rfl
  simp only [State.answeredOnly, State.kept, e3, e2]
  rfl

/-- The kept part after a request that ends with a state `s'` whose link is as kept: the one fact a statement about a
request row needs of the link. -/
theorem exec_request {c : Instr} {tag : Nat} {r : Request} {s s' : State} {reply : Reply}
    (hc : c.asRequest = some (tag, r)) (hs : s.ready) (h : s.carryOut tag r = (s', reply))
    (h1 : r ≠ .save) (h2 : r ≠ .restart) (hr : reply.isRefusal = false) (hk : r.keepsSession = false)
    (hl : s'.link.kept = s.link.kept) :
    exec c s = .next (State.answeredOnly { s' with session := none } tag reply) ∧
      (State.answeredOnly { s' with session := none } tag reply).kept =
        { s'.kept with
          session := none
          link := { s.link.kept with phase := .replying false, replies := [(tag, reply)] } } := by
  refine ⟨by rw [exec_ready hc hs, handle_done h1 h2 h hr hk], ?_⟩
  have e : s'.link.replies = [] := (congrArg LinkKept.replies hl).trans hs.2.2.2
  refine (kept_answeredOnly { s' with session := none } e tag reply).trans ?_
  show ({ ({ s' with session := none } : State).kept with
    link := { s'.link.kept with phase := .replying false, replies := [(tag, reply)] } } : Kept) = _
  rw [hl]
  rfl

end Sys2Proof.Machine
end

