-- ==== Sys2Proof/Laws/PerInstr.lean ====
section
/-!
SUPPORT. Statements about every command, one lemma a command. `RequestFits`: a well-formed request row stands for a frame that
the supervisory line can carry: its TAG in a byte, every field in the bytes Table 11-4 gives it, and a body of at most 250
bytes (Table 11-1).
-/

namespace Sys2Proof.Laws.RequestFits

open Sys2Proof.Machine

/-- A well-formed request row stands for a frame the line can carry. -/
def Statement (c : Instr) : Prop :=
  c.wellFormed = true → ∀ tag r, c.asRequest = some (tag, r) →
    tag < 256 ∧ fieldsFit r.fields = true ∧ (encodeRequest r).length ≤ 250

/-- A row that is no request states nothing of a frame. -/
theorem of_event {c : Instr} (h : c.asRequest = none) : Statement c := by
  intro _ tag r hr
  rw [h] at hr
  cases hr

/-- A row that asks `requestFits` of its frame. -/
theorem of_request {c : Instr} (tag : Nat) (r : Request) (h : c.asRequest = some (tag, r))
    (hw : c.wellFormed = true → requestFits tag r = true) : Statement c := by
  intro hc tag' r' h'
  rw [h] at h'
  cases h'
  have := hw hc
  simp only [requestFits, Bool.and_eq_true, decide_eq_true_eq] at this
  exact ⟨this.1.1, this.1.2, this.2⟩

theorem coldStart : Statement .coldStart := of_event rfl

theorem powerLoss : Statement .powerLoss := of_event rfl

theorem supervisoryFrameReceived (kind tag : Nat) (body : List Byte) :
    Statement (.supervisoryFrameReceived kind tag body) :=
  of_event rfl

theorem supervisoryBadFrame : Statement .supervisoryBadFrame := of_event rfl

theorem supervisoryGapTimeout : Statement .supervisoryGapTimeout := of_event rfl

theorem frameSent : Statement .frameSent := of_event rfl

theorem unknownRequest (tag kind : Nat) : Statement (.unknownRequest tag kind) := by
  intro hw t r h
  simp only [Instr.asRequest, Option.some.injEq, Prod.mk.injEq] at h
  obtain ⟨rfl, rfl⟩ := h
  simp only [Instr.wellFormed, Bool.and_eq_true, decide_eq_true_eq] at hw
  exact ⟨hw.1.1, rfl, by simp [encodeRequest, encodeBody, Request.fields]⟩

theorem clock (tag tod : Nat) : Statement (.clock tag tod) := of_request _ _ rfl id

theorem stnDef (tag : Nat) (f : StnDefFields) : Statement (.stnDef tag f) := of_request _ _ rfl id

theorem stnDrop (tag station : Nat) : Statement (.stnDrop tag station) := of_request _ _ rfl id

theorem brDef (tag : Nat) (f : BrDefFields) : Statement (.brDef tag f) := of_request _ _ rfl id

theorem isolate (tag base limit : Nat) : Statement (.isolate tag base limit) := of_request _ _ rfl id

theorem chDef (tag : Nat) (f : ChDefFields) : Statement (.chDef tag f) := of_request _ _ rfl id

theorem chCmdStart (tag unit : Nat) : Statement (.chCmdStart tag unit) := of_request _ _ rfl id

theorem chCmdStop (tag unit : Nat) : Statement (.chCmdStop tag unit) := of_request _ _ rfl id

theorem plantDef (tag : Nat) (p : PlantSettings) : Statement (.plantDef tag p) := of_request _ _ rfl id

theorem schedWin (tag first last : Nat) : Statement (.schedWin tag first last) := of_request _ _ rfl id

theorem schedDataStart (tag : Nat) (records : List SlotFields) : Statement (.schedDataStart tag records) :=
  of_request _ _ rfl id

theorem schedDataContinue (tag : Nat) (records : List SlotFields) : Statement (.schedDataContinue tag records) :=
  of_request _ _ rfl id

theorem refDef (tag : Nat) (f : RefDefFields) : Statement (.refDef tag f) := of_request _ _ rfl id

theorem pumpDef (tag : Nat) (p : PumpSettings) : Statement (.pumpDef tag p) := of_request _ _ rfl id

theorem brRest (tag branch : Nat) : Statement (.brRest tag branch) := of_request _ _ rfl id

theorem brWake (tag branch : Nat) : Statement (.brWake tag branch) := of_request _ _ rfl id

theorem meter (tag station : Nat) : Statement (.meter tag station) := of_request _ _ rfl id

theorem getStn (tag station : Nat) : Statement (.getStn tag station) := of_request _ _ rfl id

theorem getBr (tag branch part : Nat) : Statement (.getBr tag branch part) := of_request _ _ rfl id

theorem getPlant (tag part : Nat) : Statement (.getPlant tag part) := of_request _ _ rfl id

theorem getRef (tag : Nat) : Statement (.getRef tag) := of_request _ _ rfl id

theorem getFaults (tag part : Nat) : Statement (.getFaults tag part) := of_request _ _ rfl id

theorem faultAck (tag kind subject : Nat) : Statement (.faultAck tag kind subject) :=
  of_request _ _ rfl fun h => (Bool.and_eq_true _ _ |>.mp h).1

theorem faultAckAll (tag : Nat) : Statement (.faultAckAll tag) := of_request _ _ rfl id

theorem faultMask (tag mask : Nat) : Statement (.faultMask tag mask) := of_request _ _ rfl id

theorem save (tag : Nat) : Statement (.save tag) := of_request _ _ rfl id

theorem saveReadBack (agrees : Bool) : Statement (.saveReadBack agrees) := of_event rfl

theorem restart (tag : Nat) : Statement (.restart tag) := of_request _ _ rfl id

theorem warmRestart : Statement .warmRestart := of_event rfl

theorem clockTick : Statement .clockTick := of_event rfl

theorem holdExpiry (station : Fin 48) : Statement (.holdExpiry station) := of_event rfl

theorem deviceSilent (address : Fin 11) : Statement (.deviceSilent address) := of_event rfl

theorem minRunExpiry (unit : Fin 8) : Statement (.minRunExpiry unit) := of_event rfl

theorem minOffExpiry (unit : Fin 8) : Statement (.minOffExpiry unit) := of_event rfl

theorem confirmExpiry (unit : Fin 8) : Statement (.confirmExpiry unit) := of_event rfl

theorem chillerReport (unit : Fin 8) (condition : RunCondition) (available : Nat) :
    Statement (.chillerReport unit condition available) :=
  of_event rfl

theorem tankReport (soc : Nat) (mode : TankMode) (rate : Nat) : Statement (.tankReport soc mode rate) :=
  of_event rfl

theorem pumpReport (running : Bool) (speed : Nat) : Statement (.pumpReport running speed) := of_event rfl

theorem plantDpReport (dp : Nat) : Statement (.plantDpReport dp) := of_event rfl

theorem plantFrameDiscarded : Statement .plantFrameDiscarded := of_event rfl

theorem indexDpStale (station : Fin 48) : Statement (.indexDpStale station) := of_event rfl

theorem plantDpStale : Statement .plantDpStale := of_event rfl

theorem revertExpiry : Statement .revertExpiry := of_event rfl

theorem trimExpiry : Statement .trimExpiry := of_event rfl

theorem replyTimeout (branch : Fin 6) : Statement (.replyTimeout branch) := of_event rfl

theorem fieldGapTimeout (branch : Fin 6) : Statement (.fieldGapTimeout branch) := of_event rfl

theorem fieldBadFrame (branch : Fin 6) : Statement (.fieldBadFrame branch) := of_event rfl

theorem fieldInvalidReply (branch : Fin 6) (frame : FieldFrame) : Statement (.fieldInvalidReply branch frame) :=
  of_event rfl

theorem fieldUnawaitedFrame (branch : Fin 6) (frame : FieldFrame) : Statement (.fieldUnawaitedFrame branch frame) :=
  of_event rfl

theorem report (branch : Fin 6) (address : Nat) (f : ReportFields) : Statement (.report branch address f) :=
  of_event rfl

theorem advertise (branch : Fin 6) (address caps standaloneKw presentCap revision : Nat) :
    Statement (.advertise branch address caps standaloneKw presentCap revision) :=
  of_event rfl

theorem capAck (branch : Fin 6) (address seq : Nat) : Statement (.capAck branch address seq) := of_event rfl

theorem restAnswer (branch : Fin 6) (address answer : Nat) : Statement (.restAnswer branch address answer) :=
  of_event rfl

theorem wakeAck (branch : Fin 6) (address : Nat) : Statement (.wakeAck branch address) := of_event rfl

theorem meterData (branch : Fin 6) (address energy volume : Nat) :
    Statement (.meterData branch address energy volume) :=
  of_event rfl

theorem emptyRotationEnd (branch : Fin 6) : Statement (.emptyRotationEnd branch) := of_event rfl

theorem restPollDue (station : Fin 48) : Statement (.restPollDue station) := of_event rfl

theorem wakeTimerExpiry (branch : Fin 6) : Statement (.wakeTimerExpiry branch) := of_event rfl

end Sys2Proof.Laws.RequestFits
end

