-- ==== Sys2Proof/Tests/Slice0.lean ====
section
/-!
SUPPORT. The model's own tests: the refusals of `WellFormed`, the manual's worked figures, and for each statement of the
obligations a concrete state and operands that meet its hypotheses, clause by clause at the boundaries of its ranges.
-/

namespace Sys2Proof.Tests

open Sys2Proof Sys2Proof.Machine

-- One theorem at a time: many kernel evaluations at once each hold a thread.
set_option Elab.async false

/-! ### WellFormed refuses an ill-formed term of each check -/

theorem test_wf_kind_byte : (Instr.supervisoryFrameReceived 256 0 []).wellFormed = false := by decide
theorem test_wf_tag_byte : (Instr.supervisoryFrameReceived 1 256 []).wellFormed = false := by decide
theorem test_wf_body_length : (Instr.supervisoryFrameReceived 1 0 (List.replicate 251 0)).wellFormed = false := by decide +kernel
theorem test_wf_unknown_names_request : (Instr.unknownRequest 0 0x18).wellFormed = false := by decide
theorem test_wf_unknown_tag : (Instr.unknownRequest 256 0).wellFormed = false := by decide
theorem test_wf_unknown_kind_byte : (Instr.unknownRequest 0 256).wellFormed = false := by decide
theorem test_wf_request_tag : (Instr.getRef 256).wellFormed = false := by decide
theorem test_wf_request_field : (Instr.clock 0 (256 ^ 3)).wellFormed = false := by decide
theorem test_wf_request_length :
    (Instr.schedDataStart 0 (List.replicate 83 ⟨0, 0⟩)).wellFormed = false := by decide +kernel
theorem test_wf_ack_of_all : (Instr.faultAck 0 0xFF 0).wellFormed = false := by decide
theorem test_wf_chiller_figure : (Instr.chillerReport 0 .run 65536).wellFormed = false := by decide
theorem test_wf_tank_figure : (Instr.tankReport (256 ^ 4) .hold 0).wellFormed = false := by decide
theorem test_wf_pump_figure : (Instr.pumpReport true 65536).wellFormed = false := by decide
theorem test_wf_dp_figure : (Instr.plantDpReport 65536).wellFormed = false := by decide
theorem test_wf_frame_address : (Instr.fieldInvalidReply 0 ⟨256, 0, 0, []⟩).wellFormed = false := by decide
theorem test_wf_frame_kind : (Instr.fieldUnawaitedFrame 0 ⟨0, 256, 0, []⟩).wellFormed = false := by decide
theorem test_wf_frame_sequence : (Instr.fieldUnawaitedFrame 0 ⟨0, 0, 256, []⟩).wellFormed = false := by decide
theorem test_wf_frame_body : (Instr.fieldInvalidReply 0 ⟨0, 0, 0, List.replicate 33 0⟩).wellFormed = false := by decide
theorem test_wf_reply_address : (Instr.wakeAck 0 256).wellFormed = false := by decide
theorem test_wf_reply_field : (Instr.report 0 0 ⟨65536, 0, 0, 0, false⟩).wellFormed = false := by decide
theorem test_wf_event : Instr.coldStart.wellFormed = true := by decide

/-! ### Words, frames and codes -/

/-- The table gives no row bits. -/
theorem test_table_word : decodeTableWord 32 5 = none := by decide

/-- A CLOCK frame written out byte by byte from Table 11-1 and Table 11-4: 0xA5, LEN 3, KIND 0x01, TAG 7, 3600 s, CRC. -/
theorem test_clock_body : parseRequest 0x01 [0x00, 0x0E, 0x10] = .clock 3600 := by decide

/-- A REPORT written out from Table 7-3: request 1500 kW, supply 56, return 118, no index DP, STANDALONE. -/
theorem test_report_body :
    parseReply ⟨17, 0x91, 0, [0x05, 0xDC, 0x00, 0x38, 0x00, 0x76, 0xFF, 0xFF, 0x01]⟩ =
      some (.report ⟨1500, 56, 118, 0xFFFF, true⟩) := by decide

/-- A CAP as Table 7-3 lays it out. -/
theorem test_cap_frame :
    Txn.frame ⟨17, .cap 3 578 1500, false⟩ = ⟨17, 0x13, 3, [0x02, 0x42, 0x05, 0xDC]⟩ := by decide

/-- The CRC of R122, by the check value commonly given for this generator and start value (PRESUMED: from outside the
manual, which gives no worked CRC). -/
theorem test_crc :
    crc16 [0x31, 0x32, 0x33, 0x34, 0x35, 0x36, 0x37, 0x38, 0x39] = 0x29B1 := by decide +kernel

/-- A headroom of -1 kW in four bytes, two's complement (Table 11-4). -/
theorem test_signed_field : (signedField 4 (-1)).value = 0xFFFFFFFF := by decide

/-! ### The manual's worked figures -/

/-- Table 4-3. -/
theorem test_flow_caps :
    flowCap 1500 62 = 578 ∧ flowCap 1500 80 = 448 ∧ flowCap 1500 67 = 535 ∧ flowCap 1500 30 = 1194 ∧
      flowCap 1000 80 = 299 ∧ flowCap 20000 10 = 47778 ∧ flowCap 20000 150 = 3185 := by decide

/-- Table 4-4. -/
theorem test_kw_equivalents :
    kwEquivalent 448 80 = 1501 ∧ kwEquivalent 299 80 = 1002 ∧ kwEquivalent 300 80 = 1005 ∧
      kwEquivalent 47778 10 = 20000 ∧ kwEquivalent 65534 150 = 20000 := by decide

/-- The branch room of 4.9. -/
theorem test_room : kwRoom (3000 - 2500) 62 = 1297 := by decide

/-- Table 9-5: gain, error, speed before and speed after, in the order of its rows. -/
theorem test_trims :
    PumpSettings.trimmed ⟨20, 5, 250, 30, 300, 950⟩ 180 700 = 730 ∧
      PumpSettings.trimmed ⟨20, 5, 250, 30, 300, 950⟩ (-12) 730 = 730 ∧
      PumpSettings.trimmed ⟨20, 5, 20, 30, 300, 950⟩ (-40) 730 = 729 ∧
      PumpSettings.trimmed ⟨20, 5, 250, 30, 300, 950⟩ (-80) 729 = 709 ∧
      PumpSettings.trimmed ⟨20, 5, 100, 30, 300, 950⟩ 300 940 = 950 ∧
      PumpSettings.trimmed ⟨20, 5, 100, 30, 300, 950⟩ 300 950 = 950 := by decide

/-- The FIRM snapshot order of R80 with the pointer at 10, at its ends. -/
theorem test_ascend : (ascendFrom 10).head? = some 10 ∧ (ascendFrom 10).getLast? = some 9 := by decide

/-- The walk of R101 from 0: station 47 follows station 0. -/
theorem test_descend : (descendFrom 0).take 2 = [0, 47] := by decide

/-- Slot 95 ends at 86399 s (R44). -/
theorem test_slots : slotOf 899 = 0 ∧ slotOf 900 = 1 ∧ slotOf 86399 = 95 := by decide

/-- A cold start of a card without a good image is the state after reset (R185). -/
theorem test_reset_is_cold_start :
    State.coldStart { State.reset with powered := false, stored := none } = State.reset := by decide +kernel

/-! ### Small states -/

/-- After reset, with the start-up notices sent. -/
def quiet : State := { State.reset with link := { State.reset.link with sending := none, waiting := [] } }

/-- A station's host-agreed fields at the ends of their ranges. -/
def fields : HostFields := ⟨.firm, 20000, 20000, 20000, 150, .tracking, ⟨true, true, true, true⟩⟩

/-- A SEEKING station. -/
def seeking : Station := Station.define fields false

/-- An ACTIVE station with every capability. -/
def active : Station := { seeking with state := .active, advert := some ⟨⟨true, true, true, true⟩, 300, 10, 1⟩ }

/-- A branch with a window over stations 0 to 11. -/
def branch : Branch := Branch.fresh ⟨some ⟨0, 11⟩, 1000, 0, 0, 60, 30⟩

/-- Station 0 ACTIVE, station 1 SEEKING with its hold timer running, station 2 ATTACHING, station 3 ISOLATED, in branch 0. -/
def town : State :=
  ((((quiet.setBr 0 branch).setStn 0 active).setStn 1 { seeking with hold := some 5 }).setStn 2
    { active with state := .attaching }).setStn 3 { seeking with state := .isolated, confirmedKw := 0 }

/-- The town with a transaction on branch 0. -/
def town.onLine (n : Fin 48) (k : TxnKind) (abandoned : Bool) : State :=
  town.setBr 0 { branch with txn := some ⟨n, k, abandoned⟩ }

/-- The town with branch 0 in a rest state. -/
def town.resting (c : RestState) : State :=
  town.setBr 0 { branch with rest := c, wakeTimer := if c = .waking then some 60 else none }

/-- A chiller of 1000 kW in a state with its timers running or stopped. -/
def unit (c : ChillerState) (run off confirm : Option Nat) : State :=
  quiet.setChiller 0 ⟨⟨1000, 600, 900, 300, 600⟩, c, none, run, off, confirm⟩

/-- A link that waits for its reply to leave, with frames in the buffer. -/
def busyLink (rx : List HostFrame) (restart : Bool) : State :=
  { quiet with link := { quiet.link with
    rx := rx
    phase := .replying restart
    sending := some (.reply 1 (.done [])) } }

/-- An image with one station, in range. -/
def image : Image := { Image.defaults with stations := Image.defaults.stations.set 0 (some fields) }

/-! ### The manual's worked sequences, one event each -/

/-- What a command answers, as a state: the command is given to a state on which it answers next. -/
def after (c : Instr) (s : State) : State :=
  match exec c s with
  | .next t => t
  | _ => s

/-- An ACTIVE station at 80 dK with its grant delivered in full. -/
def served (cls : ContractClass) (floor request grant : Nat) : Station :=
  { active with
    host := ⟨cls, request, floor, 0, 80, .enforced, ⟨true, true, true, true⟩⟩
    requestKw := request
    grantKw := grant
    grantDt := 80
    confirmedKw := grant
    confirmedFlow := flowCap grant 80
    confirmedDt := 80 }

/-- The four stations of 5.6 on branches of their own, chiller 0 able to give all that A asks for. -/
def fourStations (g4 g9 g17 g30 : Nat) : State :=
  let s := { quiet with
    plant := { quiet.plant with quantum := 500 }
    chillers := quiet.chillers.set 0 ⟨⟨6000, 600, 900, 300, 600⟩, .unknown, none, none, none, none⟩ }
  let b (base : Fin 48) : Branch := Branch.fresh ⟨some ⟨base, base⟩, 60000, 0, 0, 60, 30⟩
  let s := (((s.setBr 0 (b 4)).setBr 1 (b 9)).setBr 2 (b 17)).setBr 3 (b 30)
  (((s.setStn 4 (served .firm 1500 2000 g4)).setStn 9 (served .firm 1000 1200 g9)).setStn 17
    (served .flex 0 1500 g17)).setStn 30 (served .flex 0 800 g30)

/-- The grant pass of Table 5-4, brought by a report that raises A to 6000 kW. -/
theorem test_grant_pass :
    let t := after (.chillerReport 0 .run 6000) (fourStations 0 0 0 0)
    ([4, 9, 17, 30].map fun n => (t.stn n).grantKw) = [2000, 1200, 1500, 800] ∧ t.capacity = 6000 ∧
      t.allocator.firmPtr = 5 ∧ t.allocator.flexPtr = 18 ∧ t.allocator.flexSnapshot = [] := by decide +kernel

/-- The capacity shed of Table 6-2, E being 2000 kW. -/
theorem test_capacity_shed :
    let t := after (.chillerReport 0 .run 3500) (fourStations 2000 1200 1500 800)
    ([4, 9, 17, 30].map fun n => (t.stn n).grantKw) = [2000, 1200, 300, 0] ∧ t.allocator.flexShedPtr = 17 ∧
      t.allocator.firmShedPtr = 47 ∧ t.faults.entries = quiet.faults.entries := by decide +kernel

/-- The capacity shed of Table 6-4 through all three stages, E being 2400 kW. -/
theorem test_floors_reached :
    let s := fourStations 2000 1200 300 400
    let t := after (.chillerReport 0 .run 1500) { s with allocator := { s.allocator with flexShedPtr := 17 } }
    ([4, 9, 17, 30].map fun n => (t.stn n).grantKw) = [1000, 500, 0, 0] ∧ t.allocator.flexShedPtr = 30 ∧
      t.allocator.firmShedPtr = 9 ∧
      (t.faults.entries.map fun e => (e.kind, e.subject)) = [(.configLost, 0), (.firmCut, 4), (.firmCut, 9)] := by
  decide +kernel

/-- The branch of Table 6-5 with 3694 dL/s over its limit of 3200 dL/s, shed as Table 6-6. The report of station 17 that brings
it measures 22 dK, which dt_floor holds to 30 dK (event 8 of Table 4-5). -/
theorem test_branch_shed :
    let s := { quiet with plant := { quiet.plant with quantum := 500 }, capacity := 9872 }
    let b := { Branch.fresh ⟨some ⟨12, 23⟩, 3200, 0, 0, 60, 30⟩ with txn := some ⟨17, .poll, false⟩ }
    let tracking := { served .flex 0 1500 1500 with
      host := ⟨.flex, 1500, 0, 0, 80, .tracking, ⟨true, true, true, true⟩⟩
      grantDt := 67 }
    let s := ((((s.setBr 2 b).setStn 14 (served .flex 0 1000 1000)).setStn 15 (served .firm 2000 4000 4000)).setStn 17
      tracking).setStn 19 (served .firm 1500 3372 3372)
    let t := after (.report 2 17 ⟨1500, 60, 82, 0xFFFF, false⟩) s
    (t.stn 17).grantDt = 30 ∧ (t.stn 17).grantKw = 1000 ∧ (t.stn 14).grantKw = 500 ∧ t.capSum 2 = 3146 ∧
      t.allocator.flexShedPtr = 14 := by decide +kernel

/-- Events 2 and 9 of Table 1-12. -/
theorem test_station_sequence :
    let s := { seeking with host := ⟨.flex, 2500, 0, 1000, 80, .tracking, ⟨false, true, true, true⟩⟩ }
    let asked := (quiet.setBr 2 { Branch.fresh ⟨some ⟨12, 23⟩, 6000, 0, 0, 60, 30⟩ with txn := some ⟨17, .probe, false⟩ }).setStn
      17 s
    let t := after (.advertise 2 17 7 1200 448 3) asked
    let lost := quiet.setStn 17 { s with state := .lost, advert := some ⟨⟨true, true, true, false⟩, 1200, 448, 3⟩, hold := some 0 }
    let u := after (.holdExpiry 17) lost
    (t.stn 17).state = .attaching ∧ (t.stn 17).confirmedKw = 1501 ∧ (t.stn 17).confirmedFlow = 448 ∧
      (t.stn 17).resolved = ⟨false, true, true, false⟩ ∧ (u.stn 17).confirmedKw = 1200 ∧ (u.stn 17).confirmedFlow = 358 ∧
      (u.stn 17).hold = none := by decide +kernel

/-- 740 s and 2060 s of Table 2-5. -/
theorem test_chiller_sequence :
    let t := after (.minRunExpiry 0) (unit .stopHeld (some 0) none none)
    let u := after (.confirmExpiry 0) (unit .starting none none (some 0))
    (t.chiller 0).state = .stopping ∧ (t.chiller 0).confirmTimer = some 600 ∧ t.busSent = [.chillerStop 0] ∧
      (u.chiller 0).state = .off ∧ (u.chiller 0).minOffTimer = some 900 ∧
      (u.faults.entries.map fun e => (e.kind, e.subject)) = [(.configLost, 0), (.startFailed, 0)] := by decide +kernel

/-- 14:22:10 of Table 3-2: the reserve is reached in a DISCHARGE slot. -/
theorem test_reserve_reached :
    let s := { quiet with
      plant := { quiet.plant with tankCapacity := 40000, maxDischarge := 8000, reserveLow := 4000, reserveHigh := 12000 }
      clock := some 51730
      schedule := quiet.schedule.set 57 ⟨.discharge, 8000⟩
      tank := ⟨some 30000, some .discharge, some 8000, true⟩
      storageDischarge := 8000
      lastTankCommand := some ⟨.discharge, 8000⟩ }
    let t := after (.tankReport 4000 .discharge 8000) s
    t.tank.enabled = false ∧ t.storageDischarge = 0 ∧ t.busSent = [.tankSet .discharge 0] ∧
      (t.faults.entries.map fun e => (e.kind, e.subject)) = [(.configLost, 0), (.storageReserve, 8)] := by decide +kernel

/-- A PLANT-DEF that moves max discharge and lowers the charge step sends the command due by the new step (R46, R49). -/
theorem test_new_charge_step :
    let s := { quiet with
      plant := { quiet.plant with tankCapacity := 40000, maxDischarge := 8000, reserveLow := 4000, reserveHigh := 12000 }
      clock := some 51730
      schedule := quiet.schedule.set 57 ⟨.discharge, 500⟩
      tank := ⟨some 30000, some .discharge, some 400, true⟩
      storageDischarge := 500
      lastTankCommand := some ⟨.discharge, 450⟩ }
    (after (.plantDef 1 { s.plant with maxDischarge := 9000 }) s).busSent = [] ∧
      (after (.plantDef 1 { s.plant with maxDischarge := 9000, chargeStep := 50 }) s).busSent = [.tankSet .discharge 500] := by
  decide +kernel

/-- The third request of Table 3-4: 1 written, 2 spilled, 1 coerced. -/
theorem test_load_session :
    let s := { quiet with session := some ⟨56, 59, 59⟩ }
    let t := after (.schedDataContinue 9 [⟨7, 4000⟩, ⟨1, 2000⟩, ⟨0, 0⟩]) s
    t.slot 59 = ⟨.hold, 0⟩ ∧ t.session = some ⟨56, 59, 60⟩ ∧
      t.link.sending = some (.reply 9 (.done [⟨2, 1⟩, ⟨2, 2⟩, ⟨2, 1⟩])) := by decide +kernel

/-- Steps 9 and 10 of Table 7-4: the ramp confirms 2837 kW and leaves a remainder under the next sequence. -/
theorem test_ramp :
    let b := { Branch.fresh ⟨some ⟨12, 23⟩, 6000, 100, 0, 60, 30⟩ with
      queue := [⟨15, 9, 3000, 896, 80, some ⟨1, 847, 2837⟩⟩, ⟨14, 3, 500, 149, 80, none⟩]
      txn := some ⟨15, .cap 9 847 2837, false⟩
      capsInRow := 1 }
    let s := ((quiet.setBr 2 b).setStn 15 { served .firm 2000 3000 2500 with grantKw := 3000, nextSeq := 10 }).setStn 14
      { served .flex 0 500 0 with grantKw := 500, nextSeq := 4 }
    let t := after (.capAck 2 15 9) { s with capacity := 6000 }
    (t.stn 15).confirmedKw = 2837 ∧ (t.stn 15).confirmedFlow = 847 ∧
      ((t.br 2).queue.map fun e => (e.station, e.seq, e.targetFlow)) = [(14, 3, 149), (15, 10, 896)] ∧
      (t.br 2).txn = some ⟨14, .cap 3 100 335, false⟩ := by decide +kernel

/-- Step 5 of Table 8-2: the last accept puts the branch to rest. -/
theorem test_branch_rests :
    let b := { Branch.fresh ⟨some ⟨24, 29⟩, 6000, 0, 20, 60, 30⟩ with
      rest := .offering
      txn := some ⟨27, .restOffer, false⟩ }
    let s := ((quiet.setBr 3 b).setStn 24 { served .flex 0 500 0 with standing := .accepted }).setStn 27
      { served .flex 0 500 0 with standing := .offerOwed }
    ((after (.restAnswer 3 27 1) s).br 3).rest = .resting ∧ ((after (.restAnswer 3 27 0) s).br 3).rest = .waking := by
  decide +kernel

/-- A frame from ISOLATED station 3 while station 0 is asked is discarded without effect or count (R121). -/
theorem test_isolated_frame : after (.wakeAck 0 3) (town.onLine 0 .poll false) = town.onLine 0 .poll false := by
  decide +kernel

/-- Over a warm restart the fields of an ISOLATED station stay (R23), but for the counts that their owners set (R82, R131). -/
theorem test_isolated_restart :
    let r := { seeking with state := .isolated, nextSeq := 7, boundCount := 9, confirmedDt := 62 }
    r.warmRestart 600 = { r with nextSeq := 0, boundCount := 0 } := by decide +kernel

/-- 130 s of Table 9-4: with both candidates gone the fallback gives PLANT, and INDEX_LOST names the secondary. -/
theorem test_index_lost :
    let s := (quiet.setRef ⟨some 21, some 33, true, .plant, 60, 15, 800, 1500⟩).setSource .secondary
    let s := { s.setStn 33 { active with indexDp := some ⟨640, 15⟩ } with plantDp := some ⟨1500, 3⟩ }
    let t := after (.indexDpStale 33) s
    t.pressure.source = .plant ∧
      (t.faults.entries.map fun e => (e.kind, e.subject, e.active)) = [(.configLost, 0, false), (.indexLost, 33, true)] := by
  decide +kernel

/-- 15:03:00 of Table 10-2: FIRM_CUT goes, the silent chiller's entry stays acknowledged, the relay opens. -/
theorem test_fault_ack :
    let s := { quiet with faults := ⟨[⟨.deviceSilent, 3, some 54130, 1, true, false⟩, ⟨.firmCut, 9, some 54130, 1, false, false⟩],
      0, false, 0, true⟩ }
    (after (.faultAckAll 1) s).faults = ⟨[⟨.deviceSilent, 3, some 54130, 1, true, true⟩], 0, false, 0, false⟩ := by
  decide +kernel

/-- Table 11-5: the third frame received during a SAVE is lost, and its FAULT notice leaves before the DONE. -/
theorem test_overrun :
    let s := { quiet with link := { quiet.link with
      phase := .saving 20 image
      rx := [⟨21, .getRef⟩, ⟨22, .clock 5⟩] } }
    let t := after (.supervisoryFrameReceived 0x14 23 [4]) s
    t.link.rx = s.link.rx ∧ t.link.overruns = 1 ∧
      t.link.sending = some (.notice (.fault .linkOverrun 0 none false)) := by decide +kernel

/-! ### Witnesses: the whole machine -/

theorem witness_StepTakesTheFront :
    { quiet with pending := [.clockTick] }.pending = .clockTick :: [] ∧ quiet.pending = [] := by decide

theorem witness_ExecKeepsTheQueue : ∃ t, exec .clockTick quiet = .next t := ⟨_, rfl⟩

theorem witness_PowerIsLost :
    quiet.powered = true ∧ { quiet with powered := false }.powered = false ∧ Instr.clockTick ≠ .coldStart := by decide

theorem witness_FaultListStaysLawful : quiet.faults.lawful ∧ ∃ t, step { quiet with pending := [.clockTick] } = .next t :=
  ⟨by unfold FaultList.lawful; decide, _, rfl⟩

theorem witness_RelayFollowsTheFaultList : quiet.relayLawful ∧ ∃ t, step quiet = .next t :=
  ⟨by unfold State.relayLawful; decide, _, rfl⟩

theorem witness_LinkStaysLawful : State.reset.link.lawful ∧ ∃ t, step { State.reset with pending := [.frameSent] } = .next t :=
  ⟨⟨by decide, by decide, by decide, rfl, rfl⟩, _, rfl⟩

/-- The window of branch 0 is the only one. -/
theorem town_windows : town.windowsLawful := by
  refine ⟨fun b w h => ?_, fun b c h => ?_⟩
  · fin_cases b <;> first | (cases h; decide) | (cases h)
  · fin_cases b <;> fin_cases c <;> first | rfl | exact absurd rfl h

theorem witness_WindowsAndSpeedStayLawful :
    town.windowsLawful ∧ town.speedLawful ∧ ∃ t, step { town with pending := [.clockTick] } = .next t :=
  ⟨town_windows, ⟨by decide, fun v h => by cases h⟩, _, rfl⟩

/-- Station 0 asks for its whole contract and has it granted, its branch LIVE. -/
theorem witness_GrantsNeverExceedCapacity :
    let s := { town.setStn 0 { active with requestKw := 20000, grantKw := 20000 } with
      capacity := 20000
      pending := [.clockTick] }
    s.grantsLawful ∧ s.windowsLawful ∧ s.demandLawful ∧ (s.stn 0).grantKw ≠ 0 ∧ ∃ t, step s = .next t :=
  ⟨by unfold State.grantsLawful; decide +kernel, town_windows, by unfold State.demandLawful; decide +kernel,
    by decide, _, rfl⟩

/-- A FLEX station kept in the snapshot. -/
theorem witness_GrantsNeverExceedCapacity_snapshot :
    let s := { fourStations 0 0 0 0 with pending := [.clockTick] }
    let s := { s with allocator := { s.allocator with flexSnapshot := [30, 17] } }
    s.snapshotLawful ∧ ∃ t, step s = .next t :=
  ⟨by unfold State.snapshotLawful; decide +kernel, _, rfl⟩

theorem witness_CapsNeverExceedTheFlowLimit :
    town.windowsLawful ∧ town.grantsLawful ∧ town.capsLawful ∧ ∃ t, step town = .next t :=
  ⟨town_windows, by unfold State.grantsLawful; decide +kernel, by unfold State.capsLawful; decide +kernel, _, rfl⟩

theorem witness_CapQueuesStayLawful :
    town.windowsLawful ∧ town.grantsLawful ∧ town.queuesLawful ∧ ∃ t, step town = .next t :=
  ⟨town_windows, by unfold State.grantsLawful; decide +kernel, by unfold State.queuesLawful; decide +kernel, _, rfl⟩

theorem witness_LinkCountsOnlyRise :
    Instr.clockTick ≠ .coldStart ∧ quiet.link.countsLawful ∧ (∃ t, exec .clockTick quiet = .next t) ∧
      ∃ t, exec .coldStart quiet = .next t :=
  ⟨by decide, by unfold Link.countsLawful; decide, ⟨_, rfl⟩, _, rfl⟩

/-! ### Witnesses: frames and arithmetic -/

theorem witness_RequestsRoundTrip :
    requestFits 255 (.schedData 1 (List.replicate 24 ⟨255, 65535⟩)) = true ∧ requestFits 0 (.clock (256 ^ 3 - 1)) = true ∧
      (∀ k, Request.clock 0 ≠ .unknown k) ∧ (∀ k, Request.clock 0 ≠ .badFormat k) ∧
      ∀ flag rs, Request.clock 0 = .schedData flag rs → 1 ≤ rs.length ∧ rs.length ≤ 24 :=
  ⟨by decide +kernel, by decide, (fun _ h => nomatch h), (fun _ h => nomatch h), (fun _ _ h => nomatch h)⟩

theorem witness_FramesRoundTrip :
    255 < 256 ∧ (List.replicate 250 (0 : Byte)).length ≤ 250 ∧ frameFits ⟨255, 255, 255, List.replicate 32 0⟩ = true ∧
      (FieldReply.meterData (256 ^ 4 - 1) 0).fits = true := by decide +kernel

theorem witness_RequestRowsAreFrames :
    (Instr.clock 1 5).asRequest = some (1, .clock 5) ∧ (Instr.clock 1 5).wellFormed = true ∧
      ∀ flag rs, Request.clock 5 = .schedData flag rs → 1 ≤ rs.length ∧ rs.length ≤ 24 :=
  ⟨rfl, by decide, (fun _ _ h => nomatch h)⟩

theorem witness_FlowCapLimits : (10 ≤ 10 ∧ 150 ≤ 150) ∧ (1 ≤ 3 ∧ 3 ≤ 3) ∧ 20000 ≤ 20000 := by decide

/-- The flows on either side of 20000 kW at 10 dK among them. -/
theorem witness_ConversionsRound :
    (10 ≤ 150 ∧ 150 ≤ 150) ∧ 47778 * 4186 * 10 ≤ 20000 * 100000 ∧ 20000 * 100000 < 47779 * 4186 * 10 ∧ 1 ≤ 1 ∧ 4 ≤ 5 := by
  decide

theorem witness_RoomNeverOverfillsABranch :
    town.inWindow 0 0 = true ∧ town.capSum 0 ≤ town.flowLimit 0 ∧ 10 ≤ (town.stn 0).grantDt ∧
      (town.stn 0).grantDt ≤ 150 := by decide +kernel

/-! ### Witnesses: power and the supervisory line -/

theorem witness_ColdStartTakesTheStoredImage :
    let s := { quiet with stored := some image }
    (if s.link.phase.saves then Config.freeImage s.freeCount else s.stored) = some image ∧ image.inRange = true ∧
      image.stations[0] = some fields ∧ image.stations[1] = none ∧ image.plant.lostHold ≠ 0 ∧
      { image with plant := { image.plant with lostHold := 0 } }.inRange = true ∧
      { image with isolation := some ⟨0, 0⟩ }.inRange = true ∧
      rangeHolds { image with isolation := some ⟨0, 0⟩ }.isolation 0 = true :=
  ⟨rfl, by decide +kernel⟩

theorem witness_ColdStartFromABadImage :
    ∀ i, (if quiet.link.phase.saves then Config.freeImage quiet.freeCount else quiet.stored) = some i → i.inRange = false := by
  intro i h
  cases h

theorem witness_ReceivedFramesWaitOrOverrun :
    (busyLink [⟨0, .getRef⟩] false).powered = true ∧ (busyLink [⟨0, .getRef⟩] false).link.rx.length < 2 ∧
      (busyLink [⟨0, .getRef⟩] false).link.phase ≠ .idle ∧
      2 ≤ (busyLink [⟨0, .getRef⟩, ⟨0, .getRef⟩] false).link.rx.length := by decide

theorem witness_records : quiet.faults.records .linkOverrun 0 := Or.inr (by decide)

theorem witness_DiscardedFramesAreOnlyCounted :
    town.powered = true ∧ (town.br 0).txn = none ∧
      ((town.onLine 0 .poll false).br 0).txn = some ⟨0, .poll, false⟩ ∧ parseReply ⟨0, 0x11, 0, []⟩ = none ∧
      parseReply ⟨1, 0x95, 0, []⟩ = some .wakeAck ∧ TxnKind.poll.pairs .wakeAck = false ∧
      (3 : Fin 48) ≠ 0 ∧ ((town.onLine 0 .poll false).stn 3).state = .isolated ∧
      ∀ m : Fin 48, 1 = m.val → m ≠ 0 → ((town.onLine 0 .poll false).stn m).state ≠ .isolated := by decide +kernel

theorem witness_SentFramesMakeRoom :
    State.reset.powered = true ∧ State.reset.link.sending = some (.notice (.hello false .defaults)) ∧
      (busyLink [] true).link.phase = .replying true ∧ (busyLink [] false).link.phase = .replying false ∧
      (busyLink [] false).link.rx = [] ∧ (busyLink [⟨0, .getRef⟩] false).link.rx = [⟨0, .getRef⟩] ∧
      (OutFrame.reply 1 (.done [])).isNotice = false ∧ (Instr.getRef 0).asRequest = some (0, .getRef) ∧
      Link.replies { (busyLink [⟨0, .getRef⟩] false).link with
        sending := (busyLink [⟨0, .getRef⟩] false).link.waiting.head? } = [] := by decide

/-- An idle link takes a request at once: right after reset, and once the start-up notices have gone. -/
theorem witness_ready : State.reset.ready ∧ quiet.ready ∧ town.ready := by
  refine ⟨?_, ?_, ?_⟩ <;> exact ⟨by decide, by decide, by decide, by decide⟩

theorem witness_SaveWritesTheSettings :
    quiet.ready ∧ { quiet with link := { quiet.link with phase := .saving 1 image } }.link.phase = .saving 1 image :=
  ⟨witness_ready.2.1, rfl⟩

theorem witness_RestartsKeepTheSettings :
    let s := { town with link := { town.link with phase := .restartDue } }
    quiet.ready ∧ s.powered = true ∧ s.link.phase = .restartDue ∧ (s.link.sending = none → s.link.waiting = []) ∧
      (s.stn 0).state = .active ∧ (s.stn 3).state = .isolated ∧ (s.stn 4).state = .vacant ∧ s.plant.lostHold ≠ 0 :=
  ⟨witness_ready.2.1, by decide, by decide, by decide, by decide, by decide, by decide, by decide⟩

/-! ### Witnesses: host requests, on the ready states `quiet` and `town` -/

theorem witness_RefusedRequestsChangeNothing :
    town.ready ∧ isRequestKind 0 = false ∧ isRequestKind 0x19 = false ∧ parseRequest 0x01 [0, 0] = .badFormat 0x01 :=
  ⟨witness_ready.2.2, by decide, by decide, by decide⟩

theorem witness_ClockSetsTheTime :
    let late := { quiet with clock := some 86398 }
    let early := { quiet with clock := some 899 }
    quiet.ready ∧ late.ready ∧ early.ready ∧ 86399 < 86400 ∧ late.clock.map (· / 900) = some (86399 / 900) ∧
      quiet.clock.map (fun c => c / 900 % 96) ≠ some (86399 / 900) ∧
      early.clock.map (fun c => c / 900 % 96) ≠ some (900 / 900) := by
  unfold State.ready
  decide +kernel

/-- Each RANGE case of R2 one past its range, and a request at the ends of every range. -/
theorem witness_StationsAreDefined :
    let ranged := { quiet with isolation := some ⟨47, 47⟩ }
    quiet.ready ∧ ranged.ready ∧ fields.inRange = true ∧ (quiet.stn 47).state = .vacant ∧
      (fields.asFrame 47).station ≤ 47 ∧ (fields.asFrame 47).offered ≤ 15 ∧
      (ranged.stn 47).state = .vacant ∧ rangeHolds ranged.isolation 47 = true ∧
      rangeHolds quiet.isolation 47 = false ∧
      hostFieldsOf { fields.asFrame 47 with contractKw := 20001 } = none ∧
      hostFieldsOf { fields.asFrame 47 with cls := 1 } = none ∧
      hostFieldsOf { fields.asFrame 47 with designDt := 151 } = none ∧
      hostFieldsOf { fields.asFrame 47 with designDt := 29 } = none ∧
      hostFieldsOf { fields.asFrame 47 with offered := 16 } = none := by
  unfold State.ready
  decide +kernel

theorem witness_StationsAreRedefined :
    town.ready ∧ fields.inRange = true ∧ (town.stn 0).state ≠ .vacant ∧
      (town.stn 0).host.designDt ≠ { fields with designDt := 30 }.designDt ∧ { fields with designDt := 30 }.inRange = true :=
  ⟨witness_ready.2.2, by decide, by decide, by decide, by decide⟩

/-- Station 0 redefined with another design_dt while station 5 stands 2 dK off its grant ΔT, inside the deadband (R69). -/
theorem witness_StationsAreRedefined_others :
    let other := { served .firm 0 1000 0 with
      host := ⟨.firm, 1000, 0, 0, 80, .tracking, ⟨true, true, true, true⟩⟩
      measuredDt := some 62
      grantDt := 60 }
    let s := town.setStn 5 other
    let t := after (.stnDef 1 ({ fields with designDt := 30 }.asFrame 0)) s
    s.ready ∧ (s.stn 0).state = .active ∧ (s.stn 0).host.designDt ≠ 30 ∧ (t.stn 0).grantDt = 30 ∧ (t.stn 5).grantDt = 62 := by
  unfold State.ready
  decide +kernel

theorem witness_StationsAreDropped :
    let s := town.setBr 0 { branch with read := some ⟨0, 9, 1, false⟩, txn := some ⟨0, .meterAsk, false⟩ }
    s.ready ∧ 47 < 48 ∧ (s.stn 47).state = .vacant ∧ (s.stn 0).state ≠ .vacant ∧
      (s.br 0).read = some ⟨0, 9, 1, false⟩ ∧ (s.br 0).txn = some ⟨0, .meterAsk, false⟩ ∧ s.capsLawful ∧
      s.sumGrants ≤ s.capacity := by
  unfold State.ready State.capsLawful
  decide +kernel

theorem witness_BranchesAreDefined :
    let twelve : BranchSettings := ⟨some ⟨0, 11⟩, 60000, 5000, 255, 600, 120⟩
    let thirteen : BrDefFields := ⟨0, 1, 0, 12, 0, 0, 0, 5, 5⟩
    let off : BranchSettings := ⟨none, 60000, 5000, 255, 600, 120⟩
    let disabling : BrDefFields := ⟨0, 0, 99, 5, 60000, 5000, 255, 600, 120⟩
    off.inRange = true ∧ disabling = { off.asFrame 0 with base := disabling.base, limit := disabling.limit } ∧
      twelve.asFrame 0 = { twelve.asFrame 0 with base := (twelve.asFrame 0).base, limit := (twelve.asFrame 0).limit } ∧
    quiet.ready ∧ town.ready ∧ (town.resting .waking).ready ∧ twelve.inRange = true ∧ 12 < thirteen.limit - thirteen.base + 1 ∧
      (0 : Fin 6) ≠ 1 ∧ windowsOverlap twelve.window (town.br 0).settings.window = true ∧
      ((town.resting .waking).br 0).settings.window ≠ none ∧ (town.resting .waking).branchBusy 0 none = true ∧
      (∀ d : Fin 6, d ≠ 0 → windowsOverlap none ((town.resting .waking).br d).settings.window = false) ∧
      (∀ d : Fin 6, d ≠ 0 → windowsOverlap twelve.window (quiet.br d).settings.window = false) ∧
      quiet.branchBusy 0 twelve.window = false := by
  unfold State.ready
  decide +kernel

/-- A limit raised, and one lowered below the caps of the window. -/
theorem witness_BranchesAreDefined_limit :
    let s := { town.setStn 0 (served .firm 500 1000 1000) with capacity := 1000 }
    let low : BranchSettings := ⟨some ⟨0, 11⟩, 149, 0, 0, 60, 30⟩
    let high : BranchSettings := ⟨some ⟨0, 11⟩, 1001, 0, 0, 60, 30⟩
    s.ready ∧ low.inRange = true ∧ high.inRange = true ∧ low.window = (s.br 0).settings.window ∧ low.window ≠ none ∧
      (∀ d : Fin 6, d ≠ 0 → windowsOverlap low.window (s.br d).settings.window = false) ∧
      low.flowLimit ≤ (s.br 0).settings.flowLimit ∧ low.flowLimit < s.capSum 0 ∧ s.capsLawful ∧
      s.sumGrants ≤ s.capacity ∧ 10 ≤ s.plant.quantum ∧ (s.br 0).settings.flowLimit < high.flowLimit ∧
      s.capSum 0 ≤ 299 ∧ ((after (.brDef 1 (low.asFrame 0)) s).stn 0).grantKw = 500 := by
  unfold State.ready State.capsLawful
  decide +kernel

theorem witness_StationsAreIsolated :
    town.ready ∧ (254 ≠ 0xFF ∧ 47 < 254) ∧ (5 ≠ 0xFF ∧ 4 < 5) ∧ (0 ≠ 0xFF ∧ 0 ≤ 47 ∧ 47 ≤ 47) ∧
      (town.stn 0).state = .active ∧ (town.stn 3).state = .isolated ∧ (town.stn 47).state = .vacant := by
  unfold State.ready
  decide +kernel

/-- A station whose meter read has its METER-ASK in flight enters the range 0 to 2. -/
theorem witness_StationsAreIsolated_read :
    let s := town.setBr 0 { branch with read := some ⟨0, 9, 1, false⟩, txn := some ⟨0, .meterAsk, false⟩ }
    s.ready ∧ (s.br 0).txn = some ⟨0, .meterAsk, false⟩ ∧ (s.br 0).read = some ⟨0, 9, 1, false⟩ ∧
      (s.stn 0).state ≠ .vacant ∧ rangeHolds (some ⟨0, 2⟩) 0 = true ∧ rangeHolds s.isolation 0 = false ∧
      s.capsLawful ∧ s.sumGrants ≤ s.capacity := by
  unfold State.ready State.capsLawful
  decide +kernel

theorem witness_ChillersAreDefined :
    quiet.ready ∧ (unit .run none none none).ready ∧ ChillerSettings.inRange ⟨20000, 3600, 3600, 900, 1800⟩ = true ∧
      ChillerSettings.inRange ⟨0, 60, 60, 60, 60⟩ = true ∧
      0 < ((unit .run none none none).chiller 0).settings.ratedKw ∧ ChillerSettings.inRange ⟨0, 59, 60, 60, 60⟩ = false := by
  unfold State.ready
  decide +kernel

/-- A unit in each state of R30 and R31, with the timer running and stopped where they ask. -/
theorem witness_ChillersStart :
    (unit .off none none none).ready ∧ ((unit .off none none none).chiller 0).minOffTimer = none ∧
      ((unit .off none (some 1) none).chiller 0).minOffTimer ≠ none ∧
      ((unit .stopHeld none none none).chiller 0).state = .stopHeld ∧
      ((unit .starting none none none).chiller 0).state = .starting ∧
      ((unit .tripped none none none).chiller 0).state = .tripped ∧ 2 ≤ (2 : Byte).toNat ∧ 7 < 8 :=
  ⟨⟨by decide, by decide, by decide, by decide⟩, by decide, by decide, by decide, by decide, by decide, by decide, by decide⟩

theorem witness_ChillersStop :
    (unit .run none none none).ready ∧ (unit .run (some 1) none none).ready ∧ (unit .startHeld none none none).ready ∧
      (unit .starting none none none).ready ∧ (unit .unknown none none none).ready ∧ 7 < 8 ∧
      ((unit .run none none none).chiller 0).minRunTimer = none ∧
      ((unit .run (some 1) none none).chiller 0).minRunTimer ≠ none ∧
      ((unit .startHeld none none none).chiller 0).state = .startHeld ∧
      ((unit .starting none none none).chiller 0).state = .starting ∧
      ((unit .unknown none none none).chiller 0).state = .unknown := by
  unfold State.ready
  decide +kernel

theorem witness_PlantIsDefined :
    quiet.ready ∧ PlantSettings.inRange ⟨20000, 2000, 100, 3600, 400000, 60000, 399999, 400000, 2000⟩ = true ∧
      PlantSettings.inRange ⟨0, 10, 10, 0, 0, 0, 5, 5, 10⟩ = true ∧
      PlantSettings.inRange ⟨0, 9, 10, 0, 0, 0, 5, 5, 10⟩ = false := by
  unfold State.ready
  decide +kernel

/-- Another quantum, a raised A, and another max discharge of a fitted tank. -/
theorem witness_PlantIsDefined_settled :
    let s := { quiet with plant := { quiet.plant with tankCapacity := 100, reserveLow := 1, reserveHigh := 2, margin := 500 } }
    let p := { s.plant with quantum := 10, maxDischarge := 60000 }
    let fed := { unit .run none none none with plant := s.plant }
    let fed := { fed with chillers := fed.chillers.set 0 { fed.chiller 0 with available := some 900 }, capacity := 400 }
    s.ready ∧ p.inRange = true ∧ s.plant.quantum ≠ p.quantum ∧ s.plant.tankCapacity ≠ 0 ∧
      s.plant.maxDischarge ≠ p.maxDischarge ∧ fed.ready ∧
      fed.capacity < (after (.plantDef 1 { fed.plant with margin := 0 }) fed).capacity := by
  unfold State.ready
  decide +kernel

theorem witness_LoadSessionsOpen : quiet.ready ∧ (95 < 96 ∨ 0 < 0) ∧ 0 < 1 ∧ 95 ≤ 95 ∧ 95 ≤ 255 := by
  unfold State.ready
  decide +kernel

theorem witness_SchedDataIsLoaded :
    let s := { quiet with session := some ⟨90, 95, 95⟩, clock := some 86399 }
    quiet.ready ∧ s.ready ∧ ([] : List SlotFields).length = 0 ∧ 24 < (List.replicate 25 (⟨0, 0⟩ : SlotFields)).length ∧
      (List.replicate 24 (⟨0, 0⟩ : SlotFields)).length ≤ 24 ∧ quiet.session = none ∧ s.session = some ⟨90, 95, 95⟩ ∧
      s.currentSlot = some 95 ∧ parseRequest 0x0A [2, 1, 0, 0, 0] = .schedData 2 [⟨0, 0⟩] ∧
      (∀ i : Fin 96, s.currentSlot = some i → i.val < 90 ∨ 90 + 5 ≤ i.val) := by
  unfold State.ready
  decide +kernel

theorem witness_PressureReferenceIsDefined :
    quiet.ready ∧ RefSettings.inRange ⟨some 0, some 47, true, .hold, 600, 60, 3000, 200⟩ = true ∧
      RefSettings.inRange ⟨some 0, some 0, true, .hold, 600, 60, 3000, 200⟩ = false ∧
      (48 > 47 ∧ 48 ≠ 0xFF) := by
  unfold State.ready
  decide +kernel

theorem witness_PumpTrimIsDefined :
    quiet.ready ∧ (quiet.setSpeed 300).ready ∧ PumpSettings.inRange ⟨200, 60, 1000, 100, 1000, 1000⟩ = true ∧
      PumpSettings.inRange ⟨0, 1, 1, 1, 1, 0⟩ = false ∧
      quiet.pressure.speed = none ∧ (quiet.setSpeed 300).pressure.speed = some 300 := by
  unfold State.ready
  decide +kernel

theorem witness_BranchesAreRested :
    let plain := town.setStn 0 { active with advert := none }
    town.ready ∧ (town.resting .offering).ready ∧ (town.resting .waking).ready ∧ plain.ready ∧ 5 < 6 ∧
      (town.br 1).settings.window = none ∧ (town.br 0).settings.window ≠ none ∧ (town.br 0).rest = .live ∧
      town.activeIn 0 = [0] ∧ (town.stn 0).resolved.rest = true ∧ ((town.resting .offering).br 0).rest = .offering ∧
      ((town.resting .waking).br 0).rest = .waking ∧
      (plain.br 0).settings.window ≠ none ∧ (plain.br 0).rest = .live ∧ plain.activeIn 0 = [0] ∧
      (plain.stn 0).resolved.rest = false := by
  unfold State.ready
  decide +kernel

/-- The town at rest still has its one window. -/
theorem resting_windows : (town.resting .resting).windowsLawful := by
  refine ⟨fun b w h => ?_, fun b c h => ?_⟩
  · fin_cases b <;> first | (cases h; decide) | (cases h)
  · fin_cases b <;> fin_cases c <;> first | rfl | exact absurd rfl h

theorem witness_BranchesAreWoken :
    (town.resting .resting).ready ∧ (town.resting .waking).ready ∧
      5 < 6 ∧ (town.br 1).settings.window = none ∧ ((town.resting .resting).br 0).settings.window ≠ none ∧
      ((town.resting .resting).br 0).rest = .resting ∧ ((town.resting .waking).br 0).settings.window ≠ none ∧
      ((town.resting .waking).br 0).rest = .waking ∧ (town.resting .resting).windowsLawful :=
  ⟨⟨by decide, by decide, by decide, by decide⟩, ⟨by decide, by decide, by decide, by decide⟩, by decide, by decide,
    by decide, by decide, by decide, by decide, resting_windows⟩

theorem witness_MeterReads :
    let s := town.setBr 0 { branch with read := some ⟨0, 9, 1, false⟩, txn := some ⟨0, .meterAsk, false⟩ }
    let plain := town.setStn 0 { active with advert := none }
    town.ready ∧ s.ready ∧ plain.ready ∧ 47 < 48 ∧
      (town.stn 1).state ≠ .active ∧ (town.stn 0).state = .active ∧ town.branchOf 0 = some 0 ∧ (plain.stn 0).state = .active ∧
      plain.branchOf 0 = some 0 ∧ (s.stn 0).state = .active ∧ s.branchOf 0 = some 0 ∧ (s.stn 0).resolved.meter = true ∧
      (town.stn 0).resolved.meter = true ∧ (town.br 0).read = none ∧ (s.br 0).read ≠ none ∧
      (plain.stn 0).resolved.meter = false ∧ s.powered = true ∧
      (s.br 0).txn = some ⟨0, .meterAsk, false⟩ ∧ (s.br 0).read = some ⟨0, 9, 1, false⟩ := by
  unfold State.ready
  decide +kernel

theorem witness_GetsChangeNothing : town.ready ∧ 47 < 48 ∧ 5 < 6 ∧ 1 < 2 ∧ (town.stn 47).state = .vacant :=
  ⟨witness_ready.2.2, by decide, by decide, by decide, by decide⟩

theorem witness_FaultsAreAcknowledged : quiet.ready ∧ (9 < 10 ∧ 10 ≠ 0xFF) ∧ 1023 < 1024 ∧ 1023 ≤ 1023 :=
  ⟨witness_ready.2.1, by decide, by decide, by decide⟩

/-! ### Witnesses: time, the plant bus and the pressure reference -/

/-- The town with station 0 as the valid primary and station 1, at its last fresh second, as the secondary. -/
def indexed (source : Source) : State :=
  let s := (town.setStn 0 { active with indexDp := some ⟨700, 0⟩ }).setStn 1 { active with indexDp := some ⟨640, 15⟩ }
  (s.setRef ⟨some 0, some 1, true, .plant, 60, 15, 800, 1500⟩).setSource source

theorem witness_WindowsAndSpeedStayLawful_source (k : Fin 2) :
    let s := { indexed (if k = 0 then .primary else .secondary) with pending := [.clockTick] }
    s.sourceLawful ∧ s.pressure.source.locked = true ∧ ∃ t, step s = .next t := by
  revert k
  unfold State.sourceLawful
  exact Fin.cases ⟨by decide +kernel, by decide, _, rfl⟩ fun k => by
    have : k = 0 := Subsingleton.elim _ _
    subst this
    exact ⟨by decide +kernel, by decide, _, rfl⟩

/-- A warm restart that loses the primary. -/
theorem witness_RestartsKeepTheSettings_source :
    let s := { indexed .primary with link := { town.link with phase := .restartDue } }
    s.powered = true ∧ s.link.phase = .restartDue ∧ (s.link.sending = none → s.link.waiting = []) ∧
      s.pressure.source = .primary ∧ s.pressure.ref.primary = some 0 ∧ s.faults.records .indexLost 0 :=
  ⟨by decide, by decide, by decide, by decide, by decide, Or.inr (by decide)⟩

/-- The slot 95 ends, and a revert timer runs on or is stopped. -/
theorem witness_ASecondPasses :
    let t := after .clockTick ((indexed .hold).setRevert (some 60))
    let u := after .clockTick ((indexed .primary).setRevert (some 60))
    quiet.powered = true ∧
      ({ quiet with clock := some 86399 }.clock.map fun c => (c + 1) % 86400) = some 0 ∧
      slotOf 0 ≠ slotOf 86399 ∧ t.pressure.source ≠ .primary ∧ t.primaryValid = true ∧
      t.pressure.revertTimer = some 59 ∧ u.pressure.source = .primary ∧ u.pressure.revertTimer = none := by decide +kernel

theorem witness_HoldTimersRunOut :
    town.powered = true ∧ (town.stn 1).hold ≠ none ∧ (town.stn 1).state = .seeking ∧
      ((town.setStn 1 { seeking with state := .lost, hold := some 0 }).stn 1).state = .lost := by decide

theorem witness_DevicesFallSilent :
    quiet.watched 9 = true ∧ quiet.watched 10 = true ∧ (quiet.watch 9).silent = false ∧
      (unit .run none none none).watched 0 = true ∧ quiet.watched 0 = false ∧
      { quiet with plant := { quiet.plant with tankCapacity := 1 } }.watched 8 = true ∧
      quiet.faults.records .deviceSilent 9 :=
  ⟨by decide, by decide, by decide, by decide, by decide, by decide, Or.inr (by decide)⟩

theorem witness_ChillerTimersRunOut :
    ((unit .stopHeld (some 0) none none).chiller 0).minRunTimer ≠ none ∧
      ((unit .startHeld none (some 0) none).chiller 0).minOffTimer ≠ none ∧
      ((unit .starting none none (some 0)).chiller 0).confirmTimer ≠ none ∧
      ((unit .stopping none none (some 0)).chiller 0).state = .stopping ∧
      (unit .run none none none).faults.records .startFailed 0 ∧ (unit .run none none none).faults.records .stopFailed 0 :=
  ⟨by decide, by decide, by decide, by decide, Or.inr (by decide), Or.inr (by decide)⟩

theorem witness_ChillersReport :
    (quiet.chiller 0).settings.ratedKw = 0 ∧ 0 < ((unit .run none none none).chiller 0).settings.ratedKw ∧
      ((unit .tripped none none none).chiller 0).state = .tripped ∧ quiet.faults.records .chillerTrip 0 :=
  ⟨by decide, by decide, by decide, Or.inr (by decide)⟩

/-- A rise of A, and a fall of it below the grants. -/
theorem witness_ChillersReport_capacity :
    let s := fourStations 0 0 0 0
    let full := { fourStations 2000 1200 1500 800 with capacity := 5500 }
    s.capacity < (after (.chillerReport 0 .run 6000) s).capacity ∧ 10 ≤ s.plant.quantum ∧ s.capsLawful ∧
      s.sumGrants ≤ s.capacity ∧
      (after (.chillerReport 0 .run 3500) full).capacity ≤ full.capacity ∧
      (after (.chillerReport 0 .run 3500) full).capacity < full.sumGrants ∧ full.capsLawful ∧ 10 ≤ full.plant.quantum := by
  unfold State.capsLawful
  decide +kernel

theorem witness_TheTankReports :
    let s := { quiet with plant := { quiet.plant with tankCapacity := 1 } }
    let on := { quiet with
      plant := { quiet.plant with tankCapacity := 100, reserveLow := 20, reserveHigh := 40 }
      tank := ⟨some 30, none, none, true⟩
      lastTankCommand := some ⟨.charge, 5⟩ }
    let off := { on with tank := ⟨some 30, none, none, false⟩ }
    let unheard := { on with tank := ⟨none, none, none, false⟩ }
    quiet.plant.tankCapacity = 0 ∧ 0 < s.plant.tankCapacity ∧ s.lastTankCommand = none ∧ s.tank.soc = none ∧
      unheard.tank.soc = none ∧ quiet.faults.records .storageReserve 8 ∧ on.tank.enabled = true ∧ 20 ≤ on.plant.reserveLow ∧
      20 < on.plant.reserveHigh ∧ on.plant.reserveHigh ≤ 40 ∧ off.tank.soc ≠ none ∧ off.tank.enabled = false ∧
      (after (.tankReport 39 .hold 0) off).tank.enabled = off.tank.enabled ∧ s.plant.reserveHigh ≤ 1 ∧ s.plant.reserveLow < 1 :=
  ⟨by decide, by decide, by decide, by decide, by decide, Or.inr (by decide), by decide, by decide, by decide, by decide,
    by decide, by decide, by decide +kernel, by decide, by decide⟩

theorem witness_PumpsAndTransmitterReport :
    quiet.powered = true ∧ quiet.pressure.speed = none ∧ (quiet.setSpeed 300).pressure.speed = some 300 := by decide

theorem witness_PressureTimersRunOut :
    let s := (town.setStn 0 { active with indexDp := some ⟨700, 15⟩ }).setRef
      ⟨some 0, some 1, true, .plant, 60, 15, 800, 1500⟩
    s.powered = true ∧ (s.stn 0).indexDp = some ⟨700, 15⟩ ∧ s.pressure.ref.primary = some 0 ∧ s.primaryValid = true ∧
      (s.setRevert (some 0)).pressure.revertTimer ≠ none ∧
      { quiet with plantDp := some ⟨1400, 15⟩ }.plantDp = some ⟨1400, 15⟩ := by decide +kernel

/-- A source lost in each way, and the source left alone. -/
theorem witness_PressureTimersRunOut_choice :
    let timed := (indexed .secondary).setRevert (some 5)
    (indexed .primary).pressure.source = .primary ∧ (indexed .primary).pressure.ref.primary = some 0 ∧
      (indexed .primary).pressure.ref.autoSwitch = true ∧
      (after (.indexDpStale 0) (indexed .primary)).secondaryValid = true ∧
      (after (.indexDpStale 0) ((indexed .primary).setStn 1 seeking)).secondaryValid = false ∧
      timed.pressure.ref.secondary = some 1 ∧ timed.pressure.revertTimer ≠ none ∧ timed.pressure.source = .secondary ∧
      ((indexed .hold).setRevert (some 5)).pressure.source = .hold ∧
      ((indexed .hold).setStn 0 seeking).primaryValid = false ∧ ((indexed .hold).setStn 0 seeking).secondaryValid = true ∧
      quiet.primaryValid = false := by decide +kernel

theorem witness_records_index : (indexed .primary).faults.records .indexLost 0 := Or.inr (by decide)

theorem witness_TheSpeedIsTrimmed :
    let s := { (quiet.setSource .plant).setSpeed 700 with plantDp := some ⟨1400, 0⟩, pumpGroup := ⟨true, some 700⟩ }
    s.powered = true ∧ s.trimError = some 100 ∧ s.pumpsRun = true ∧ s.pressure.speed = some 700 ∧
      quiet.trimError = none := by decide

/-! ### Witnesses: the branch segments -/

theorem witness_RepliesTimeOut :
    ((town.onLine 0 .poll true).br 0).txn = some ⟨0, .poll, true⟩ ∧
      ((town.onLine 0 .poll false).br 0).txn = some ⟨0, .poll, false⟩ ∧ (town.stn 0).state = .active ∧
      (town.stn 0).missCount < 2 ∧ 2 ≤ ((town.setStn 0 { active with missCount := 2 }).stn 0).missCount ∧
      (town.stn 2).state = .attaching ∧ (town.stn 1).state = .seeking ∧ town.faults.records .stationLost 0 :=
  ⟨by decide, by decide, by decide, by decide, by decide, by decide, by decide, Or.inr (by decide)⟩

/-- A CAP missed at its second and at its third attempt. -/
theorem witness_RepliesTimeOut_cap (k : Fin 2) :
    let e : CapEntry := ⟨0, 3, 100, 30, 80, some ⟨k.val + 2, 30, 100⟩⟩
    let s := town.setBr 0 { branch with queue := [e], txn := some ⟨0, .cap 3 30 100, false⟩, capsInRow := 3 }
    s.powered = true ∧ (s.stn 0).state = .active ∧ (s.stn 0).missCount < 2 ∧ (s.br 0).queue = e :: [] ∧ e.station = 0 ∧
      s.capsLawful ∧ s.sumGrants ≤ s.capacity ∧ (s.br 0).settings.window ≠ none ∧ (s.br 0).capsInRow ≠ 4 ∧
      (k = 0 → k.val + 2 < 3) ∧ (k = 1 → 3 ≤ k.val + 2) := by
  unfold State.capsLawful
  revert k
  decide +kernel

/-- A METER-ASK missed at its second and at its third attempt, and a read whose station is lost. -/
theorem witness_RepliesTimeOut_read (k : Fin 2) :
    let m : MeterRead := ⟨0, 9, k.val + 2, false⟩
    let s := town.setBr 0 { branch with read := some m, txn := some ⟨0, .meterAsk, false⟩ }
    s.powered = true ∧ (s.br 0).txn = some ⟨0, .meterAsk, false⟩ ∧ (s.stn 0).state = .active ∧ (s.stn 0).missCount < 2 ∧
      (s.br 0).read = some m ∧ m.station = 0 ∧ s.capsLawful ∧ s.sumGrants ≤ s.capacity ∧ (s.br 0).queue.head? = none ∧
      (k = 0 → m.attempts < 3) ∧ (k = 1 → 3 ≤ m.attempts) ∧
      2 ≤ ((s.setStn 0 { active with missCount := 2 }).stn 0).missCount := by
  unfold State.capsLawful
  revert k
  decide +kernel

theorem witness_ReportsFillTheRecord :
    (town.onLine 0 .poll false).powered = true ∧ ((town.onLine 0 .poll false).br 0).txn = some ⟨0, .poll, false⟩ ∧
      (town.stn 0).state = .active ∧ (town.stn 2).state = .attaching ∧ (town.stn 2).debounce = 0 ∧
      1 ≤ ((town.setStn 2 { active with state := .attaching, debounce := 1 }).stn 2).debounce ∧
      ((town.resting .resting).br 0).rest = .resting ∧
      ((town.setBr 0 { branch with rest := .offering, txn := some ⟨2, .poll, false⟩ }).br 0).txn = some ⟨2, .poll, false⟩ := by
  decide

/-- A want left above 0 kW, a STANDALONE flag with the old entry in flight, and a station that enters ACTIVE with none. -/
theorem witness_ReportsFillTheRecord_caps :
    let s := town.setBr 0 { branch with queue := [⟨0, 3, 100, 30, 80, some ⟨1, 30, 100⟩⟩], txn := some ⟨0, .poll, false⟩ }
    let joining := (town.onLine 2 .poll false).setStn 2 { active with state := .attaching, debounce := 1 }
    (s.br 0).txn = some ⟨0, .poll, false⟩ ∧ (s.stn 0).state = .active ∧ s.branchOf 0 = some 0 ∧ 10 ≤ s.plant.quantum ∧
      (s.stn 0).grantKw < min 1 (s.stn 0).host.contractKw ∧
      (∀ e ∈ (s.br 0).queue, e.station = 0 → e.flight ≠ none) ∧
      (joining.br 0).txn = some ⟨2, .poll, false⟩ ∧ (joining.stn 2).state = .attaching ∧ 1 ≤ (joining.stn 2).debounce ∧
      joining.branchOf 2 = some 0 ∧ (∀ e ∈ (joining.br 0).queue, e.station ≠ 2) ∧ 10 ≤ joining.plant.quantum := by
  decide +kernel

theorem witness_StationsAdvertise :
    ((town.onLine 1 .probe false).br 0).txn = some ⟨1, .probe, false⟩ ∧ (town.stn 1).state = .seeking ∧
      20000 ≤ 20000 ∧ 65534 ≤ 65534 := by decide

theorem witness_CapsAreAcknowledged :
    let e : CapEntry := ⟨0, 3, 100, 30, 80, some ⟨1, 30, 100⟩⟩
    let s := town.setBr 0 { branch with queue := [e], txn := some ⟨0, .cap 3 30 100, false⟩ }
    (s.br 0).txn = some ⟨e.station, .cap e.seq 30 100, false⟩ ∧ (s.br 0).queue = e :: [] ∧ e.flight = some ⟨1, 30, 100⟩ ∧
      100 < (s.stn e.station).confirmedKw ∧ 10 ≤ s.plant.quantum := by
  decide

/-- A CAP that the ramp stopped at 10 dL/s, and its remainder the head of the queue. -/
theorem witness_CapsAreAcknowledged_ramp :
    let e : CapEntry := ⟨0, 3, 100, 30, 80, some ⟨1, 10, 34⟩⟩
    let station := { active with confirmedKw := 0, grantKw := 0 }
    let s := (town.setBr 0 { branch with queue := [e], txn := some ⟨0, .cap 3 10 34, false⟩, capsInRow := 1 }).setStn 0 station
    (s.stn 0).confirmedKw ≤ 34 ∧ s.capsLawful ∧ s.sumGrants ≤ s.capacity ∧ 10 < e.targetFlow ∧
      (s.br 0).settings.window ≠ none ∧ (s.br 0).capsInRow ≠ 4 ∧
      ((after (.capAck 0 0 3) s).br 0).queue = [⟨0, 0, 100, 30, 80, some ⟨1, 30, 100⟩⟩] := by
  unfold State.capsLawful
  decide +kernel

/-- The town offering rest to station 0. -/
def offering : State :=
  (town.setBr 0 { branch with rest := .offering, txn := some ⟨0, .restOffer, false⟩ }).setStn 0
    { active with standing := .offerOwed }

theorem offering_windows : offering.windowsLawful := by
  refine ⟨fun b w h => ?_, fun b c h => ?_⟩
  · fin_cases b <;> first | (cases h; decide) | (cases h)
  · fin_cases b <;> fin_cases c <;> first | rfl | exact absurd rfl h

theorem witness_RestIsAnswered :
    let waking := (town.setBr 0 { branch with rest := .waking, txn := some ⟨0, .wake, false⟩ }).setStn 0
      { active with standing := .wakeOwed }
    offering.powered = true ∧ offering.windowsLawful ∧ offering.inWindow 0 0 = true ∧ (offering.stn 0).state = .active ∧
      (offering.br 0).txn = some ⟨0, .restOffer, false⟩ ∧ (offering.br 0).rest = .offering ∧
      (offering.stn 0).standing = .offerOwed ∧ (waking.br 0).txn = some ⟨0, .wake, false⟩ ∧
      (waking.br 0).rest = .waking ∧ (waking.stn 0).standing = .wakeOwed :=
  ⟨by decide, offering_windows, by decide, by decide, by decide, by decide, by decide, by decide, by decide, by decide⟩

theorem witness_RotationsAndWakeTimersEnd :
    let s := (quiet.setBr 0 { branch with rotCount := 7 })
    (s.br 0).settings.window ≠ none ∧ (s.br 0).rotSent = false ∧ s.nextDue 0 = none ∧
      (town.resting .resting).branchOf 0 = some 0 ∧ ((town.resting .resting).br 0).rest = .resting ∧
      ((town.resting .waking).br 0).wakeTimer ≠ none ∧ ((town.resting .waking).br 0).settings.restThreshold ≠ 1 ∧
      10 ≤ (town.resting .waking).plant.quantum := by
  decide +kernel

/-- An empty rotation that brings the idle count to a threshold of 2, and one that does not. -/
theorem witness_RotationsAndWakeTimersEnd_rest :
    let c := { branch with settings := { branch.settings with restThreshold := 2 }, idleCount := 1, rotPos := 12 }
    let s := town.setBr 0 c
    (s.br 0).rest = .live ∧ (s.br 0).settings.window ≠ none ∧ (s.br 0).rotSent = false ∧ s.nextDue 0 = none ∧
      0 < (s.br 0).settings.restThreshold ∧ s.rotationIdle 0 = false ∧
      (s.setStn 0 { active with confirmedKw := 0 }).rotationIdle 0 = true ∧
      ∀ n ∈ s.activeIn 0, (s.stn n).resolved.rest = true := by decide +kernel

end Sys2Proof.Tests
end

section
/-!
SUPPORT. The state after reset, the GET requests and the frames that are only counted: what each answers is the value of the
model's own definitions on a record.
-/

namespace Sys2Proof.Machine

/-! ### The state after reset -/

@[simp] theorem stn_reset (n : Fin 48) : State.reset.stn n = Station.vacantRecord := by
  simp [State.reset, State.stn]

@[simp] theorem br_reset (b : Fin 6) : State.reset.br b = Branch.fresh ⟨none, 0, 0, 0, 60, 30⟩ := by
  simp [State.reset, State.br]

/-- A sum of figures that are all 0. -/
theorem sumOver_eq_zero {l : List (Fin 48)} {f : Fin 48 → Nat} (h : ∀ n, f n = 0) : sumOver l f = 0 := by
  simp [sumOver, funext h]

theorem reset_windowsLawful : State.reset.windowsLawful := by
  simp [State.windowsLawful, Branch.fresh, windowsOverlap]

theorem reset_grantsLawful : State.reset.grantsLawful := by
  refine ⟨fun n h => ?_, ?_, by decide⟩
  · simp [Station.vacantRecord] at h
  · exact (sumOver_eq_zero fun n => by simp [Station.vacantRecord]).le

theorem reset_faults_lawful : State.reset.faults.lawful := ⟨by decide, List.pairwise_singleton _ _⟩

/-- Settles O4: each law, at the values the state after reset holds. -/
theorem resetMeetsTheLaws : Obligations.ResetMeetsTheLaws := by
  refine ⟨reset_faults_lawful, rfl, ⟨by decide, by decide, by decide, rfl, rfl⟩, reset_windowsLawful,
    ⟨by decide, nofun⟩, ⟨nofun, nofun⟩, reset_grantsLawful, fun n => ?_,
    ⟨List.nodup_nil, nofun⟩, fun b h => ?_, fun b => ?_, by decide, by decide, by decide, by decide⟩
  · simp [Station.vacantRecord]
  · simp [Branch.fresh] at h
  · simp [Branch.fresh]

/-! ### The frames that are only counted -/

/-- A row that acts while the card has power, on a card that has it. -/
theorem exec_on {c : Instr} (f : State → State) (h : exec c = whilePowered f) {s : State} (hp : s.powered = true) :
    exec c s = .next (f s) := by rw [h, whilePowered_on f s hp]

/-- A reply that does not pair with the frame sent, or carries another address, is none (R124). -/
theorem validReply_eq_false {s : State} {x : Txn} {a : Nat} {r : FieldReply}
    (h : a ≠ x.station.val ∨ x.kind.pairs r = false) : s.validReply x a r = false := by
  rcases h with h | h <;> simp [State.validReply, h]

/-- A frame that carries no ISOLATED station's address but the one awaited, and is no valid reply, is counted (R125). -/
theorem fieldFrame_disregarded {s : State} {b : Fin 6} {x : Txn} {a : Nat} {r : Option FieldReply}
    (hx : (s.br b).txn = some x)
    (ha : ∀ m : Fin 48, a = m.val → m ≠ x.station → (s.stn m).state ≠ .isolated)
    (hr : r = none ∨ ∃ y, r = some y ∧ (a ≠ x.station.val ∨ x.kind.pairs y = false)) :
    s.fieldFrame b a r = s.countProtocol b := by
  have hi : ¬ (a ≠ x.station.val ∧ s.isolatedAddress a = true) := by
    rintro ⟨hne, hiso⟩
    unfold State.isolatedAddress stationOf at hiso
    by_cases h : a < 48
    · simp only [h, dif_pos, decide_eq_true_eq] at hiso
      exact ha ⟨a, h⟩ rfl (fun e => hne (congrArg Fin.val e)) hiso
    · simp [h] at hiso
  rcases hr with rfl | ⟨y, rfl, hy⟩
  · simp [State.fieldFrame, hx, hi]
  · simp [State.fieldFrame, hx, hi, validReply_eq_false hy]

/-- Settles O22: each row is one count, and a frame that nothing awaits, or from an ISOLATED station, is none. -/
theorem discardedFramesAreOnlyCounted : Obligations.DiscardedFramesAreOnlyCounted := by
  intro s hp
  refine ⟨exec_on (fun s => { s with link := { s.link with badFrames := countUp s.link.badFrames } }) rfl hp,
    exec_on (fun s => { s with link := { s.link with gaps := countUp s.link.gaps } }) rfl hp,
    fun b => ⟨exec_on (·.countBad b) rfl hp, exec_on (·.countBad b) rfl hp, fun f => ?_⟩⟩
  have hinv := exec_on (c := .fieldInvalidReply b f) (·.fieldFrame b f.address (parseReply f)) rfl hp
  have huna := exec_on (c := .fieldUnawaitedFrame b f) (·.fieldFrame b f.address (parseReply f)) rfl hp
  refine ⟨fun ht => by rw [huna, fieldFrame_unawaited ht], fun x hx => ⟨fun m hm hne hiso => ?_, fun ha hr => ?_⟩⟩
  · rw [hinv, huna, hm, fieldFrame_isolated hx hne hiso]
    exact ⟨rfl, rfl⟩
  · rw [hinv, fieldFrame_disregarded hx ha hr]
    rfl

/-! ### The GET requests -/

@[simp] theorem stationOf_val (n : Fin 48) : stationOf n.val = some n := by simp [stationOf]

theorem stationOf_above {n : Nat} (h : 47 < n) : stationOf n = none := by
  have : ¬ n < 48 := by omega
  simp [stationOf, this]

@[simp] theorem branchOfNumber_val (b : Fin 6) : branchOfNumber b.val = some b := by simp [branchOfNumber]

theorem branchOfNumber_above {b : Nat} (h : 5 < b) : branchOfNumber b = none := by
  have : ¬ b < 6 := by omega
  simp [branchOfNumber, this]

/-- A request that is refused on a ready state leaves it with the refusal issued (R181). -/
theorem exec_refused {c : Instr} {tag : Nat} {r : Request} {reason : Reason} {s : State}
    (hc : c.asRequest = some (tag, r)) (hs : s.ready) (h : s.carryOut tag r = (s, .refused reason)) :
    exec c s = .next (s.answeredOnly tag (.refused reason)) := by
  rw [exec_ready hc hs, handle_refused h]

/-- A request answered with data on a ready state leaves it with the load session closed (R52, R182). -/
theorem exec_data {c : Instr} {tag : Nat} {r : Request} {body : List Field} {s : State}
    (hc : c.asRequest = some (tag, r)) (hs : s.ready) (h : s.carryOut tag r = (s, .data body))
    (h1 : r ≠ .save) (h2 : r ≠ .restart) (hk : r.keepsSession = false) :
    exec c s = .next (State.answeredOnly { s with session := none } tag (.data body)) := by
  rw [exec_ready hc hs, handle_done h1 h2 h rfl hk]

theorem onGetStn_val (s : State) (n : Fin 48) : s.onGetStn n.val = (s, .data (s.stationFields n)) := by
  simp [State.onGetStn]

theorem onGetStn_above (s : State) {n : Nat} (h : 47 < n) : s.onGetStn n = (s, .refused .range) := by
  simp [State.onGetStn, stationOf_above h, State.refuse]

theorem onGetBr_range (s : State) {b p : Nat} (h : 5 < b ∨ 1 < p) : s.onGetBr b p = (s, .refused .range) := by
  rcases h with h | h
  · simp [State.onGetBr, branchOfNumber_above h, State.refuse]
  · obtain ⟨k, rfl⟩ : ∃ k, p = k + 2 := ⟨p - 2, by omega⟩
    cases e : branchOfNumber b <;> simp [State.onGetBr, e, State.refuse]

theorem onGetPlant_range (s : State) {p : Nat} (h : 1 < p) : s.onGetPlant p = (s, .refused .range) := by
  obtain ⟨k, rfl⟩ : ∃ k, p = k + 2 := ⟨p - 2, by omega⟩
  rfl

theorem onGetFaults_range (s : State) {p : Nat} (h : 1 < p) : s.onGetFaults p = (s, .refused .range) := by
  obtain ⟨k, rfl⟩ : ∃ k, p = k + 2 := ⟨p - 2, by omega⟩
  rfl

theorem stationFields_vacant {s : State} {n : Fin 48} (h : (s.stn n).state = .vacant) :
    s.stationFields n = [⟨1, 0⟩] := by
  simp [State.stationFields, h, byteField, StationState.code]

/-- Settles O44: the owner of each request answers the state it found with the record's fields. -/
theorem getsChangeNothing : Obligations.GetsChangeNothing := by
  intro s tag hs
  refine ⟨fun n => ⟨exec_data rfl hs (onGetStn_val s n) nofun nofun rfl, stationFields_vacant⟩,
    fun n hn => exec_refused rfl hs (onGetStn_above s hn),
    fun b => ⟨exec_data rfl hs (by simp [State.carryOut, State.onGetBr]) nofun nofun rfl,
      exec_data rfl hs (by simp [State.carryOut, State.onGetBr]) nofun nofun rfl⟩,
    fun b p h => exec_refused rfl hs (onGetBr_range s h), ?_, ?_, fun p h => exec_refused rfl hs (onGetPlant_range s h),
    ?_, ?_, ?_, fun p h => exec_refused rfl hs (onGetFaults_range s h)⟩
  all_goals exact exec_data rfl hs rfl nofun nofun rfl

end Sys2Proof.Machine
end

section
/-!
SUPPORT. What an event leaves of the state's kept part when it writes one station's record: the running out of a hold timer, an
advertisement, and a STN-DEF for a defined station with the recomputes it brings (R4, R7, R14, R69).
-/

namespace Sys2Proof.Machine

/-! ### One record written -/

/-- A station's record written shows in the kept part as its stable part. -/
theorem kept_setStn_with (s : State) (n : Fin 48) (r : Station) : (s.setStn n r).kept = s.kept.withStation n r := by
  have h : (fun m => ((s.setStn n r).stn m).stable) = (s.kept.withStation n r).stations := by
    funext m
    rw [stn_setStn]
    exact apply_ite Station.stable (m = n) r (s.stn m)
  show ({ s.kept with stations := fun m => ((s.setStn n r).stn m).stable } : Kept) = _
  rw [h]
  rfl

theorem kept_updStn_with (s : State) (n : Fin 48) (f : Station → Station) :
    (s.updStn n f).kept = s.kept.withStation n (f (s.stn n)) := kept_setStn_with s n _

@[simp] theorem withStation_withStation (k : Kept) (n : Fin 48) (r r' : Station) :
    (k.withStation n r).withStation n r' = k.withStation n r' := by
  simp only [Kept.withStation]
  congr 1
  funext m
  split <;> rfl

/-- Writing a record with the stable part it has leaves the kept part alone. -/
theorem withStation_self {s : State} {n : Fin 48} {r : Station} (h : r.stable = (s.stn n).stable) :
    s.kept.withStation n r = s.kept := by rw [← kept_setStn_with, kept_setStn s n r h]

@[simp] theorem kept_endTxn (s : State) (b : Fin 6) : (s.endTxn b).kept = s.kept := by
  unfold State.endTxn
  rw [kept_updBr] <;> intros <;> rfl

/-- The kept part with every station record's stable part replaced. -/
def Kept.withStations (k : Kept) (f : Fin 48 → Station) : Kept := { k with stations := f }

/-! ### A hold timer runs out (R14) -/

/-- Settles O47: the record that expires, written, and the end of the event over it. -/
theorem holdTimersRunOut : Obligations.HoldTimersRunOut := by
  intro s n hp hh hst kw
  refine ⟨_, exec_on (·.holdExpiry n) rfl hp, ?_⟩
  have hrun : (s.stn n).hold.isSome = true ∧ ((s.stn n).state = .seeking ∨ (s.stn n).state = .lost) :=
    ⟨Option.isSome_iff_ne_none.mpr hh, hst⟩
  simp only [State.holdExpiry, if_pos hrun, kept_finish, putStn_st, event_st, kept_setStn_with]
  rfl

/-! ### A valid reply (R124) -/

/-- The valid reply of the station that the waiting transaction addresses is handed to the rule that owns it, the transaction
ended and the miss count at 0. -/
theorem fieldFrame_replied {s : State} {b : Fin 6} {n : Fin 48} {k : TxnKind} {r : FieldReply}
    (hx : (s.br b).txn = some ⟨n, k, false⟩) (hk : k.pairs r = true) (ha : (s.stn n).state.accepts r = true) :
    s.fieldFrame b n.val (some r) =
      ((s.endTxn b).updStn n fun c => { c with missCount := 0 }).takeReply s b n r := by
  refine (fieldFrame_own hx (some r)).trans ?_
  have hv : s.validReply ⟨n, k, false⟩ n.val r = true := by simp [State.validReply, hk, ha]
  simp only [hv, if_true, State.replied]
  rfl

/-- The range Table 7-3 gives an advertisement's figures, as the pairing checks it. -/
theorem pairs_advertise {caps kw cap rev : Nat} (hk : kw ≤ 20000) (hc : cap ≤ 65534) :
    TxnKind.probe.pairs (.advertise caps kw cap rev) = true := by
  have : cap < 0xFFFF := by omega
  simp [TxnKind.pairs, hk, this]

/-- Settles O57: the PROBE's transaction is answered, and the record of R7 written. -/
theorem stationsAdvertise : Obligations.StationsAdvertise := by
  intro s b n caps kw cap rev hp hx hst hkw hcap
  refine ⟨_, exec_on (·.fieldFrame b n.val (some (.advertise caps kw cap rev))) rfl hp, ?_⟩
  have ha : (s.stn n).state.accepts (.advertise caps kw cap rev) = true := by
    rcases hst with h | h <;> simp [StationState.accepts, h]
  simp only [fieldFrame_replied hx (pairs_advertise hkw hcap) ha, State.takeReply, State.advertise, kept_finish, putStn_st,
    event_st, kept_setStn_with, kept_updStn_with, withStation_withStation, kept_endTxn, stn_updStn_same]
  rfl

/-! ### The recomputes of a host change (R69) -/

/-- A record after the recompute of an ACTIVE station: the grant ΔT is ΔT_eff under a dt_floor. -/
def Station.recomputed (dtFloor : Nat) (r : Station) : Station :=
  if r.state = .active then { r with grantDt := r.effectiveDt dtFloor } else r

theorem stable_recomputed (f : Nat) (r : Station) : (r.recomputed f).stable = r.stable.recomputed f :=
  apply_ite Station.stable _ _ _

theorem recomputed_idem (f : Nat) (r : Station) : (r.recomputed f).recomputed f = r.recomputed f := by
  by_cases h : r.state = .active <;> simp [Station.recomputed, h, Station.effectiveDt, Station.resolved]

theorem kept_recompute (e : Event) (n : Fin 48) :
    (e.recompute n).st.kept = e.st.kept.withStation n { e.st.stn n with grantDt := e.st.effectiveDt n } := by
  unfold Event.recompute
  simp only [callPass_st]
  split <;> simp only [kept_handGrant, kept_updStn_with]

theorem kept_recomputeExact (e : Event) (n : Fin 48) :
    (e.recomputeExact n).st.kept = e.st.kept.withStation n ((e.st.stn n).recomputed e.st.plant.dtFloor) := by
  unfold Event.recomputeExact Station.recomputed
  by_cases ha : (e.st.stn n).state = .active
  · rw [if_pos ha]
    by_cases hd : e.st.effectiveDt n = (e.st.stn n).grantDt
    · rw [if_neg fun h => h.2 hd]
      exact (withStation_self (congrArg (fun d => ({ e.st.stn n with grantDt := d } : Station).stable) hd)).symm
    · rw [if_pos ⟨ha, hd⟩]
      exact kept_recompute e n
  · rw [if_neg ha, if_neg fun h => ha h.1]
    exact (withStation_self rfl).symm

/-- Every recompute of a host change, over any list of stations: each of them has its stable part recomputed. -/
theorem kept_foldl_recomputeExact (l : List (Fin 48)) (e : Event) :
    (l.foldl Event.recomputeExact e).st.kept = e.st.kept.withStations fun m =>
      if m ∈ l then (e.st.stn m).stable.recomputed e.st.plant.dtFloor else (e.st.stn m).stable := by
  induction l generalizing e with
  | nil => rfl
  | cons n l ih =>
    have hk := kept_recomputeExact e n
    have hp : (e.recomputeExact n).st.plant = e.st.plant := congrArg Kept.plant hk
    have hs : ∀ m, ((e.recomputeExact n).st.stn m).stable =
        if m = n then (e.st.stn m).stable.recomputed e.st.plant.dtFloor else (e.st.stn m).stable := by
      intro m
      refine (congrFun (congrArg Kept.stations hk) m).trans ?_
      show ite (m = n) _ _ = _
      split
      · next h => subst h; exact stable_recomputed _ _
      · rfl
    rw [List.foldl_cons, ih, hk, hp]
    refine congrArg e.st.kept.withStations (funext fun m => ?_)
    rw [hs]
    by_cases hm : m = n <;> by_cases hl : m ∈ l <;> simp [hm, hl, recomputed_idem]

theorem kept_recomputeAll (e : Event) :
    e.recomputeAll.st.kept =
      e.st.kept.withStations fun m => (e.st.stn m).stable.recomputed e.st.plant.dtFloor := by
  refine (kept_foldl_recomputeExact allStations e).trans ?_
  simp [allStations]

/-! ### STN-DEF for a defined station (R4, R8) -/

/-- The record of a defined station after a STN-DEF, field by field. -/
theorem redefine_eq (r : Station) (h : HostFields) :
    r.redefine h = { r with
      host := h
      requestKw := min r.requestKw h.contractKw
      clamped := r.clamped || decide (h.contractKw < r.requestKw)
      indexDp := if ({ r with host := h } : Station).resolved.index then r.indexDp else none } := by
  have hres (k : Nat) (c : Bool) : ({ r with host := h, requestKw := k, clamped := c } : Station).resolved =
      ({ r with host := h } : Station).resolved := rfl
  by_cases hlt : h.contractKw < r.requestKw
  · have hmin : min r.requestKw h.contractKw = h.contractKw := by omega
    cases hi : ({ r with host := h } : Station).resolved.index <;> simp [Station.redefine, hlt, hres, hmin, hi]
  · have hmin : min r.requestKw h.contractKw = r.requestKw := by omega
    cases hi : ({ r with host := h } : Station).resolved.index <;> simp [Station.redefine, hlt, hmin, hi]

@[simp] theorem kept_leaveFlex (s : State) (n : Fin 48) : (s.leaveFlex n).kept = s.kept := rfl

@[simp] theorem kept_restLost (s : State) (n : Fin 48) : (s.restLost n).kept = s.kept := by
  unfold State.restLost
  split
  · exact kept_wakeReason _ _
  · rfl

/-- The kept part after a STN-DEF for a defined station, its event not yet ended. -/
theorem kept_redefine (s : State) (n : Fin 48) (h : HostFields) :
    (s.event.redefine n h).st.kept = s.kept.withStations fun m =>
      let r := if m = n then (s.stn n).redefine h else s.stn m
      if (s.stn n).state = .active ∧ (s.stn n).dtInputsDiffer ((s.stn n).redefine h) = true then
        r.stable.recomputed s.plant.dtFloor
      else r.stable := by
  unfold Event.redefine
  extract_lets old new e1 e2 e3 e4
  have he : e4.st.kept = s.kept.withStation n new := by
    simp only [e4, e3, e2, e1, map_st, kept_release, apply_ite State.kept, kept_restLost, kept_leaveFlex, ite_self,
      event_st, kept_setStn_with]
  have hs : (fun m => (e4.st.stn m).stable) = fun m => (if m = n then new else s.stn m).stable :=
    (congrArg Kept.stations he).trans (funext fun m => (apply_ite Station.stable (m = n) new (s.stn m)).symm)
  change (if old.state = .active ∧ old.dtInputsDiffer new = true then e4.recomputeAll else e4).st.kept =
    s.kept.withStations fun m =>
      let r := if m = n then new else s.stn m
      if old.state = .active ∧ old.dtInputsDiffer new = true then r.stable.recomputed s.plant.dtFloor else r.stable
  split
  · rw [kept_recomputeAll, he, show e4.st.plant = s.plant from congrArg Kept.plant he]
    exact congrArg s.kept.withStations (funext fun m => congrArg _ (congrFun hs m))
  · rw [he, ← hs]
    exact congrArg s.kept.withStations (congrArg Kept.stations he).symm

/-- What a STN-DEF asks of its figures is what its codes and ranges check: the frame of fields in range is read back (R2). -/
theorem hostFieldsOf_asFrame {h : HostFields} (hr : h.inRange = true) (n : Fin 48) :
    hostFieldsOf (h.asFrame n) = some h := by
  obtain ⟨c, k, f, b, d, m, ⟨r, t, w, i⟩⟩ := h
  have hc : classOfCode c.code = some c := by cases c <;> rfl
  have hm : dtModeOfCode m.code = some m := by cases m <;> rfl
  have ho : capsOfCode (Caps.code ⟨r, t, w, i⟩) = some ⟨r, t, w, i⟩ := by
    cases r <;> cases t <;> cases w <;> cases i <;> decide
  simp only [hostFieldsOf, HostFields.asFrame, hc, hm, ho, hr, if_true]

theorem onStnDef_redefine {s : State} {n : Fin 48} {h : HostFields} (hr : h.inRange = true)
    (hv : (s.stn n).state ≠ .vacant) :
    s.onStnDef (h.asFrame n) = (((s.event.redefine n h).finish s), .done []) := by
  have hn : stationOf (h.asFrame n).station = some n := stationOf_val n
  simp only [State.onStnDef, hn, hostFieldsOf_asFrame hr, if_neg hv, State.doneEmpty]

/-- Settles O29: the record replaced, and the recomputes of R69 where an input of ΔT_eff of an ACTIVE station changed. -/
theorem stationsAreRedefined : Obligations.StationsAreRedefined := by
  intro s tag n h hs hr hv old replaced new changed
  have hnew : new = old.redefine h := (redefine_eq old h).symm
  have hk := (kept_finish (s.event.redefine n h) s).trans (kept_redefine s n h)
  obtain ⟨he, hkept⟩ := exec_request (c := .stnDef tag (h.asFrame n)) rfl hs (onStnDef_redefine hr hv) nofun nofun rfl rfl
    (congrArg Kept.link hk)
  refine ⟨_, he, hkept.trans ?_⟩
  rw [hk]
  have hch : changed ↔ old.state = .active ∧ old.dtInputsDiffer (old.redefine h) = true := by
    have hh : (old.redefine h).host = h := by rw [← hnew]
    have ht : (old.redefine h).resolved = replaced.resolved := by rw [← hnew]; rfl
    simp [changed, Station.dtInputsDiffer, hh, ht, or_assoc]
  refine congrArg (Kept.withStations { s.kept with
    session := none
    link := { s.link.kept with phase := .replying false, replies := [(tag, .done [])] } }) (funext fun m => ?_)
  show (if old.state = .active ∧ old.dtInputsDiffer (old.redefine h) = true then _ else _) = _
  simp only [hnew, hch]
  by_cases hc : old.state = .active ∧ old.dtInputsDiffer (old.redefine h) = true
  · simp only [hc, and_self, if_true, true_and, ← stable_recomputed]
    exact apply_ite Station.stable _ _ _
  · simp only [hc, if_false, false_and]
    rfl

end Sys2Proof.Machine
end

section
/-!
SUPPORT. What the allocator does at the end of an event (R78), said once: a grant pass is a run of offers to eligible stations
(`PassStep`), the sheds are a run of cuts of grants above 0 kW (`CutStep`), and neither, nor the cap changes handed on, touches
more than the grants, the figures that follow them and the queues (`State.ungranted`).
-/

namespace Sys2Proof.Machine

open Relation (ReflTransGen)

/-! ### What the allocator leaves alone -/

/-- A station's record without what the allocator and the cap queue write. -/
def Station.ungranted (r : Station) : Station := { r with grantKw := 0, boundCount := 0, nextSeq := 0 }

/-- A branch's record without its cap queue. -/
def Branch.ungranted (c : Branch) : Branch := { c with queue := [] }

/-- The state without the grants, the cap queues and the allocator's own record. -/
def State.ungranted (s : State) : State :=
  { s with
    stations := s.stations.map Station.ungranted
    branches := s.branches.map Branch.ungranted
    allocator := Allocator.fresh }

@[simp] theorem stn_ungranted (s : State) (n : Fin 48) : s.ungranted.stn n = (s.stn n).ungranted := by
  simp [State.ungranted, State.stn]

@[simp] theorem br_ungranted (s : State) (b : Fin 6) : s.ungranted.br b = (s.br b).ungranted := by
  simp [State.ungranted, State.br]

/-- A vector with one element replaced by one that a map does not tell from it. -/
theorem map_set_of_eq {α β : Type} {k : Nat} (v : Vector α k) (i : Nat) (hi : i < k) (a : α) (f : α → β)
    (h : f a = f v[i]) : (v.set i a).map f = v.map f := by
  ext j hj
  by_cases e : i = j
  · subst e; simp [h]
  · simp [e]

theorem ungranted_setStn {s : State} {n : Fin 48} {r : Station} (h : r.ungranted = (s.stn n).ungranted) :
    (s.setStn n r).ungranted = s.ungranted := by
  have := map_set_of_eq s.stations n.val n.isLt r Station.ungranted h
  simp only [State.ungranted, State.setStn, this]

theorem ungranted_updStn {s : State} {n : Fin 48} {f : Station → Station} (h : ∀ r, (f r).ungranted = r.ungranted) :
    (s.updStn n f).ungranted = s.ungranted := ungranted_setStn (h _)

theorem ungranted_updBr {s : State} {b : Fin 6} {f : Branch → Branch} (h : ∀ c, (f c).ungranted = c.ungranted) :
    (s.updBr b f).ungranted = s.ungranted := by
  have := map_set_of_eq s.branches b.val b.isLt (f (s.br b)) Branch.ungranted (h _)
  simp only [State.ungranted, State.updBr, State.setBr, this]

theorem ungranted_appendEntry (s : State) (b : Fin 6) (n : Fin 48) (g f d : Nat) :
    (s.appendEntry b n g f d).ungranted = s.ungranted := by
  unfold State.appendEntry
  rw [ungranted_updStn, ungranted_updBr] <;> intros <;> rfl

theorem ungranted_queueChange (s : State) (b : Fin 6) (n : Fin 48) (g f d : Nat) :
    (s.queueChange b n g f d).ungranted = s.ungranted := by
  unfold State.queueChange
  split
  · exact ungranted_updBr fun _ => rfl
  · exact ungranted_appendEntry _ _ _ _ _ _

@[simp] theorem ungranted_handGrant (s : State) (n : Fin 48) : (s.handGrant n).ungranted = s.ungranted := by
  unfold State.handGrant
  split
  · exact ungranted_queueChange _ _ _ _ _ _
  · rfl

@[simp] theorem ungranted_handChanges (before : State) (l : List (Fin 48)) (s : State) :
    (handChanges before l s).ungranted = s.ungranted :=
  foldl_keeps State.ungranted _ (fun s n => by
    split
    · rfl
    · exact ungranted_handGrant s n) l s

@[simp] theorem ungranted_release (s : State) (n : Fin 48) (k : Nat) : (s.release n k).ungranted = s.ungranted := by
  unfold State.release
  split
  · rw [ungranted_handGrant, ungranted_updStn]; intros; rfl
  · rfl

/-! ### A cap change handed on -/

/-- A cap change writes the station's next cap sequence alone. -/
theorem stn_handGrant (s : State) (n m : Fin 48) :
    ∃ q, (s.handGrant n).stn m = if m = n then { s.stn n with nextSeq := q } else s.stn m := by
  unfold State.handGrant State.queueChange State.appendEntry
  split
  · split
    · exact ⟨(s.stn n).nextSeq, by by_cases h : m = n <;> simp [h]⟩
    · exact ⟨_, by rw [stn_updStn]; rfl⟩
  · exact ⟨(s.stn n).nextSeq, by by_cases h : m = n <;> simp [h]⟩

theorem stn_handGrant_ne (s : State) {n m : Fin 48} (h : m ≠ n) : (s.handGrant n).stn m = s.stn m := by
  obtain ⟨q, hq⟩ := stn_handGrant s n m
  rw [hq, if_neg h]

@[simp] theorem grantKw_handGrant (s : State) (n m : Fin 48) :
    ((s.handGrant n).stn m).grantKw = (s.stn m).grantKw := by
  obtain ⟨q, hq⟩ := stn_handGrant s n m
  rw [hq]
  split
  · next h => rw [h]
  · rfl

@[simp] theorem grantKw_handChanges (before : State) (l : List (Fin 48)) (s : State) (m : Fin 48) :
    ((handChanges before l s).stn m).grantKw = (s.stn m).grantKw :=
  foldl_keeps (fun s : State => (s.stn m).grantKw) _ (fun s n => by
    split
    · rfl
    · exact grantKw_handGrant s n m) l s

/-- A station whose grant is what it was before the event is handed no cap change. -/
theorem stn_handChanges_of_eq {before : State} (l : List (Fin 48)) {s : State} {m : Fin 48}
    (h : (s.stn m).grantKw = (before.stn m).grantKw) : (handChanges before l s).stn m = s.stn m := by
  unfold handChanges
  induction l generalizing s with
  | nil => rfl
  | cons n l ih =>
    rw [List.foldl_cons]
    split
    · exact ih h
    · next hn =>
      have hm : m ≠ n := fun e => hn (e ▸ h)
      rw [ih (by rw [grantKw_handGrant, h]), stn_handGrant_ne s hm]

/-! ### A grant pass as a run of offers -/

/-- One step of a grant pass: the allocator's own record moves on, or an eligible station is made an offer while headroom is
left, and is found branch-bound or given an amount (R79 to R85). -/
inductive PassStep : PassWork → PassWork → Prop where
  | moved (w : PassWork) (a : Allocator) : PassStep w { w with st := { w.st with allocator := a } }
  | bound (w : PassWork) (n : Fin 48) (b : Fin 6) (hn : w.st.eligible w.bound n = true) (hh : 0 < w.h)
      (hb : w.st.branchOf n = some b) (hr : w.st.room b n ≤ (w.st.stn n).grantKw) :
      PassStep w { w with
        st := w.st.setStn n { w.st.stn n with boundCount := countUp (w.st.stn n).boundCount }
        bound := n :: w.bound }
  | given (w : PassWork) (n : Fin 48) (b : Fin 6) (hn : w.st.eligible w.bound n = true) (hh : 0 < w.h)
      (hb : w.st.branchOf n = some b) (hr : (w.st.stn n).grantKw < w.st.room b n) (r : Station)
      (hg : r = { w.st.stn n with grantKw := (w.st.stn n).grantKw + w.st.given b n w.h }) :
      PassStep w { w with
        st := w.st.setStn n r
        h := w.h - ((r.committed : Int) - ((w.st.stn n).committed : Int))
        changed := noteChange w.changed n }

/-- What eligibility asks of a station (R75). -/
theorem eligible_iff (s : State) (l : List (Fin 48)) (n : Fin 48) :
    s.eligible l n = true ↔
      (s.stn n).state = .active ∧ s.branchLive n = true ∧ 0 < (s.stn n).want ∧ n ∉ l := by
  simp [State.eligible, and_assoc]

theorem branchLive_iff (s : State) (n : Fin 48) :
    s.branchLive n = true ↔ ∃ b, s.branchOf n = some b ∧ (s.br b).rest = .live := by
  unfold State.branchLive
  cases s.branchOf n <;> simp

theorem offer_step {w : PassWork} {n : Fin 48} (hn : w.st.eligible w.bound n = true) (hh : 0 < w.h) :
    PassStep w (w.offer n).1 := by
  obtain ⟨b, hb, -⟩ := (branchLive_iff _ _).mp ((eligible_iff _ _ _).mp hn).2.1
  unfold PassWork.offer
  simp only [hb]
  split
  · next hr => exact .bound w n b hn hh hb hr
  · next hr => exact .given w n b hn hh hb (by omega) _ rfl

theorem firmOffers_steps (l : List (Fin 48)) (w : PassWork) (g : Option (Fin 48)) :
    ReflTransGen PassStep w (firmOffers l w g).1 := by
  induction l generalizing w g with
  | nil => exact .refl
  | cons n l ih =>
    unfold firmOffers
    split
    · exact .refl
    · next hh =>
      split
      · next hn => exact .head (offer_step hn (by omega)) (ih _ _)
      · exact ih _ _

/-- The FIRM part of a round is its offers, and then a move of the FIRM pointer. -/
theorem firmPart_eq (w : PassWork) :
    ∃ a, w.firmPart =
      let v := (firmOffers (w.snapshot .firm w.st.allocator.firmPtr) w none).1
      { v with st := { v.st with allocator := a } } := by
  unfold PassWork.firmPart
  dsimp only
  split <;> exact ⟨_, rfl⟩

theorem firmPart_steps (w : PassWork) : ReflTransGen PassStep w w.firmPart := by
  obtain ⟨a, ha⟩ := firmPart_eq w
  rw [ha]
  exact (firmOffers_steps _ w none).tail (.moved _ a)

/-- Every station of a snapshot just taken is eligible (R80, R84). -/
theorem mem_snapshot {w : PassWork} {c : ContractClass} {p n : Fin 48} :
    n ∈ w.snapshot c p ↔ (w.st.stn n).host.cls = c ∧ w.st.eligible w.bound n = true := by
  have : n ∈ ascendFrom p := by
    rcases le_or_gt p n with h | h <;> simp [ascendFrom, allStations, h]
  simp [PassWork.snapshot, this]

/-- The FLEX snapshot as a step finds it: taken, cleared at its front of the stations that are not eligible, and taken anew if
that left none (R85, steps 1 to 3). -/
def PassWork.flexReady (w : PassWork) : List (Fin 48) := w.takeFlex.dropFlex.takeFlex.st.allocator.flexSnapshot

/-- Taking and clearing the snapshot changes the snapshot alone. -/
theorem takeFlex_eq (w : PassWork) : w.takeFlex = w.setFlex w.takeFlex.st.allocator.flexSnapshot := by
  unfold PassWork.takeFlex
  split <;> rfl

theorem flexReady_eq (w : PassWork) : w.takeFlex.dropFlex.takeFlex = w.setFlex w.flexReady := by
  have h (v : PassWork) (l m : List (Fin 48)) : (v.setFlex l).setFlex m = v.setFlex m := rfl
  rw [PassWork.flexReady, takeFlex_eq w.takeFlex.dropFlex, PassWork.dropFlex, takeFlex_eq w]
  rfl

/-- The front of the snapshot a step serves is eligible: what was not has been cleared, or the snapshot is new (R85). -/
theorem eligible_flexReady {w : PassWork} {n : Fin 48} {rest : List (Fin 48)} (h : w.flexReady = n :: rest) :
    w.st.eligible w.bound n = true := by
  have same (v : PassWork) (l : List (Fin 48)) (p : Fin 48) :
      (v.setFlex l).st.eligible (v.setFlex l).bound p = v.st.eligible v.bound p := rfl
  rw [PassWork.flexReady, takeFlex_eq w] at h
  generalize w.takeFlex.st.allocator.flexSnapshot = l at h
  unfold PassWork.takeFlex at h
  split at h
  · have hm : n ∈ (w.setFlex l).dropFlex.snapshot .flex (w.setFlex l).dropFlex.st.allocator.flexPtr := by
      rw [show (w.setFlex l).dropFlex.snapshot .flex _ = n :: rest from h]
      exact List.mem_cons_self
    exact (mem_snapshot.mp hm).2
  · have hd := List.head?_dropWhile_not (fun n => !w.st.eligible w.bound n) l
    rw [show l.dropWhile (fun n => !w.st.eligible w.bound n) = n :: rest from h] at hd
    simpa using hd

/-- With an eligible FLEX station the step finds one to serve. -/
theorem flexReady_ne_nil {w : PassWork} {n : Fin 48} (hc : (w.st.stn n).host.cls = .flex)
    (hn : w.st.eligible w.bound n = true) : w.flexReady ≠ [] := by
  unfold PassWork.flexReady
  generalize hv : w.takeFlex.dropFlex = v
  have hvn : (v.st.stn n).host.cls = .flex ∧ v.st.eligible v.bound n = true := by
    rw [← hv, PassWork.dropFlex, takeFlex_eq w]
    exact ⟨hc, hn⟩
  unfold PassWork.takeFlex
  split
  · exact List.ne_nil_of_mem (mem_snapshot.mpr hvn)
  · next h => simpa using h

/-- A FLEX step moves the snapshot, and makes one offer if the snapshot has a front (R85). -/
theorem flexStep_eq (w : PassWork) :
    (w.flexReady = [] ∧ w.flexStep = w.setFlex []) ∨
      ∃ n rest a, w.flexReady = n :: rest ∧
        w.flexStep = { ((w.setFlex rest).offer n).1 with
          st := { ((w.setFlex rest).offer n).1.st with allocator := a } } := by
  have h := flexReady_eq w
  cases hr : w.flexReady with
  | nil =>
    left
    refine ⟨rfl, ?_⟩
    rw [hr] at h
    unfold PassWork.flexStep
    simp only [h]
    rfl
  | cons n rest =>
    right
    rw [hr] at h
    refine ⟨n, rest, { ((w.setFlex rest).offer n).1.st.allocator with flexPtr := n + 1 }, rfl, ?_⟩
    unfold PassWork.flexStep
    simp only [h]
    rfl

theorem flexStep_steps {w : PassWork} (hh : 0 < w.h) : ReflTransGen PassStep w w.flexStep := by
  rcases flexStep_eq w with ⟨-, h⟩ | ⟨n, rest, a, hr, h⟩
  · rw [h]
    exact .single (.moved w _)
  · rw [h]
    have hn : (w.setFlex rest).st.eligible (w.setFlex rest).bound n = true :=
      eligible_flexReady (w := w) hr
    exact ((ReflTransGen.single (.moved w { w.st.allocator with flexSnapshot := rest })).tail (offer_step hn hh)).tail
      (.moved _ a)

theorem round_steps {w : PassWork} : ReflTransGen PassStep w w.round := by
  unfold PassWork.round
  dsimp only
  split
  · next hh => exact (firmPart_steps w).trans (flexStep_steps hh)
  · exact firmPart_steps w

theorem rounds_steps (fuel : Nat) (w : PassWork) : ReflTransGen PassStep w (rounds fuel w) := by
  induction fuel generalizing w with
  | zero => exact .refl
  | succ k ih =>
    unfold rounds
    split
    · exact round_steps.trans (ih _)
    · exact .refl

/-- A grant pass is a run of offers (R79). -/
theorem grantPass_steps (s : State) (l : List (Fin 48)) :
    ReflTransGen PassStep ⟨s, s.headroom, [], l⟩ (grantPass s l) := rounds_steps _ _

/-- What every step of a pass keeps, a run of them keeps. -/
theorem PassStep.run_keeps {P : PassWork → Prop} (h : ∀ w w', PassStep w w' → P w → P w') {w w' : PassWork}
    (hs : ReflTransGen PassStep w w') (hw : P w) : P w' := by
  induction hs with
  | refl => exact hw
  | tail _ hstep ih => exact h _ _ hstep ih

/-! ### What a step of a pass keeps -/

theorem PassStep.ungranted {w w' : PassWork} (h : PassStep w w') : w'.st.ungranted = w.st.ungranted := by
  cases h with
  | moved a => rfl
  | bound n b => exact ungranted_setStn rfl
  | given n b _ _ _ _ r hg => exact ungranted_setStn (hg ▸ rfl)

@[simp] theorem ungranted_grantPass (s : State) (l : List (Fin 48)) :
    (grantPass s l).st.ungranted = s.ungranted :=
  PassStep.run_keeps (P := fun w => w.st.ungranted = s.ungranted) (fun _ _ h e => h.ungranted.trans e)
    (grantPass_steps s l) rfl

/-- Offers go to ACTIVE stations alone: any other keeps its record. -/
theorem PassStep.stn_of_not_active {w w' : PassWork} (h : PassStep w w') {m : Fin 48}
    (hm : (w.st.stn m).state ≠ .active) : w'.st.stn m = w.st.stn m := by
  cases h with
  | moved a => rfl
  | bound n b hn =>
    have : m ≠ n := fun e => hm (e ▸ ((eligible_iff _ _ _).mp hn).1)
    exact stn_setStn_ne _ this _
  | given n b hn =>
    have : m ≠ n := fun e => hm (e ▸ ((eligible_iff _ _ _).mp hn).1)
    exact stn_setStn_ne _ this _

theorem stn_grantPass_of_not_active {s : State} {l : List (Fin 48)} {m : Fin 48} (hm : (s.stn m).state ≠ .active) :
    (grantPass s l).st.stn m = s.stn m :=
  PassStep.run_keeps (P := fun w => w.st.stn m = s.stn m)
    (fun _ _ h e => (h.stn_of_not_active (e ▸ hm)).trans e) (grantPass_steps s l) rfl

/-- The list of changes takes a station in and drops none. -/
@[simp] theorem mem_noteChange {l : List (Fin 48)} {n m : Fin 48} : m ∈ noteChange l n ↔ m = n ∨ m ∈ l := by
  unfold noteChange
  split
  · next h =>
    have : n ∈ l := by simpa using h
    exact ⟨.inr, fun h => h.elim (fun e => e ▸ this) id⟩
  · simp [or_comm]

end Sys2Proof.Machine
end

section
/-!
SUPPORT. The sheds an event calls for as a run of cuts (R101, R103, R110), and the whole of what the allocator does at the end of
an event: `allocate` by what it leaves alone, and by what it is where no shed is called for.
-/

namespace Sys2Proof.Machine

open Relation (ReflTransGen)

/-! ### The sheds as a run of cuts -/

/-- One step of the sheds, on the state and the stations changed so far: the allocator's own record moves on, a grant above 0 kW
is cut and noted, or FIRM_CUT is raised (R100, R103, R107). -/
inductive CutStep : State × List (Fin 48) → State × List (Fin 48) → Prop where
  | moved (w : State × List (Fin 48)) (a : Allocator) : CutStep w ({ w.1 with allocator := a }, w.2)
  | cut (w : State × List (Fin 48)) (n : Fin 48) (k : Nat) (hg : 0 < (w.1.stn n).grantKw) :
      CutStep w (w.1.updStn n fun r => { r with grantKw := r.grantKw - k }, noteChange w.2 n)
  | raised (w : State × List (Fin 48)) (n : Fin 48) : CutStep w (w.1.raise .firmCut n.val, w.2)

/-- A stage takes no more than the grant (R105 to R107). -/
theorem cuttable_le (g : ShedStage) (r : Station) : g.cuttable r ≤ r.grantKw := by
  unfold ShedStage.cuttable
  split <;> omega

theorem cutAt_steps (w : ShedWork) (c : ShedScope) (g : ShedStage) {n : Fin 48} (h : 0 < g.cuttable (w.st.stn n)) :
    ReflTransGen CutStep (w.st, w.changed) ((w.cutAt c g n).st, (w.cutAt c g n).changed) := by
  have hcut := CutStep.cut (w.st, w.changed) n (c.cut g w.st n) (lt_of_lt_of_le h (cuttable_le _ _))
  unfold ShedWork.cutAt
  dsimp only
  split
  · exact .tail (.single hcut) (.raised _ n)
  · exact .single hcut

/-- The station a walk cuts next is one the shed reaches and the stage may cut (R101). -/
theorem nextCut_some {c : ShedScope} {g : ShedStage} {s : State} {p n : Fin 48} (h : nextCut c g s p = some n) :
    c.reaches s n = true ∧ 0 < g.cuttable (s.stn n) := by
  simpa using List.find?_some h

theorem shedWalk_steps (fuel : Nat) (c : ShedScope) (g : ShedStage) (p : Fin 48) (w : ShedWork) :
    ReflTransGen CutStep (w.st, w.changed) ((shedWalk fuel c g p w).st, (shedWalk fuel c g p w).changed) := by
  induction fuel generalizing p w with
  | zero => exact .refl
  | succ k ih =>
    unfold shedWalk
    split
    · exact .refl
    · split
      · exact .refl
      · next n hn => exact (cutAt_steps w c g (nextCut_some hn).2).trans (ih _ _)

theorem stage_steps (w : ShedWork) (c : ShedScope) (g : ShedStage) :
    ReflTransGen CutStep (w.st, w.changed) ((w.stage c g).st, (w.stage c g).changed) :=
  (shedWalk_steps _ c g _ { w with last := none }).tail (.moved _ _)

theorem shed_steps (c : ShedScope) (s : State) (l : List (Fin 48)) :
    ReflTransGen CutStep (s, l) ((shed c s l).st, (shed c s l).changed) :=
  ((stage_steps ⟨s, l, none, []⟩ c .flex).trans (stage_steps _ c .firmAboveFloor)).trans (stage_steps _ c .firm)

/-- The branch sheds of a list of branches, in its order (R110). -/
def branchSheds (l : List (Fin 6)) (w : State × List (Fin 48)) : State × List (Fin 48) :=
  l.foldl (fun w b =>
    if w.1.overLimit b then ((shed (.branch b) w.1 w.2).st, (shed (.branch b) w.1 w.2).changed) else w) w

theorem sheds_eq (s : State) :
    sheds s =
      let w := branchSheds allBranches (s, [])
      if w.1.capacity < w.1.sumGrants then ((shed .plant w.1 w.2).st, (shed .plant w.1 w.2).changed) else w := by
  unfold sheds branchSheds
  dsimp only

theorem branchSheds_steps (l : List (Fin 6)) (w : State × List (Fin 48)) : ReflTransGen CutStep w (branchSheds l w) := by
  unfold branchSheds
  induction l generalizing w with
  | nil => exact .refl
  | cons b l ih =>
    rw [List.foldl_cons]
    refine .trans ?_ (ih _)
    split
    · exact shed_steps _ _ _
    · exact .refl

/-- The sheds of an event are a run of cuts (R103). -/
theorem sheds_steps (s : State) : ReflTransGen CutStep (s, []) (sheds s) := by
  have h := branchSheds_steps allBranches (s, [])
  rw [sheds_eq]
  generalize branchSheds allBranches (s, []) = w at h ⊢
  dsimp only
  split
  · exact h.trans (shed_steps _ _ _)
  · exact h

theorem branchSheds_of_met {l : List (Fin 6)} {w : State × List (Fin 48)} (h : ∀ b ∈ l, w.1.overLimit b = false) :
    branchSheds l w = w := by
  unfold branchSheds
  induction l with
  | nil => rfl
  | cons b l ih =>
    simp only [List.mem_cons, forall_eq_or_imp] at h
    rw [List.foldl_cons, h.1]
    exact ih h.2

/-- Where none is called for, no shed cuts (R103, R108). -/
theorem sheds_of_not_called {s : State} (h : s.shedCalled = false) : sheds s = (s, []) := by
  simp only [State.shedCalled, Bool.or_eq_false_iff, List.any_eq_false, decide_eq_false_iff_not, Bool.not_eq_true] at h
  rw [sheds_eq, branchSheds_of_met fun b hb => h.1 b hb]
  exact if_neg h.2

/-- Lawful caps and grants call for no shed (R64, R104). -/
theorem shedCalled_of_lawful {s : State} (hc : s.capsLawful) (hg : s.sumGrants ≤ s.capacity) : s.shedCalled = false := by
  have hb : ∀ b, s.overLimit b = false := by
    intro b
    by_cases hw : (s.br b).settings.window.isSome = true
    · have := hc b hw
      simp only [State.overLimit, hw, Bool.true_and, decide_eq_false_iff_not]
      omega
    · simp [State.overLimit, hw]
  simp [State.shedCalled, hb, hg]

/-- What every step of the sheds keeps, a run of them keeps. -/
theorem CutStep.run_keeps {P : State × List (Fin 48) → Prop} (h : ∀ w w', CutStep w w' → P w → P w')
    {w w' : State × List (Fin 48)} (hs : ReflTransGen CutStep w w') (hw : P w) : P w' := by
  induction hs with
  | refl => exact hw
  | tail _ hstep ih => exact h _ _ hstep ih

/-! ### Raising a fault -/

@[simp] theorem stations_raise (s : State) (k : FaultKind) (x : Nat) : (s.raise k x).stations = s.stations := by
  unfold State.raise
  split
  · rfl
  · split
    · dsimp only; split <;> rfl
    · rfl

@[simp] theorem branches_raise (s : State) (k : FaultKind) (x : Nat) : (s.raise k x).branches = s.branches := by
  unfold State.raise
  split
  · rfl
  · split
    · dsimp only; split <;> rfl
    · rfl

@[simp] theorem stn_raise (s : State) (k : FaultKind) (x : Nat) (n : Fin 48) : (s.raise k x).stn n = s.stn n := by
  simp only [State.stn, stations_raise]

@[simp] theorem br_raise (s : State) (k : FaultKind) (x : Nat) (b : Fin 6) : (s.raise k x).br b = s.br b := by
  simp only [State.br, branches_raise]

/-! ### What the sheds and the allocator leave alone -/

/-- The state without its fault list and its link. -/
def State.unraised (s : State) : State := { s with faults := State.reset.faults, link := State.reset.link }

@[simp] theorem unraised_notify (s : State) (x : Notice) : (s.notify x).unraised = s.unraised := rfl

@[simp] theorem unraised_raise (s : State) (k : FaultKind) (x : Nat) : (s.raise k x).unraised = s.unraised := by
  unfold State.raise
  split
  · rfl
  · split
    · dsimp only; split <;> rfl
    · rfl

theorem ungranted_unraised (s : State) : s.unraised.ungranted = s.ungranted.unraised := rfl

theorem CutStep.unshed {w w' : State × List (Fin 48)} (h : CutStep w w') :
    w'.1.ungranted.unraised = w.1.ungranted.unraised := by
  cases h with
  | moved a => rfl
  | cut n k hg => exact congrArg State.unraised (ungranted_updStn fun _ => rfl)
  | raised n => rw [← ungranted_unraised, unraised_raise, ungranted_unraised]

theorem unshed_sheds (s : State) : (sheds s).1.ungranted.unraised = s.ungranted.unraised :=
  CutStep.run_keeps (P := fun w => w.1.ungranted.unraised = s.ungranted.unraised) (fun _ _ h e => h.unshed.trans e)
    (sheds_steps s) rfl

/-- The allocator writes grants, the figures that follow them, the queues and its own record, and raises FIRM_CUT (R78). -/
theorem unshed_allocate (e : Event) : (allocate e).ungranted.unraised = e.st.ungranted.unraised := by
  unfold allocate
  dsimp only
  split <;> simp only [ungranted_handChanges, ungranted_grantPass, unshed_sheds]

/-- Where no shed is called for, the allocator raises no fault. -/
theorem ungranted_allocate {e : Event} (h : e.st.shedCalled = false) : (allocate e).ungranted = e.st.ungranted := by
  unfold allocate
  simp only [sheds_of_not_called h]
  split <;> simp only [ungranted_handChanges, ungranted_grantPass]

/-- A station's record but for its grant and what follows it, through the allocator. -/
theorem stn_allocate (e : Event) (n : Fin 48) : ((allocate e).stn n).ungranted = (e.st.stn n).ungranted := by
  rw [← stn_ungranted, ← stn_ungranted]
  exact congrArg (fun s => s.stn n) (unshed_allocate e)

/-- A branch's record but for its queue, through the allocator. -/
theorem br_allocate (e : Event) (b : Fin 6) : ((allocate e).br b).ungranted = (e.st.br b).ungranted := by
  rw [← br_ungranted, ← br_ungranted]
  exact congrArg (fun s => s.br b) (unshed_allocate e)

/-- With no pass and no shed called for, the allocator does nothing. -/
theorem allocate_of_quiet {e : Event} (hp : e.pass = false) (h : e.st.shedCalled = false) : allocate e = e.st := by
  unfold allocate
  simp only [sheds_of_not_called h, hp]
  rfl

/-! ### A station that holds no grant and is not ACTIVE -/

/-- A cut leaves a station without a grant as it was. -/
theorem CutStep.stn_of_no_grant {w w' : State × List (Fin 48)} (h : CutStep w w') {m : Fin 48}
    (hm : (w.1.stn m).grantKw = 0) : w'.1.stn m = w.1.stn m := by
  cases h with
  | moved a => rfl
  | cut n k hg =>
    have : m ≠ n := fun e => by rw [e] at hm; omega
    exact stn_setStn_ne _ this _
  | raised n => exact stn_raise _ _ _ _

theorem stn_sheds_of_no_grant {s : State} {m : Fin 48} (hm : (s.stn m).grantKw = 0) : (sheds s).1.stn m = s.stn m :=
  CutStep.run_keeps (P := fun w => w.1.stn m = s.stn m) (fun _ _ h e => (h.stn_of_no_grant (e ▸ hm)).trans e)
    (sheds_steps s) rfl

/-- The allocator leaves the record of a station alone that holds no grant and is not ACTIVE (R75, R91). -/
theorem stn_allocate_of_idle {e : Event} {m : Fin 48} (hg : (e.st.stn m).grantKw = 0)
    (ha : (e.st.stn m).state ≠ .active) : (allocate e).stn m = e.st.stn m := by
  have hs := stn_sheds_of_no_grant hg
  unfold allocate
  generalize sheds e.st = w at hs ⊢
  dsimp only
  split
  · have hp := (stn_grantPass_of_not_active (l := w.2) (hs ▸ ha)).trans hs
    rw [stn_handChanges_of_eq _ (congrArg Station.grantKw hp), hp]
  · rw [stn_handChanges_of_eq _ (congrArg Station.grantKw hs), hs]

end Sys2Proof.Machine
end

section
/-!
SUPPORT. What a segment arbiter does when it looks for work (R128, R129), said once: `Arbitrated` holds what it leaves alone, every
grant among it, since a rotation that ends in OFFERING finds no grant to release; and what it does to the branch's transaction, its
read slot and its queue.
-/

namespace Sys2Proof.Machine

/-! ### The part that an arbiter leaves alone -/

/-- A station's record without what the arbiters write. -/
def Station.unsent (r : Station) : Station := { r with standing := .uninvolved, sincePoll := none }

/-- A branch's record without what its arbiter writes; the cap entries stand as if none were in flight. -/
def Branch.unsent (c : Branch) : Branch :=
  { c with
    queue := c.queue.map CapEntry.grounded
    read := none
    txn := none
    rotPos := 0
    rotCount := 0
    rotSent := false
    rotDemand := false
    capsInRow := 0
    rest := .live
    idleCount := 0 }

/-- The state without what the arbiters write. -/
def State.unsent (s : State) : State :=
  { s with
    stations := s.stations.map Station.unsent
    branches := s.branches.map Branch.unsent }

@[simp] theorem stn_unsent (s : State) (n : Fin 48) : s.unsent.stn n = (s.stn n).unsent := by
  simp [State.unsent, State.stn]

@[simp] theorem br_unsent (s : State) (b : Fin 6) : s.unsent.br b = (s.br b).unsent := by
  simp [State.unsent, State.br]

/-- Whether a station may be sent a POLL: it is ACTIVE or ATTACHING (R129). -/
def Station.polled (r : Station) : Prop := r.state = .active ∨ r.state = .attaching

/-- What the arbiter of a branch leaves alone from `s` to `t`: what `unsent` keeps, the other branches, the stations it does not
poll, and the rest state of a branch that is not LIVE. -/
structure Arbitrated (b : Fin 6) (s t : State) : Prop where
  unsent : t.unsent = s.unsent
  others : ∀ d, d ≠ b → t.br d = s.br d
  idle : ∀ n, ¬ (s.stn n).polled → t.stn n = s.stn n
  rest : (s.br b).rest ≠ .live → (t.br b).rest = (s.br b).rest

/-- A station's record but for what the arbiters write. -/
theorem stn_unsent_of_eq {s t : State} (h : t.unsent = s.unsent) (n : Fin 48) :
    (t.stn n).unsent = (s.stn n).unsent := by rw [← stn_unsent, h, stn_unsent]

theorem br_unsent_of_eq {s t : State} (h : t.unsent = s.unsent) (b : Fin 6) : (t.br b).unsent = (s.br b).unsent := by
  rw [← br_unsent, h, br_unsent]

theorem polled_of_unsent_eq {s t : State} (h : t.unsent = s.unsent) (n : Fin 48) :
    (t.stn n).polled ↔ (s.stn n).polled := by
  have : (t.stn n).state = (s.stn n).state := (congrArg Station.state (stn_unsent_of_eq h n) :)
  simp [Station.polled, this]

theorem Arbitrated.refl (b : Fin 6) (s : State) : Arbitrated b s s := ⟨rfl, fun _ _ => rfl, fun _ _ => rfl, fun _ => rfl⟩

theorem Arbitrated.trans {b : Fin 6} {s t u : State} (h : Arbitrated b s t) (k : Arbitrated b t u) : Arbitrated b s u where
  unsent := k.unsent.trans h.unsent
  others d hd := (k.others d hd).trans (h.others d hd)
  idle n hn := (k.idle n (mt (polled_of_unsent_eq h.unsent n).mp hn)).trans (h.idle n hn)
  rest hr := (k.rest (h.rest hr ▸ hr)).trans (h.rest hr)

theorem unsent_updBr {s : State} {b : Fin 6} {f : Branch → Branch} (h : (f (s.br b)).unsent = (s.br b).unsent) :
    (s.updBr b f).unsent = s.unsent := by
  have := map_set_of_eq s.branches b.val b.isLt (f (s.br b)) Branch.unsent h
  simp only [State.unsent, State.updBr, State.setBr, this]

/-- The arbiter's write of its own branch's record. -/
theorem Arbitrated.updBr {b : Fin 6} {s : State} {f : Branch → Branch} (h : (f (s.br b)).unsent = (s.br b).unsent)
    (hr : (s.br b).rest ≠ .live → (f (s.br b)).rest = (s.br b).rest) : Arbitrated b s (s.updBr b f) where
  unsent := unsent_updBr h
  others d hd := br_setBr_ne s hd _
  idle _ _ := rfl
  rest h := by rw [br_updBr_same, hr h]

/-- The arbiter's write of a polled station's record. -/
theorem Arbitrated.updStn {b : Fin 6} {s : State} {n : Fin 48} {f : Station → Station} (hn : (s.stn n).polled)
    (h : (f (s.stn n)).unsent = (s.stn n).unsent) : Arbitrated b s (s.updStn n f) where
  unsent := by
    have := map_set_of_eq s.stations n.val n.isLt (f (s.stn n)) Station.unsent h
    simp only [State.unsent, State.updStn, State.setStn, this]
  others _ _ := rfl
  idle m hm := stn_setStn_ne s (fun e : m = n => hm (by rw [e]; exact hn)) _
  rest _ := rfl

/-! ### The end of a rotation -/

/-- A rotation that has been judged and has ended, the rest not yet called for (R129, R143). -/
def State.rotated (s : State) (b : Fin 6) : State :=
  (s.judgeIdle b).updBr b fun c =>
    { c with
      rotCount := (c.rotCount + 1) % 8
      rotPos := windowBase c.settings.window
      rotSent := false
      rotDemand := false }

theorem endRotation_eq (s : State) (b : Fin 6) :
    s.endRotation b = if (s.rotated b).restCalled b then (s.rotated b).enterOffering b else s.rotated b := rfl

@[simp] theorem stn_judgeIdle (s : State) (b : Fin 6) (n : Fin 48) : (s.judgeIdle b).stn n = s.stn n := by
  unfold State.judgeIdle
  split <;> rfl

@[simp] theorem stn_rotated (s : State) (b : Fin 6) (n : Fin 48) : (s.rotated b).stn n = s.stn n := stn_judgeIdle s b n

theorem rotated_arbitrated (s : State) (b : Fin 6) : Arbitrated b s (s.rotated b) := by
  have h : Arbitrated b s (s.judgeIdle b) := by
    unfold State.judgeIdle
    split
    · exact .updBr rfl fun _ => rfl
    · exact .refl b s
  exact h.trans (.updBr rfl fun _ => rfl)

/-- The idle count of a rotation that has ended, in a LIVE branch (R143). -/
theorem idleCount_rotated (s : State) (b : Fin 6) (h : (s.br b).rest = .live) :
    ((s.rotated b).br b).idleCount = if s.rotationIdle b then min 255 ((s.br b).idleCount + 1) else 0 := by
  simp [State.rotated, State.judgeIdle, h]

theorem rest_rotated (s : State) (b : Fin 6) : ((s.rotated b).br b).rest = (s.br b).rest := by
  unfold State.rotated State.judgeIdle
  split <;> simp

/-- Whether a window holds a station number looks at the settings alone. -/
theorem inWindow_of_settings {s t : State} {b : Fin 6} (h : (t.br b).settings = (s.br b).settings) (n : Fin 48) :
    t.inWindow b n = s.inWindow b n := by simp [State.inWindow, h]

theorem windowStations_of_settings {s t : State} {b : Fin 6} (h : (t.br b).settings = (s.br b).settings) :
    t.windowStations b = s.windowStations b :=
  List.filter_congr fun n _ => inWindow_of_settings h n

theorem activeIn_of_eq {s t : State} {b : Fin 6} (h : (t.br b).settings = (s.br b).settings)
    (hs : ∀ n, (t.stn n).state = (s.stn n).state) : t.activeIn b = s.activeIn b := by
  simp [State.activeIn, windowStations_of_settings h, hs]

theorem mem_activeIn {s : State} {b : Fin 6} {n : Fin 48} :
    n ∈ s.activeIn b ↔ s.inWindow b n = true ∧ (s.stn n).state = .active := by
  simp [State.activeIn, State.windowStations, allStations, and_comm]

theorem settings_of_unsent_eq {s t : State} (h : t.unsent = s.unsent) (b : Fin 6) :
    (t.br b).settings = (s.br b).settings := (congrArg Branch.settings (br_unsent_of_eq h b) :)

/-- Automatic rest is called for only where no ACTIVE station of the window holds a grant: its rotation was idle (R143, R144). -/
theorem no_grant_of_restCalled {s : State} {b : Fin 6} (h : (s.rotated b).restCalled b = true) {n : Fin 48}
    (hn : n ∈ (s.rotated b).activeIn b) : ((s.rotated b).stn n).grantKw = 0 := by
  simp only [State.restCalled, Bool.and_eq_true, decide_eq_true_eq] at h
  obtain ⟨⟨⟨hlive, hpos⟩, hle⟩, -⟩ := h
  rw [rest_rotated] at hlive
  have hact : (s.rotated b).activeIn b = s.activeIn b :=
    activeIn_of_eq (settings_of_unsent_eq (rotated_arbitrated s b).unsent b) fun n => by rw [stn_rotated]
  have hidle : s.rotationIdle b = true := by
    by_contra hno
    rw [idleCount_rotated s b hlive, if_neg hno] at hle
    omega
  simp only [State.rotationIdle, Bool.and_eq_true, List.all_eq_true, decide_eq_true_eq] at hidle
  rw [stn_rotated]
  exact (hidle.1 n (hact ▸ hn)).2.1

/-- Releases of stations that hold no grant do nothing (R92). -/
theorem foldl_release_of_no_grant {l : List (Fin 48)} {s : State} (h : ∀ n ∈ l, (s.stn n).grantKw = 0) :
    l.foldl (fun s n => s.release n 0) s = s := by
  induction l with
  | nil => rfl
  | cons n l ih =>
    simp only [List.mem_cons, forall_eq_or_imp] at h
    rw [List.foldl_cons, State.release, if_neg (by omega)]
    exact ih h.2

theorem foldl_setStanding_arbitrated (b : Fin 6) (t : Standing) {l : List (Fin 48)} {s : State}
    (h : ∀ n ∈ l, (s.stn n).polled) : Arbitrated b s (l.foldl (fun s n => s.setStanding n t) s) := by
  induction l generalizing s with
  | nil => exact .refl b s
  | cons n l ih =>
    simp only [List.mem_cons, forall_eq_or_imp] at h
    have h1 : Arbitrated b s (s.setStanding n t) := .updStn h.1 rfl
    exact h1.trans (ih fun m hm => (polled_of_unsent_eq h1.unsent m).mpr (h.2 m hm))

@[simp] theorem stn_judgeOffering (s : State) (b : Fin 6) (n : Fin 48) : (s.judgeOffering b).stn n = s.stn n := by
  unfold State.judgeOffering
  split <;> rfl

theorem br_judgeOffering_ne (s : State) {b d : Fin 6} (h : d ≠ b) : (s.judgeOffering b).br d = s.br d := by
  unfold State.judgeOffering
  split
  · exact br_setBr_ne s h _
  · rfl

/-- A LIVE branch that enters OFFERING with no grant to release is arbitrated still. -/
theorem enterOffering_arbitrated {b : Fin 6} {s : State} (hl : (s.br b).rest = .live)
    (hg : ∀ n ∈ s.activeIn b, (s.stn n).grantKw = 0) : Arbitrated b s (s.enterOffering b) := by
  unfold State.enterOffering
  extract_lets act v w x
  have hv : Arbitrated b s v := .updBr rfl fun h => absurd hl h
  have hw : w = v := foldl_release_of_no_grant hg
  have hx : Arbitrated b w x := foldl_setStanding_arbitrated b _ fun n hn => by
    rw [hw]
    exact .inl (mem_activeIn.mp hn).2
  have h := hv.trans (hw ▸ hx)
  refine ⟨?_, fun d hd => (br_judgeOffering_ne x hd).trans (h.others d hd),
    fun n hn => (stn_judgeOffering x b n).trans (h.idle n hn), fun hr => absurd hl hr⟩
  rw [← h.unsent, State.judgeOffering]
  split
  · exact unsent_updBr rfl
  · rfl

theorem endRotation_arbitrated (s : State) (b : Fin 6) : Arbitrated b s (s.endRotation b) := by
  rw [endRotation_eq]
  split
  · next h =>
    have hl : ((s.rotated b).br b).rest = .live := by
      simp only [State.restCalled, Bool.and_eq_true, decide_eq_true_eq] at h
      exact h.1.1.1
    exact (rotated_arbitrated s b).trans (enterOffering_arbitrated hl fun n hn => no_grant_of_restCalled h hn)
  · exact rotated_arbitrated s b

/-! ### The whole of an arbiter's turn -/

/-- A branch's record without what the end of a rotation writes. -/
def Branch.unrotated (c : Branch) : Branch :=
  { c with rotPos := 0, rotCount := 0, rotSent := false, rotDemand := false, rest := .live, idleCount := 0 }

theorem unrotated_foldl_setStanding (b : Fin 6) (t : Standing) (l : List (Fin 48)) (s : State) :
    (l.foldl (fun s n => s.setStanding n t) s).br b = s.br b :=
  foldl_keeps (fun s : State => s.br b) (fun s n => s.setStanding n t) (fun _ _ => rfl) l s

theorem unrotated_rotated (s : State) (b : Fin 6) : ((s.rotated b).br b).unrotated = (s.br b).unrotated := by
  unfold State.rotated State.judgeIdle
  split <;> simp [Branch.unrotated]

/-- The end of a rotation leaves the queue, the read slot, the transaction and the run of CAPs alone (R129). -/
theorem unrotated_endRotation (s : State) (b : Fin 6) : ((s.endRotation b).br b).unrotated = (s.br b).unrotated := by
  rw [endRotation_eq]
  split
  · next h =>
    unfold State.enterOffering
    extract_lets act v w x
    have hw : w = v := foldl_release_of_no_grant fun n hn => no_grant_of_restCalled h hn
    have hx : x.br b = w.br b := unrotated_foldl_setStanding b _ act w
    have hv : (v.br b).unrotated = (s.br b).unrotated := by
      rw [← unrotated_rotated s b]
      simp [v, Branch.unrotated]
    rw [← hv, ← hw, ← hx, State.judgeOffering]
    split
    · simp [Branch.unrotated]
    · rfl
  · exact unrotated_rotated s b

theorem unrotated_passRotation (s : State) (b : Fin 6) : ((s.passRotation b).br b).unrotated = (s.br b).unrotated := by
  unfold State.passRotation
  split
  · exact unrotated_endRotation s b
  · rfl

theorem passRotation_arbitrated (s : State) (b : Fin 6) : Arbitrated b s (s.passRotation b) := by
  unfold State.passRotation
  split
  · exact endRotation_arbitrated s b
  · exact .refl b s

theorem send_arbitrated (s : State) (b : Fin 6) (c : Choice) : Arbitrated b s (s.send b c) := by
  cases c with
  | cap =>
    show Arbitrated b s (s.sendCap b)
    unfold State.sendCap
    split
    · exact .refl b s
    · next e rest hq => exact .updBr (by simp [Branch.unsent, hq]) fun _ => rfl
  | rest n => exact Arbitrated.updBr (f := fun r => r.start n (restFrame (s.stn n).standing)) rfl fun _ => rfl
  | meter =>
    show Arbitrated b s (s.sendMeterAsk b)
    unfold State.sendMeterAsk
    split
    · exact .updBr rfl fun _ => rfl
    · exact .refl b s
  | rotation n =>
    show Arbitrated b s (s.sendRotation b n)
    unfold State.sendRotation
    extract_lets polls v
    have hv : Arbitrated b s v := .updBr rfl fun _ => rfl
    split
    · next h =>
      refine hv.trans (.updStn ?_ rfl)
      show (s.stn n).polled
      simpa [polls, Station.polled] using h
    · exact hv

/-- The arbiter leaves a busy segment alone, and a disabled branch (R128). -/
theorem arbitrate_of_busy {s : State} {b : Fin 6} (h : (s.br b).txn ≠ none) : s.arbitrate b = s := by
  have : (s.br b).txn.isNone = false := by simpa [Option.isSome_iff_ne_none] using h
  simp [State.arbitrate, this]

theorem arbitrate_of_disabled {s : State} {b : Fin 6} (h : (s.br b).settings.window = none) : s.arbitrate b = s := by
  simp [State.arbitrate, h]

/-- The arbiter's turn on a free segment of an enabled branch (R128). -/
theorem arbitrate_of_free {s : State} {b : Fin 6} (hw : (s.br b).settings.window ≠ none) (ht : (s.br b).txn = none) :
    s.arbitrate b =
      match (s.passRotation b).choose b with
      | some c => (s.passRotation b).send b c
      | none => s.passRotation b :=
  if_pos (by simp [Option.isSome_iff_ne_none.mpr hw, ht])

/-- What an arbiter's turn can be: nothing, or what the rotation's judging leaves, or a transaction sent from there. -/
theorem arbitrate_cases (s : State) (b : Fin 6) :
    (s.arbitrate b = s ∧ ((s.br b).settings.window = none ∨ (s.br b).txn ≠ none)) ∨
      ((s.br b).settings.window ≠ none ∧ (s.br b).txn = none ∧
        (((s.passRotation b).choose b = none ∧ s.arbitrate b = s.passRotation b) ∨
          ∃ c, (s.passRotation b).choose b = some c ∧ s.arbitrate b = (s.passRotation b).send b c)) := by
  by_cases hw : (s.br b).settings.window = none
  · exact .inl ⟨arbitrate_of_disabled hw, .inl hw⟩
  by_cases ht : (s.br b).txn = none
  · refine .inr ⟨hw, ht, ?_⟩
    rw [arbitrate_of_free hw ht]
    cases (s.passRotation b).choose b with
    | none => exact .inl ⟨rfl, rfl⟩
    | some c => exact .inr ⟨c, rfl, rfl⟩
  · exact .inl ⟨arbitrate_of_busy ht, .inr ht⟩

theorem arbitrate_arbitrated (s : State) (b : Fin 6) : Arbitrated b s (s.arbitrate b) := by
  rcases arbitrate_cases s b with ⟨h, -⟩ | ⟨-, -, ⟨-, h⟩ | ⟨c, -, h⟩⟩
  · rw [h]; exact .refl b s
  · rw [h]; exact passRotation_arbitrated s b
  · rw [h]; exact (passRotation_arbitrated s b).trans (send_arbitrated _ b c)

/-! ### Every arbiter in turn -/

@[simp] theorem unsent_arbitrateAll (s : State) : s.arbitrateAll.unsent = s.unsent :=
  foldl_keeps State.unsent _ (fun s b => (arbitrate_arbitrated s b).unsent) _ s

theorem stn_arbitrateAll_of_idle {s : State} {n : Fin 48} (h : ¬ (s.stn n).polled) : s.arbitrateAll.stn n = s.stn n := by
  unfold State.arbitrateAll
  generalize allBranches = l
  induction l generalizing s with
  | nil => rfl
  | cons b l ih =>
    have hb := arbitrate_arbitrated s b
    rw [List.foldl_cons, ih (mt (polled_of_unsent_eq hb.unsent n).mp h), hb.idle n h]

/-- A run of arbiters that leaves a branch out leaves its record alone. -/
theorem br_foldl_arbitrate_of_not_mem {l : List (Fin 6)} {s : State} {b : Fin 6} (h : b ∉ l) :
    (l.foldl State.arbitrate s).br b = s.br b := by
  induction l generalizing s with
  | nil => rfl
  | cons d l ih =>
    simp only [List.mem_cons, not_or] at h
    rw [List.foldl_cons, ih h.2, (arbitrate_arbitrated s d).others b h.1]

/-- A branch's record after every arbiter is the one its own arbiter leaves, from a state in which its record is still what it
was and nothing has changed but what arbiters write. -/
theorem br_arbitrateAll (s : State) (b : Fin 6) :
    ∃ v : State, v.unsent = s.unsent ∧ v.br b = s.br b ∧ s.arbitrateAll.br b = (v.arbitrate b).br b := by
  obtain ⟨l, m, hl⟩ := List.append_of_mem (show b ∈ allBranches by simp [allBranches])
  have hnd : (l ++ b :: m).Nodup := hl ▸ List.nodup_finRange 6
  have hbl : b ∉ l := fun h => List.disjoint_of_nodup_append hnd h List.mem_cons_self
  have hbm : b ∉ m := (List.nodup_cons.mp (List.nodup_append.mp hnd).2.1).1
  refine ⟨l.foldl State.arbitrate s, foldl_keeps State.unsent _ (fun s b => (arbitrate_arbitrated s b).unsent) l s,
    br_foldl_arbitrate_of_not_mem hbl, ?_⟩
  rw [State.arbitrateAll, hl, List.foldl_append, List.foldl_cons, br_foldl_arbitrate_of_not_mem hbm]

theorem rest_arbitrateAll {s : State} {b : Fin 6} (h : (s.br b).rest ≠ .live) :
    (s.arbitrateAll.br b).rest = (s.br b).rest := by
  obtain ⟨v, -, hv, hb⟩ := br_arbitrateAll s b
  rw [hb, (arbitrate_arbitrated v b).rest (hv ▸ h), hv]

/-- A branch with a transaction under way keeps its record. -/
theorem br_arbitrateAll_of_busy {s : State} {b : Fin 6} (h : (s.br b).txn ≠ none) : s.arbitrateAll.br b = s.br b := by
  obtain ⟨v, -, hv, hb⟩ := br_arbitrateAll s b
  rw [hb, arbitrate_of_busy (hv ▸ h), hv]

/-! ### The transaction, the read slot and the queue -/

/-- The frame of a rotation slot is a POLL to a station that is polled, and otherwise a PROBE (R129). -/
theorem txn_sendRotation (s : State) (b : Fin 6) (n : Fin 48) :
    ((s.sendRotation b n).br b).txn =
      some ⟨n, if decide ((s.stn n).state = .active) || decide ((s.stn n).state = .attaching) then .poll else .probe, false⟩ := by
  unfold State.sendRotation
  dsimp only
  split <;> simp [Branch.start]

/-- A transaction just started is not abandoned. -/
theorem txn_send {s : State} {b : Fin 6} {c : Choice} (h : (s.br b).txn = none) {x : Txn}
    (hx : ((s.send b c).br b).txn = some x) : x.abandoned = false := by
  cases c with
  | cap =>
    change ((s.sendCap b).br b).txn = some x at hx
    unfold State.sendCap at hx
    split at hx
    · rw [h] at hx; cases hx
    · simp only [br_updBr_same, Option.some.injEq] at hx
      rw [← hx, CapEntry.txn]
      split <;> rfl
  | rest n =>
    simp only [State.send, br_updBr_same, Branch.start, Option.some.injEq] at hx
    rw [← hx]
  | meter =>
    change ((s.sendMeterAsk b).br b).txn = some x at hx
    unfold State.sendMeterAsk at hx
    split at hx
    · simp only [br_updBr_same, Branch.start, Option.some.injEq] at hx
      rw [← hx]
    · rw [h] at hx; cases hx
  | rotation n =>
    rw [State.send, txn_sendRotation, Option.some.injEq] at hx
    rw [← hx]

/-- A transaction that an arbiter starts is no abandoned one, and a disabled branch starts none (R127, R128). -/
theorem freed_arbitrateAll {s : State} {b : Fin 6} (h : (s.br b).txn = none) : (s.arbitrateAll.br b).freed := by
  obtain ⟨v, -, hv, hb⟩ := br_arbitrateAll s b
  rw [hb]
  rw [← hv] at h
  have hp : ((v.passRotation b).br b).txn = none := (congrArg Branch.txn (unrotated_passRotation v b) :).trans h
  have hset : ((v.arbitrate b).br b).settings = (v.br b).settings :=
    settings_of_unsent_eq (arbitrate_arbitrated v b).unsent b
  rcases arbitrate_cases v b with ⟨e, -⟩ | ⟨hw, -, ⟨-, e⟩ | ⟨c, -, e⟩⟩
  · rw [e]
    exact ⟨fun _ => h, fun x hx => by rw [h] at hx; cases hx⟩
  · rw [e]
    exact ⟨fun _ => hp, fun x hx => by rw [hp] at hx; cases hx⟩
  · refine ⟨fun hn => absurd (hset ▸ hn) hw, fun x hx => ?_⟩
    rw [e] at hx
    exact txn_send hp hx

end Sys2Proof.Machine
end

section
/-!
SUPPORT. The end of an event as a whole: the records it leaves are those the arbiters leave, a station that is neither ACTIVE nor
ATTACHING and holds no grant keeps its record, and with that the definition of a station by STN-DEF (R2, R3).
-/

namespace Sys2Proof.Machine

/-! ### Records at the end of an event -/

@[simp] theorem stations_settleStorage (s before : State) (t r : Bool) :
    (s.settleStorage before t r).stations = s.stations := by
  unfold State.settleStorage State.evalTank
  repeat' split
  all_goals rfl

@[simp] theorem branches_settleStorage (s before : State) (t r : Bool) :
    (s.settleStorage before t r).branches = s.branches := by
  unfold State.settleStorage State.evalTank
  repeat' split
  all_goals rfl

/-- The judging of the source and of the revert timer writes no record but its own, the fault list and the link (R158 to R164). -/
def State.unjudged (s : State) : State :=
  { s.unraised with pressure := { s.pressure with source := .hold, revertTimer := none } }

theorem unjudged_of_unraised {s t : State} (h : s.unraised = t.unraised) : s.unjudged = t.unjudged := by
  have hp : s.pressure = t.pressure := (congrArg State.pressure h :)
  simp only [State.unjudged, h, hp]

@[simp] theorem unjudged_raise (s : State) (k : FaultKind) (x : Nat) : (s.raise k x).unjudged = s.unjudged :=
  unjudged_of_unraised (unraised_raise s k x)

@[simp] theorem unjudged_setSource (s : State) (c : Source) : (s.setSource c).unjudged = s.unjudged := rfl
@[simp] theorem unjudged_setRevert (s : State) (t : Option Nat) : (s.setRevert t).unjudged = s.unjudged := rfl
@[simp] theorem unjudged_lock (s : State) (c : Source) : (s.lock c).unjudged = s.unjudged := rfl

@[simp] theorem unjudged_loseSource (s : State) (n : Option (Fin 48)) : (s.loseSource n).unjudged = s.unjudged := by
  unfold State.loseSource
  dsimp only
  split
  · rw [unjudged_raise, unjudged_setSource]
  · rfl

@[simp] theorem unjudged_judgeSource (s : State) (was : RefSettings) : (s.judgeSource was).unjudged = s.unjudged := by
  unfold State.judgeSource
  repeat' split
  all_goals simp

@[simp] theorem unjudged_judgeRevert (s : State) : s.judgeRevert.unjudged = s.unjudged := by
  unfold State.judgeRevert
  repeat' split
  all_goals simp

@[simp] theorem unjudged_judgePressure (s : State) (was : RefSettings) : (s.judgePressure was).unjudged = s.unjudged := by
  simp [State.judgePressure]

@[simp] theorem unjudged_judgeRelay (s : State) : s.judgeRelay.unjudged = s.unjudged := rfl

theorem unjudged_settle (s before : State) (t r : Bool) :
    (s.settle before t r).unjudged = (s.arbitrateAll.settleStorage before t r).unjudged := by
  simp [State.settle]

theorem stn_settle (s before : State) (t r : Bool) (n : Fin 48) :
    (s.settle before t r).stn n = s.arbitrateAll.stn n := by
  have h : (s.settle before t r).stations = (s.arbitrateAll.settleStorage before t r).stations :=
    (congrArg State.stations (unjudged_settle s before t r) :)
  simp only [State.stn, h, stations_settleStorage]

theorem br_settle (s before : State) (t r : Bool) (b : Fin 6) :
    (s.settle before t r).br b = s.arbitrateAll.br b := by
  have h : (s.settle before t r).branches = (s.arbitrateAll.settleStorage before t r).branches :=
    (congrArg State.branches (unjudged_settle s before t r) :)
  simp only [State.br, h, branches_settleStorage]

theorem stn_finish (e : Event) (before : State) (n : Fin 48) :
    (e.finish before).stn n = (allocate e).arbitrateAll.stn n := stn_settle _ _ _ _ n

theorem br_finish (e : Event) (before : State) (b : Fin 6) :
    (e.finish before).br b = (allocate e).arbitrateAll.br b := br_settle _ _ _ _ b

/-- A station that is neither ACTIVE nor ATTACHING and holds no grant has its record as the event left it. -/
theorem stn_finish_of_idle {e : Event} {before : State} {n : Fin 48} (hg : (e.st.stn n).grantKw = 0)
    (hp : ¬ (e.st.stn n).polled) : (e.finish before).stn n = e.st.stn n := by
  have h := stn_allocate_of_idle hg fun h => hp (.inl h)
  rw [stn_finish, stn_arbitrateAll_of_idle (h ▸ hp), h]

/-! ### The checks of STN-DEF (R2) -/

theorem classOfCode_eq_some {n : Nat} {c : ContractClass} : classOfCode n = some c ↔ n = c.code := by
  unfold classOfCode
  split <;> cases c <;> simp_all [ContractClass.code]

theorem dtModeOfCode_eq_some {n : Nat} {m : DtMode} : dtModeOfCode n = some m ↔ n = m.code := by
  unfold dtModeOfCode
  split <;> cases m <;> simp_all [DtMode.code]

/-- A capability set is sent in the four bits it has, and read back from them (Table 7-3). -/
theorem capsOfBits_code (o : Caps) : o.code < 16 ∧ capsOfBits o.code = o := by
  obtain ⟨r, t, m, i⟩ := o
  cases r <;> cases t <;> cases m <;> cases i <;> decide

theorem capsOfCode_eq_some {n : Nat} {o : Caps} : capsOfCode n = some o ↔ n = o.code := by
  have hbits : ∀ n < 16, (capsOfBits n).code = n := by decide
  unfold capsOfCode
  constructor
  · intro h
    split at h
    · next hn => rw [← Option.some.inj h, hbits n hn]
    · cases h
  · rintro rfl
    simp [capsOfBits_code]

/-- A STN-DEF whose fields pass every check of R2 is the frame of the fields it defines. -/
theorem hostFieldsOf_eq_some {f : StnDefFields} {h : HostFields} :
    hostFieldsOf f = some h ↔ h.inRange = true ∧ f = { h.asFrame 0 with station := f.station } := by
  obtain ⟨n, c, k, fl, fb, d, m, o⟩ := f
  obtain ⟨hc, hk, hfl, hfb, hd, hm, ho⟩ := h
  constructor
  · intro e
    unfold hostFieldsOf at e
    split at e
    · next c' m' o' ec em eo =>
      dsimp only at e
      split at e
      · next hr =>
        cases e
        refine ⟨hr, ?_⟩
        rw [classOfCode_eq_some] at ec
        rw [dtModeOfCode_eq_some] at em
        rw [capsOfCode_eq_some] at eo
        simp_all [HostFields.asFrame]
      · cases e
    · cases e
  · rintro ⟨hr, e⟩
    rw [e]
    exact hostFieldsOf_asFrame hr 0

/-- The ranges of Table 1-10 that R2 checks, one by one. -/
theorem inRange_iff (h : HostFields) :
    h.inRange = true ↔ 1 ≤ h.contractKw ∧ h.contractKw ≤ 20000 ∧ h.floorKw ≤ h.contractKw ∧
      (h.cls = .flex → h.floorKw = 0) ∧ h.fallbackKw ≤ h.contractKw ∧ 30 ≤ h.designDt ∧ h.designDt ≤ 150 := by
  obtain ⟨c, _⟩ := h
  cases c <;> simp [HostFields.inRange, within, and_assoc]

/-- A STN-DEF with a field out of range defines no fields (R2). -/
theorem hostFieldsOf_eq_none {f : StnDefFields}
    (h : f.contractKw = 0 ∨ 20000 < f.contractKw ∨ f.contractKw < f.floorKw ∨ (f.cls = 1 ∧ f.floorKw ≠ 0) ∨
      f.contractKw < f.fallbackKw ∨ f.designDt < 30 ∨ 150 < f.designDt ∨ 1 < f.cls ∨ 1 < f.dtMode ∨ 15 < f.offered) :
    hostFieldsOf f = none := by
  by_contra hne
  obtain ⟨g, hg⟩ := Option.ne_none_iff_exists'.mp hne
  obtain ⟨hr, hf⟩ := hostFieldsOf_eq_some.mp hg
  obtain ⟨h1, h2, h3, h4, h5, h6, h7⟩ := (inRange_iff g).mp hr
  have hcls : g.cls.code = 1 → g.cls = .flex := by cases g.cls <;> simp [ContractClass.code]
  have hc : g.cls.code ≤ 1 := by cases g.cls <;> decide
  have hm : g.dtMode.code ≤ 1 := by cases g.dtMode <;> decide
  have ho := (capsOfBits_code g.offered).1
  rw [hf] at h
  simp only [HostFields.asFrame] at h
  rcases h with h | h | h | ⟨h, h'⟩ | h | h | h | h | h | h
  · omega
  · omega
  · omega
  · exact h' (h4 (hcls h))
  all_goals omega

/-- A STN-DEF whose codes and figures lie in range is the frame of fields in range (R2). -/
theorem exists_asFrame {f : StnDefFields} (hn : f.station ≤ 47) (h1 : 1 ≤ f.contractKw) (h2 : f.contractKw ≤ 20000)
    (h3 : f.floorKw ≤ f.contractKw) (h4 : f.cls = 1 → f.floorKw = 0) (h5 : f.fallbackKw ≤ f.contractKw)
    (h6 : 30 ≤ f.designDt) (h7 : f.designDt ≤ 150) (hc : f.cls ≤ 1) (hm : f.dtMode ≤ 1) (ho : f.offered ≤ 15) :
    ∃ (n : Fin 48) (h : HostFields), f = h.asFrame n ∧ h.inRange = true := by
  obtain ⟨n, c, k, fl, fb, d, m, o⟩ := f
  have hcls : ∃ x : ContractClass, c = x.code := by
    interval_cases c
    · exact ⟨.firm, rfl⟩
    · exact ⟨.flex, rfl⟩
  have hmode : ∃ x : DtMode, m = x.code := by
    interval_cases m
    · exact ⟨.enforced, rfl⟩
    · exact ⟨.tracking, rfl⟩
  have hcaps : ∃ x : Caps, o = x.code := by
    refine ⟨capsOfBits o, ?_⟩
    interval_cases o <;> rfl
  obtain ⟨c, rfl⟩ := hcls
  obtain ⟨m, rfl⟩ := hmode
  obtain ⟨o, rfl⟩ := hcaps
  refine ⟨⟨n, Nat.lt_succ_of_le hn⟩, ⟨c, k, fl, fb, d, m, o⟩, rfl, (inRange_iff _).mpr ⟨h1, h2, h3, ?_, h5, h6, h7⟩⟩
  rintro rfl
  exact h4 rfl

/-! ### STN-DEF for a VACANT station (R3) -/

theorem onStnDef_define {s : State} {n : Fin 48} {h : HostFields} (hr : h.inRange = true)
    (hv : (s.stn n).state = .vacant) :
    s.onStnDef (h.asFrame n) =
      ((s.event.map fun s => s.setStn n (Station.define h (rangeHolds s.isolation n.val))).finish s, .done []) := by
  have hn : stationOf (h.asFrame n).station = some n := stationOf_val n
  simp only [State.onStnDef, hn, hostFieldsOf_asFrame hr, if_pos hv, State.doneEmpty]

/-- A newly defined station is neither ACTIVE nor ATTACHING and holds no grant. -/
theorem define_idle (h : HostFields) (i : Bool) : ¬ (Station.define h i).polled ∧ (Station.define h i).grantKw = 0 := by
  cases i <;> simp [Station.define, Station.polled, Station.confirmAtDesign, Station.vacantRecord]

/-- The link of a ready state once a request has been answered, by the kept part (R179). -/
theorem answered_of_kept {s t : State} {k : Kept} {tag : Nat} {r : Reply} (hs : s.ready) (h : t.kept = k)
    (hl : k.link = { s.link.kept with phase := .replying false, replies := [(tag, r)] }) : t.answered tag r := by
  have hk : t.link.kept = { s.link.kept with phase := .replying false, replies := [(tag, r)] } :=
    (congrArg Kept.link h).trans hl
  exact ⟨(congrArg LinkKept.phase hk :), (congrArg LinkKept.replies hk :), (congrArg LinkKept.rx hk :).trans hs.2.2.1⟩

theorem stn_answeredOnly (s : State) (tag : Nat) (r : Reply) (n : Fin 48) :
    (State.answeredOnly { s with session := none } tag r).stn n = s.stn n := rfl

theorem br_answeredOnly (s : State) (tag : Nat) (r : Reply) (b : Fin 6) :
    (State.answeredOnly { s with session := none } tag r).br b = s.br b := rfl

/-- A STN-DEF in range for a VACANT station: the kept part, and the station's record whole. -/
theorem exec_stnDef_define {s : State} (tag : Nat) {n : Fin 48} {h : HostFields} (hs : s.ready) (hr : h.inRange = true)
    (hv : (s.stn n).state = .vacant) :
    ∃ t, exec (.stnDef tag (h.asFrame n)) s = .next t ∧
      t.kept = (s.afterRequest tag (.done [])).withStation n (Station.define h (rangeHolds s.isolation n.val)) ∧
      t.stn n = Station.define h (rangeHolds s.isolation n.val) := by
  have hk : ((s.event.map fun s => s.setStn n (Station.define h (rangeHolds s.isolation n.val))).finish s).kept =
      s.kept.withStation n (Station.define h (rangeHolds s.isolation n.val)) :=
    (kept_finish _ _).trans (kept_setStn_with _ _ _)
  obtain ⟨he, hkept⟩ := exec_request (c := .stnDef tag (h.asFrame n)) rfl hs (onStnDef_define hr hv) nofun nofun rfl rfl
    (congrArg Kept.link hk)
  obtain ⟨hi, hg⟩ := define_idle h (rangeHolds s.isolation n.val)
  refine ⟨_, he, ?_, ?_⟩
  · rw [hkept, hk]
    rfl
  · rw [stn_answeredOnly, stn_finish_of_idle] <;> rw [map_st, event_st, stn_setStn_same]
    · exact hg
    · exact hi

/-- Settles O28: the checks of R2, and the record R3 gives a VACANT station, which the end of the event leaves whole. -/
theorem stationsAreDefined : Obligations.StationsAreDefined := by
  refine ⟨fun s tag f hs => ⟨fun h => exec_refused rfl hs ?_, fun hn h1 h2 h3 h4 h5 h6 h7 hc hm ho => ?_⟩,
    fun s tag n h hs hr hv => ?_⟩
  · show s.onStnDef f = _
    rcases h with h | h
    · simp [State.onStnDef, stationOf_above h, State.refuse]
    · simp [State.onStnDef, hostFieldsOf_eq_none h, State.refuse]
  · obtain ⟨n, h, rfl, hr⟩ := exists_asFrame hn h1 h2 h3 h4 h5 h6 h7 hc hm ho
    refine ⟨n, h, rfl, hr, ?_⟩
    by_cases hv : (s.stn n).state = .vacant
    · obtain ⟨t, he, hk, ht⟩ := exec_stnDef_define tag hs hr hv
      refine ⟨t, he, answered_of_kept hs hk rfl, ?_⟩
      rw [ht]
      cases rangeHolds s.isolation n.val <;> rfl
    · obtain ⟨t, he, hk⟩ := stationsAreRedefined s tag n h hs hr hv
      refine ⟨t, he, answered_of_kept hs hk rfl, ?_⟩
      have hst := congrFun (congrArg Kept.stations hk) n
      simp only [if_true] at hst
      have hh := congrArg Station.host hst
      refine Eq.trans (b := (t.stn n).stable.host) rfl (hh.trans ?_)
      split <;> rfl
  · obtain ⟨t, he, hk, ht⟩ := exec_stnDef_define tag hs hr hv
    cases hi : rangeHolds s.isolation n.val
    · rw [hi] at hk ht
      exact ⟨t, he, hk, ht, rfl, rfl, rfl, rfl, rfl, rfl, rfl, rfl, rfl, rfl, rfl, rfl, rfl, rfl, rfl, nofun⟩
    · rw [hi] at hk ht
      exact ⟨t, he, hk, ht, rfl, rfl, rfl, rfl, rfl, rfl, rfl, rfl, rfl, rfl, rfl, rfl, rfl, rfl, rfl, fun _ => ⟨rfl, rfl⟩⟩

end Sys2Proof.Machine
end

section
/-!
SUPPORT. The storage command at the end of an event (R48 to R50), the fault list under a raise (R171), and the arbiters of a part
that has just started: none of its branches has more to send than a PROBE or a rest frame, and no station is polled. With these the
cold starts and the warm restart (R185, R186).
-/

namespace Sys2Proof.Machine

/-! ### The storage command (R48 to R50) -/

/-- The state without what the end of an event writes of the storage command. -/
def State.unstored (s : State) : State := { s with chargeAllowance := 0, lastTankCommand := none, busSent := [] }

@[simp] theorem unstored_settleStorage (s before : State) (t r : Bool) :
    (s.settleStorage before t r).unstored = s.unstored := by
  unfold State.settleStorage State.evalTank
  repeat' split
  all_goals rfl

/-- A command that has moved far enough from the last is one that R49 sends. -/
theorem tankSetDue_eq (step : Nat) (last now : TankCommand) :
    tankSetDue step last now = tankDue step (some last) now false := by
  rw [Bool.eq_iff_iff]
  simp only [tankSetDue, tankDue, Bool.or_eq_true, Bool.and_eq_true, decide_eq_true_eq]
  unfold apart
  constructor
  · rintro ((h | h) | h)
    · exact .inl h
    · exact .inr (by omega)
    · exact .inr (.inr (.inr h))
  · rintro (h | h | h | h)
    · exact .inl (.inl h)
    · exact .inl (.inr (by omega))
    · exact .inl (.inr (by omega))
    · exact .inr h

/-- The tank command evaluated is the tank command settled: put on the plant bus, and kept as the last, where R49 and R50 send
it. -/
theorem evalTank_tankSettled (s : State) (reported : Bool) : s.tankSettled (s.evalTank reported) reported := by
  have hnow : (s.evalTank reported).slotNow = s.slotNow ∧ (s.evalTank reported).chargeAllowance = s.chargeAllowance ∧
      (s.evalTank reported).storageDischarge = s.storageDischarge ∧ (s.evalTank reported).plant = s.plant := by
    unfold State.evalTank
    repeat' split
    all_goals exact ⟨rfl, rfl, rfl, rfl⟩
  obtain ⟨h1, h2, h3, h4⟩ := hnow
  unfold State.tankSettled
  rw [h1, h2, h3, h4]
  change if 0 < s.plant.tankCapacity ∧ tankDue s.plant.chargeStep s.lastTankCommand s.tankCommandNow reported = true then _
    else _
  unfold State.evalTank
  by_cases hc : s.plant.tankCapacity = 0
  · simp [hc]
  · have hpos : 0 < s.plant.tankCapacity := by omega
    simp only [hc, if_false, hpos, true_and]
    cases hl : s.lastTankCommand with
    | none =>
      simp only [tankDue]
      split
      · exact ⟨rfl, rfl⟩
      · exact ⟨rfl, hl⟩
    | some last =>
      have e : tankDue s.plant.chargeStep (some last) s.tankCommandNow reported =
          tankSetDue s.plant.chargeStep last s.tankCommandNow := (tankSetDue_eq _ _ _).symm
      simp only [e]
      split
      · exact ⟨rfl, rfl⟩
      · exact ⟨rfl, hl⟩

/-- The figures the tank command and the charge allowance are worked out from look at nothing that the judging of the source
writes. -/
theorem chargeNow_of_unjudged {s t : State} (h : t.unjudged = s.unjudged) : t.chargeNow = s.chargeNow :=
  (congrArg State.chargeNow h :)

theorem tankSettled_of_unjudged {s t u : State} {r : Bool} (h : u.unjudged = t.unjudged) (ht : s.tankSettled t r) :
    s.tankSettled u r := by
  have e : s.tankSettled u.unjudged r := h ▸ ht
  exact e

theorem tankSettled_of_before {s v t : State} {r : Bool} (h1 : s.lastTankCommand = v.lastTankCommand)
    (h2 : s.busSent = v.busSent) (ht : v.tankSettled t r) : s.tankSettled t r := by
  unfold State.tankSettled at ht ⊢
  rw [h1, h2]
  exact ht

/-- Where the storage command is worked out again, the allowance is R47's and the tank command is settled (R48, R49). -/
theorem settleStorage_of_touched {s before : State} {t r : Bool}
    (h : t = true ∨ s.storageInputs ≠ before.storageInputs) :
    (s.settleStorage before t r).chargeAllowance = (s.settleStorage before t r).chargeNow ∧
      s.tankSettled (s.settleStorage before t r) r := by
  have hc : (t || r || decide (s.storageInputs ≠ before.storageInputs)) = true := by
    rcases h with h | h <;> simp [h]
  have e : s.settleStorage before t r = State.evalTank { s with chargeAllowance := s.chargeNow } r := if_pos hc
  rw [e]
  refine ⟨?_, tankSettled_of_before rfl rfl (evalTank_tankSettled _ r)⟩
  unfold State.evalTank
  repeat' split
  all_goals rfl

/-! ### The fault list under a raise (R171) -/

/-- A raise by the fault list alone. -/
theorem faults_raise (s : State) (k : FaultKind) (x : Nat) :
    (s.raise k x).faults =
      if s.faults.holds k x then s.faults.countAgain k x
      else if s.faults.entries.length < 32 then s.faults.append (FaultEntry.first k x s.clock)
      else s.faults.overflow := by
  unfold State.raise
  split
  · rfl
  · split
    · dsimp only; split <;> rfl
    · rfl

theorem link_raise (s : State) (k : FaultKind) (x : Nat) :
    (s.raise k x).link = s.link ∨ ∃ n, (s.raise k x).link = s.link.issueNotice n := by
  unfold State.raise
  split
  · exact .inl rfl
  · split
    · dsimp only
      split
      · exact .inl rfl
      · exact .inr ⟨_, rfl⟩
    · exact .inl rfl

theorem names_iff (e : FaultEntry) (k : FaultKind) (x : Nat) : e.names k x = true ↔ e.kind = k ∧ e.subject = x := by
  simp [FaultEntry.names]

theorem holds_iff (l : FaultList) (k : FaultKind) (x : Nat) :
    l.holds k x = true ↔ ∃ e ∈ l.entries, e.kind = k ∧ e.subject = x := by
  simp [FaultList.holds, names_iff]

/-- A raise that finds a place is shown (R171). -/
theorem shows_raise_self {s : State} {k : FaultKind} {x : Nat} (h : s.faults.records k x) :
    (s.raise k x).faults.shows k x := by
  rw [faults_raise]
  split
  · next hh =>
    obtain ⟨e, he, hk, hx⟩ := (holds_iff _ _ _).mp hh
    refine ⟨e.again, List.mem_map.mpr ⟨e, he, if_pos ((names_iff e k x).mpr ⟨hk, hx⟩)⟩, hk, hx, fun hl => ?_, rfl⟩
    simp [FaultEntry.again, hk, hl]
  · next hh =>
    rw [if_pos (h.resolve_left hh)]
    exact ⟨_, List.mem_append_right _ (List.mem_singleton_self _), rfl, rfl, id, rfl⟩

/-- What is shown stays shown when another fault, or the same, is raised. -/
theorem shows_raise {s : State} {k k' : FaultKind} {x x' : Nat} (h : s.faults.shows k x) :
    (s.raise k' x').faults.shows k x := by
  obtain ⟨e, he, hk, hx, hact, hack⟩ := h
  rw [faults_raise]
  split
  · refine ⟨if e.names k' x' then e.again else e, List.mem_map.mpr ⟨e, he, rfl⟩, ?_⟩
    split
    · exact ⟨hk, hx, fun hl => by simp [FaultEntry.again, hact hl], rfl⟩
    · exact ⟨hk, hx, hact, hack⟩
  · split
    · exact ⟨e, List.mem_append_left _ he, hk, hx, hact, hack⟩
    · exact ⟨e, he, hk, hx, hact, hack⟩

/-- What is quiet stays quiet when a fault of another kind is raised. -/
theorem quiet_raise {s : State} {k k' : FaultKind} {x x' : Nat} (hk : k' ≠ k) (h : s.faults.quiet k x) :
    (s.raise k' x').faults.quiet k x := by
  rw [faults_raise]
  split
  · intro e he hek hex
    obtain ⟨d, hd, rfl⟩ := List.mem_map.mp he
    split at hek
    · next hn =>
      have : d.kind = k := hek
      exact absurd (((names_iff d k' x').mp hn).1.symm.trans this) hk
    · next hn => exact (if_neg hn) ▸ h d hd hek (by simpa [hn] using hex)
  · split
    · intro e he hek hex
      rcases List.mem_append.mp he with he | he
      · exact h e he hek hex
      · exact absurd (by rw [← hek, List.mem_singleton.mp he]; rfl) hk
    · exact h

/-- An unacknowledged overflow stays one when a fault is raised. -/
theorem overflowUnacked_raise {s : State} {k : FaultKind} {x : Nat} (h : s.faults.overflowUnacked = true) :
    (s.raise k x).faults.overflowUnacked = true := by
  rw [faults_raise]
  split
  · exact h
  · split
    · exact h
    · rfl

/-- A raise with no place left is an overflow (R171). -/
theorem shows_or_overflow_raise (s : State) (k : FaultKind) (x : Nat) :
    (s.raise k x).faults.shows k x ∨ (s.raise k x).faults.overflowUnacked = true := by
  by_cases h : s.faults.records k x
  · exact .inl (shows_raise_self h)
  · right
    unfold FaultList.records at h
    rw [faults_raise, if_neg fun e => h (.inl e), if_neg fun e => h (.inr e)]
    rfl

/-- A raise that finds a place leaves the overflow alone. -/
theorem overflow_raise_of_records {s : State} {k : FaultKind} {x : Nat} (h : s.faults.records k x) :
    (s.raise k x).faults.overflowCount = s.faults.overflowCount ∧
      (s.raise k x).faults.overflowUnacked = s.faults.overflowUnacked := by
  rw [faults_raise]
  split
  · exact ⟨rfl, rfl⟩
  · next hh =>
    rw [if_pos (h.resolve_left hh)]
    exact ⟨rfl, rfl⟩

/-- A raise leaves every entry alone that is not of its kind and subject. -/
theorem others_raise (s : State) (k : FaultKind) (x : Nat) :
    ((s.raise k x).faults.entries.filter fun e => !e.names k x) = s.faults.entries.filter fun e => !e.names k x := by
  rw [faults_raise]
  split
  · show (s.faults.entries.map fun e => if e.names k x then e.again else e).filter _ = _
    induction s.faults.entries with
    | nil => rfl
    | cons e l ih =>
      have ha : e.again.names k x = e.names k x := rfl
      cases hn : e.names k x <;> simp [hn, ha, ih]
  · split
    · have hn : (FaultEntry.first k x s.clock).names k x = true := (names_iff _ _ _).mpr ⟨rfl, rfl⟩
      simp [FaultList.append, hn]
    · rfl

/-! ### The arbiters of a part that has just started -/

/-- A branch's record without what the first transaction of a rotation writes. -/
def Branch.unprobed (c : Branch) : Branch := { c with txn := none, capsInRow := 0, rotPos := 0, rotSent := false }

/-- A branch with nothing queued and no read, none of whose stations is polled, and whose rotation has sent nothing that is not
still on the segment. -/
structure State.starting (s : State) (b : Fin 6) : Prop where
  queue : (s.br b).queue = []
  read : (s.br b).read = none
  idle : ∀ n, ¬ (s.stn n).polled
  sent : (s.br b).rotSent = false ∨ (s.br b).txn ≠ none

/-- The arbiter of such a branch sends a PROBE or a rest frame, or nothing. -/
theorem unprobed_arbitrate {s : State} {b : Fin 6} (h : s.starting b) :
    ((s.arbitrate b).br b).unprobed = (s.br b).unprobed := by
  rcases arbitrate_cases s b with ⟨e, -⟩ | ⟨-, ht, hc⟩
  · rw [e]
  have hp : s.passRotation b = s := by
    simp [State.passRotation, h.sent.resolve_right fun hne => hne ht]
  rw [hp] at hc
  rcases hc with ⟨-, e⟩ | ⟨c, hch, e⟩
  · rw [e]
  rw [e]
  have hfirst : ∀ x, s.firstWork b = some x → ∃ n, x = .rest n := by
    intro x hx
    simp only [State.firstWork, h.queue, Branch.askOwed, h.read, Bool.false_eq_true, if_false] at hx
    split at hx
    · exact ⟨_, (Option.some.inj hx).symm⟩
    · cases hx
  have hsort : (∃ n, c = .rest n) ∨ ∃ n, c = .rotation n := by
    unfold State.choose at hch
    split at hch
    · split at hch
      · exact .inr ⟨_, (Option.some.inj hch).symm⟩
      · exact .inl (hfirst c hch)
    · split at hch
      · next x hx => exact .inl (hfirst c (hx.trans hch))
      · obtain ⟨n, -, hn⟩ := Option.map_eq_some_iff.mp hch
        exact .inr ⟨n, hn.symm⟩
  rcases hsort with ⟨n, rfl⟩ | ⟨n, rfl⟩
  · simp [State.send, Branch.start, Branch.unprobed]
  · have hn : ¬ ((s.stn n).state = .active ∨ (s.stn n).state = .attaching) := h.idle n
    simp [State.send, State.sendRotation, hn, Branch.start, Branch.unprobed]

theorem unprobed_arbitrateAll {s : State} {b : Fin 6} (h : s.starting b) :
    (s.arbitrateAll.br b).unprobed = (s.br b).unprobed := by
  obtain ⟨v, hu, hv, hb⟩ := br_arbitrateAll s b
  have hs : v.starting b :=
    ⟨hv ▸ h.queue, hv ▸ h.read, fun n => mt (polled_of_unsent_eq hu n).mp (h.idle n), hv ▸ h.sent⟩
  rw [hb, unprobed_arbitrate hs, hv]

end Sys2Proof.Machine
end

section
/-!
SUPPORT. The cold starts and the warm restart (R22, R23, R185, R186): the values each block starts from, which the first rotation of
every branch leaves alone but for its own transaction.
-/

namespace Sys2Proof.Machine

/-! ### Cold start (R185) -/

@[simp] theorem stored_cutSave (s : State) :
    s.cutSave.stored = if s.link.phase.saves then Config.freeImage s.freeCount else s.stored := by
  unfold State.cutSave
  dsimp only
  split <;> rfl

theorem stn_startFrom (s : State) (i : Image) (c : ConfigSource) (n : Fin 48) :
    (s.startFrom i c).stn n =
      Station.coldStart i.stations[n.val] (rangeHolds i.isolation n.val) i.plant.lostHold := by
  simp [State.startFrom, State.stn]

theorem br_startFrom (s : State) (i : Image) (c : ConfigSource) (b : Fin 6) :
    (s.startFrom i c).br b = Branch.fresh i.branches[b.val] := by
  simp [State.startFrom, State.br]

/-- A station's record after a cold start by its fields (R22). -/
theorem coldStart_defined (h : HostFields) (i : Bool) (t : Nat) :
    Station.coldStart (some h) i t =
      if i then { Station.vacantRecord with host := h, state := .isolated, grantDt := h.designDt, confirmedDt := h.designDt }
      else if t = 0 then
        { Station.vacantRecord with
          host := h
          state := .seeking
          grantDt := h.designDt
          confirmedKw := h.fallbackKw
          confirmedFlow := flowCap h.fallbackKw h.designDt
          confirmedDt := h.designDt }
      else
        { Station.vacantRecord with
          host := h
          state := .seeking
          grantDt := h.designDt
          confirmedKw := h.contractKw
          confirmedFlow := flowCap h.contractKw h.designDt
          confirmedDt := h.designDt
          hold := some t } := by
  cases i
  · by_cases ht : t = 0 <;>
      simp [Station.coldStart, Station.define, Station.confirmAtDesign, Station.startHold, Station.expireHold,
        Station.assumedKw, Station.vacantRecord, ht]
  · simp [Station.coldStart, Station.define]

/-- After a cold start no station is polled (R22). -/
theorem startFrom_idle (s : State) (i : Image) (c : ConfigSource) (n : Fin 48) :
    ¬ ((s.startFrom i c).stn n).polled := by
  rw [stn_startFrom]
  cases i.stations[n.val] with
  | none => simp [Station.coldStart, Station.polled, Station.vacantRecord]
  | some h =>
    rw [coldStart_defined]
    split
    · simp [Station.polled]
    · split <;> simp [Station.polled]

theorem startFrom_starting (s : State) (i : Image) (c : ConfigSource) (b : Fin 6) : (s.startFrom i c).starting b where
  queue := by rw [br_startFrom]; rfl
  read := by rw [br_startFrom]; rfl
  idle := startFrom_idle s i c
  sent := .inl (by rw [br_startFrom]; rfl)

/-- A cold start that finds a good image (R185). -/
theorem coldStart_of_good {s : State} {i : Image} (hs : s.cutSave.stored = some i) (hr : i.inRange = true) :
    s.coldStart = (s.cutSave.startFrom i .stored).arbitrateAll.judgeRelay := by
  have : s.cutSave.goodImage = some i := by simp only [State.goodImage, hs, hr, if_true]
  simp only [State.coldStart, this]

/-- A cold start that finds none (R185). -/
theorem coldStart_of_bad {s : State} (h : ∀ i, s.cutSave.stored = some i → i.inRange = false) :
    s.coldStart =
      ((s.cutSave.startFrom Image.defaults .defaults).raise .configLost 0).arbitrateAll.judgeRelay := by
  have : s.cutSave.goodImage = none := by
    unfold State.goodImage
    split
    · next i hi => simp [h i hi]
    · rfl
  simp only [State.coldStart, this]

/-- The arbiters of a part in which every branch is disabled send nothing. -/
theorem arbitrateAll_of_disabled {s : State} (h : ∀ b, (s.br b).settings.window = none) : s.arbitrateAll = s := by
  unfold State.arbitrateAll
  generalize allBranches = l
  induction l with
  | nil => rfl
  | cons b l ih => rw [List.foldl_cons, arbitrate_of_disabled (h b), ih]

/-- A raise of an unmasked kind that finds no entry and a place for one (R171, R176). -/
theorem raise_of_room {s : State} {k : FaultKind} {x : Nat} (hh : s.faults.holds k x = false)
    (hl : s.faults.entries.length < 32) (hm : s.faults.masked k = false) :
    s.raise k x = State.notify { s with faults := s.faults.append (FaultEntry.first k x s.clock) }
      (.fault k x s.clock k.lasting) := by
  simp [State.raise, hh, hl, hm]

/-- Settles O19: the values of `startFrom`, which the first transactions of the branches leave alone. -/
theorem coldStartTakesTheStoredImage : Obligations.ColdStartTakesTheStoredImage := by
  intro s i hst hr
  have hi : s.cutSave.stored = some i := (stored_cutSave s).trans hst
  refine ⟨s.coldStart, rfl, ?_⟩
  rw [coldStart_of_good hi hr]
  generalize s.cutSave = v at hi
  have hu := unsent_arbitrateAll (v.startFrom i .stored)
  have hb : ∀ b, ((v.startFrom i .stored).arbitrateAll.br b).unprobed = (Branch.fresh i.branches[b.val]).unprobed :=
    fun b => by rw [unprobed_arbitrateAll (startFrom_starting v i .stored b), br_startFrom]
  have hn : ∀ n, (v.startFrom i .stored).arbitrateAll.stn n =
      Station.coldStart i.stations[n.val] (rangeHolds i.isolation n.val) i.plant.lostHold :=
    fun n => by rw [stn_arbitrateAll_of_idle (startFrom_idle v i .stored n), stn_startFrom]
  generalize (v.startFrom i .stored).arbitrateAll = t at hu hb hn
  have hf : t.faults = FaultList.fresh i.mask := (congrArg State.faults hu :)
  have hch : ∀ u, t.chiller u = Chiller.fresh i.chillers[u.val] := fun u => by
    have : t.chillers = (v.startFrom i .stored).chillers := (congrArg State.chillers hu :)
    simp [State.chiller, this, State.startFrom]
  have hw : ∀ a, t.watch a = ⟨false, 0⟩ := fun a => by
    have : t.watches = Vector.replicate 11 ⟨false, 0⟩ := (congrArg State.watches hu :)
    simp [State.watch, this]
  have hstored : t.stored = some i := (congrArg State.stored hu :).trans hi
  refine ⟨(congrArg State.powered hu :), hstored, (congrArg State.plant hu :), (congrArg State.schedule hu :),
    (congrArg State.isolation hu :), (congrArg (fun s => s.pressure.ref) hu :), (congrArg (fun s => s.pressure.pump) hu :),
    congrArg FaultList.mask hf, fun b => ?_, hch, fun n hv => (hn n).trans (by rw [hv]; rfl), fun n h hv => ?_,
    (congrArg State.tank hu :), (congrArg State.pumpGroup hu :), (congrArg State.plantDp hu :), hw,
    (congrArg State.capacity hu :), (congrArg State.clock hu :), (congrArg State.storageDischarge hu :),
    (congrArg State.chargeAllowance hu :), (congrArg State.lastTankCommand hu :), (congrArg State.session hu :),
    (congrArg State.allocator hu :), (congrArg (fun s => s.pressure.source) hu :),
    (congrArg (fun s => s.pressure.revertTimer) hu :), (congrArg (fun s => s.pressure.trimTimer) hu :),
    (congrArg (fun s => s.pressure.speed) hu :), (congrArg (fun s => s.pressure.lastTrim) hu :), ?_,
    (congrArg State.link hu :)⟩
  · have h := hb b
    exact ⟨(congrArg Branch.settings h :), (congrArg Branch.queue h :), (congrArg Branch.read h :),
      (congrArg Branch.rest h :), (congrArg Branch.idleCount h :), (congrArg Branch.wakeTimer h :),
      (congrArg Branch.badFrames h :), (congrArg Branch.protocolErrors h :)⟩
  · have e : t.judgeRelay.stn n = _ := (hn n).trans ((congrArg (Station.coldStart · _ _) hv).trans (coldStart_defined h _ _))
    rw [e]
    split
    · exact ⟨rfl, rfl, rfl, rfl, rfl, rfl, rfl, rfl, rfl, rfl, rfl, rfl, rfl, rfl, rfl, rfl, rfl, rfl, rfl, rfl⟩
    · split
      · exact ⟨rfl, rfl, rfl, rfl, rfl, rfl, rfl, rfl, rfl, rfl, rfl, rfl, rfl, rfl, rfl, rfl, rfl, rfl, rfl, rfl⟩
      · exact ⟨rfl, rfl, rfl, rfl, rfl, rfl, rfl, rfl, rfl, rfl, rfl, rfl, rfl, rfl, rfl, rfl, rfl, rfl, rfl, rfl⟩
  · show ({ t.faults with relayClosed := t.faults.alarm } : FaultList) = _
    rw [hf]
    rfl

/-- Settles O20: with no window the arbiters send nothing, and CONFIG_LOST stands on the list behind HELLO COLD. -/
theorem coldStartFromABadImage : Obligations.ColdStartFromABadImage := by
  intro s stored hbad
  refine ⟨s.coldStart, rfl, ?_⟩
  rw [coldStart_of_bad fun i hi => hbad i ((stored_cutSave s).symm.trans hi)]
  have hst : s.cutSave.stored = stored := stored_cutSave s
  generalize s.cutSave = v at hst
  have hbr : ∀ b, ((v.startFrom Image.defaults .defaults).raise .configLost 0).br b =
      Branch.fresh ⟨none, 0, 0, 0, 60, 30⟩ := fun b => by
    rw [br_raise, br_startFrom]
    simp [Image.defaults]
  rw [arbitrateAll_of_disabled fun b => by rw [hbr]; rfl]
  have hstn : ∀ n, ((v.startFrom Image.defaults .defaults).raise .configLost 0).stn n = Station.vacantRecord := fun n => by
    rw [stn_raise, stn_startFrom]
    simp [Image.defaults, Station.coldStart]
  have hraise : (v.startFrom Image.defaults .defaults).raise .configLost 0 =
      State.notify { v.startFrom Image.defaults .defaults with faults := ⟨[⟨.configLost, 0, none, 1, false, false⟩], 0, false, 0, false⟩ }
        (.fault .configLost 0 none false) :=
    raise_of_room rfl (show 0 < 32 by decide) (show (0 : BitVec 10).getLsbD 9 = false by decide)
  rw [hraise] at hstn hbr ⊢
  have halarm : FaultList.alarm ⟨[⟨.configLost, 0, none, 1, false, false⟩], 0, false, 0, false⟩ = true := by decide
  refine ⟨rfl, hst, hstn, rfl, fun b => ?_, fun u => ?_, rfl, fun i => ?_, rfl, rfl, rfl, rfl,
    congrArg (FaultList.mk [⟨.configLost, 0, none, 1, false, false⟩] 0 false 0) halarm, rfl⟩
  · have e := hbr b
    exact ⟨congrArg Branch.settings e, congrArg Branch.txn e⟩
  · show (Vector.ofFn fun u : Fin 8 => Chiller.fresh Image.defaults.chillers[u.val])[u.val] = _
    simp [Image.defaults, Chiller.fresh]
  · show Image.defaults.schedule[i.val] = _
    simp [Image.defaults]

end Sys2Proof.Machine
end

section
/-!
SUPPORT. The warm restart (R23, R41, R98, R140, R168, R186): the records each block restarts from, the source that the fallback rule
gives where no candidate is valid, and HELLO WARM behind every notice of the restart.
-/

namespace Sys2Proof.Machine

/-! ### The source where no candidate is valid (R159, R160, R168) -/

/-- The station a source has selected: the primary of PRIMARY, the secondary of SECONDARY (Table 9-1). -/
def Source.selected (c : Source) (r : RefSettings) : Option (Fin 48) :=
  match c with
  | .primary => r.primary
  | .secondary => r.secondary
  | .plant => none
  | .hold => none

theorem stn_of_unjudged {s t : State} (h : t.unjudged = s.unjudged) (n : Fin 48) : t.stn n = s.stn n :=
  (congrArg (fun s => s.stn n) h :)

theorem br_of_unjudged {s t : State} (h : t.unjudged = s.unjudged) (b : Fin 6) : t.br b = s.br b :=
  (congrArg (fun s => s.br b) h :)

theorem allocator_of_unjudged {s t : State} (h : t.unjudged = s.unjudged) : t.allocator = s.allocator :=
  (congrArg State.allocator h :)

theorem chargeAllowance_of_unjudged {s t : State} (h : t.unjudged = s.unjudged) : t.chargeAllowance = s.chargeAllowance :=
  (congrArg State.chargeAllowance h :)

theorem primaryValid_of_unjudged {s t : State} (h : t.unjudged = s.unjudged) : t.primaryValid = s.primaryValid :=
  (congrArg State.primaryValid h :)

/-- With neither candidate valid the source is what the fallback rule gives, a station that was selected is lost, and no revert
timer runs (R159, R160, R162). -/
theorem judgePressure_of_invalid {s : State} {was : RefSettings} (hp : s.primaryValid = false)
    (hq : s.secondaryValid = false) :
    s.judgePressure was = (s.loseSource (s.pressure.source.selected was)).setRevert none := by
  have hs : s.judgeSource was = s.loseSource (s.pressure.source.selected was) := by
    unfold State.judgeSource
    cases s.pressure.source <;> simp [hp, hq, Source.selected, State.loseSource]
  have hv : (s.loseSource (s.pressure.source.selected was)).primaryValid = false :=
    (primaryValid_of_unjudged (unjudged_loseSource _ _)).trans hp
  simp [State.judgePressure, hs, State.judgeRevert, hv]

@[simp] theorem pressure_raise (s : State) (k : FaultKind) (x : Nat) : (s.raise k x).pressure = s.pressure :=
  (congrArg State.pressure (unraised_raise s k x) :)

@[simp] theorem pressure_loseSource (s : State) (n : Option (Fin 48)) :
    (s.loseSource n).pressure = { s.pressure with source := s.fallbackSource } := by
  unfold State.loseSource
  dsimp only
  split
  · rw [pressure_raise]; rfl
  · rfl

/-- A candidate that is not ACTIVE is not valid (R158). -/
theorem candidateValid_of_not_active {s : State} (h : ∀ n, (s.stn n).state ≠ .active) (c : Option (Fin 48)) :
    s.candidateValid c = false := by
  unfold State.candidateValid
  split
  · simp [h]
  · rfl

/-! ### Notices issued last -/

/-- A notice just issued is the last of the line's frames, as long as none waits behind a free transmitter (R180). -/
theorem getLast_issueNotice {l : Link} (h : l.sending = none → l.waiting = []) (n : Notice) :
    ((l.issueNotice n).sending.toList ++ (l.issueNotice n).waiting).getLast? = some (.notice n) := by
  unfold Link.issueNotice Link.issue
  split
  · simp [List.getLast?_append]
  · split
    · next hs => simp [h hs]
    · simp [List.getLast?_append]

/-- A notice leaves no frame waiting behind a free transmitter. -/
theorem nothing_waits_issueNotice (l : Link) (n : Notice) :
    (l.issueNotice n).sending = none → (l.issueNotice n).waiting = [] := by
  unfold Link.issueNotice Link.issue
  split
  · next hs =>
    intro h
    change l.sending = none at h
    simp [h] at hs
  · split
    · intro h; cases h
    · next hs => intro h; rw [hs] at h; cases h

theorem nothing_waits_raise {s : State} (h : s.link.sending = none → s.link.waiting = []) (k : FaultKind) (x : Nat) :
    (s.raise k x).link.sending = none → (s.raise k x).link.waiting = [] := by
  rcases link_raise s k x with e | ⟨n, e⟩
  · rw [e]; exact h
  · rw [e]; exact nothing_waits_issueNotice _ _

/-! ### The records of a warm restart (R23, R98, R140) -/

/-- The part as a warm restart sets its blocks, nothing sent or judged yet (R186). -/
def State.restarted (s : State) : State :=
  { s with
    stations := Vector.ofFn fun n => (s.stn n).warmRestart s.plant.lostHold
    branches := Vector.ofFn fun b => (s.br b).warmRestart
    allocator := Allocator.fresh
    session := none
    link := { s.link with rx := [], phase := .idle } }

theorem warmRestart_eq (s : State) :
    s.warmRestart =
      (((s.restarted.arbitrateAll.settleStorage s true false).judgePressure s.pressure.ref).notify
        (.hello true s.link.source)).judgeRelay := rfl

theorem stn_restarted (s : State) (n : Fin 48) : s.restarted.stn n = (s.stn n).warmRestart s.plant.lostHold := by
  simp [State.restarted, State.stn]

theorem br_restarted (s : State) (b : Fin 6) : s.restarted.br b = (s.br b).warmRestart := by
  simp [State.restarted, State.br]

/-- A station that was neither VACANT nor ISOLATED restarts in SEEKING (R23). -/
theorem warmRestart_again {r : Station} (hv : r.state ≠ .vacant) (hi : r.state ≠ .isolated) (t : Nat) :
    r.warmRestart t = Station.warmRestart.again r t := by
  unfold Station.warmRestart
  split <;> simp_all

/-- After a warm restart no station is polled (R23). -/
theorem restarted_idle (s : State) (n : Fin 48) : ¬ (s.restarted.stn n).polled := by
  rw [stn_restarted]
  by_cases hv : (s.stn n).state = .vacant
  · simp [Station.warmRestart, hv, Station.polled]
  by_cases hi : (s.stn n).state = .isolated
  · simp [Station.warmRestart, hi, Station.polled]
  · rw [warmRestart_again hv hi]
    unfold Station.warmRestart.again Station.startHold
    split <;> simp [Station.polled, Station.expireHold, Station.confirmAtDesign]

theorem restarted_starting (s : State) (b : Fin 6) : s.restarted.starting b where
  queue := by rw [br_restarted]; rfl
  read := by rw [br_restarted]; rfl
  idle := restarted_idle s
  sent := .inl (by rw [br_restarted]; rfl)

/-- What of the state neither the arbiters nor the storage command write. -/
theorem same_of_unsent_unstored {s t : State} (h : t.unstored.unsent = s.unstored.unsent) :
    t.pressure = s.pressure ∧ t.link = s.link ∧ t.faults = s.faults ∧ t.allocator = s.allocator ∧ t.plantDp = s.plantDp :=
  ⟨(congrArg State.pressure h :), (congrArg State.link h :), (congrArg State.faults h :), (congrArg State.allocator h :),
    (congrArg State.plantDp h :)⟩

theorem unstored_unsent_of_eq {s t : State} (h : t.unsent = s.unsent) : t.unstored.unsent = s.unstored.unsent :=
  (congrArg State.unstored h :)

theorem last_of_unsent {s t : State} (h : t.unsent = s.unsent) :
    t.lastTankCommand = s.lastTankCommand ∧ t.busSent = s.busSent :=
  ⟨(congrArg State.lastTankCommand h :), (congrArg State.busSent h :)⟩

/-- The part as the warm restart's arbiters and its storage command leave it. -/
def State.resettled (s : State) : State := s.restarted.arbitrateAll.settleStorage s true false

theorem stn_resettled (s : State) (n : Fin 48) : s.resettled.stn n = (s.stn n).warmRestart s.plant.lostHold := by
  have h : s.resettled.stations = s.restarted.arbitrateAll.stations := stations_settleStorage _ _ _ _
  rw [← stn_restarted, ← stn_arbitrateAll_of_idle (restarted_idle s n)]
  simp only [State.stn, h]

theorem br_resettled (s : State) (b : Fin 6) : s.resettled.br b = s.restarted.arbitrateAll.br b := by
  have h : s.resettled.branches = s.restarted.arbitrateAll.branches := branches_settleStorage _ _ _ _
  simp only [State.br, h]

/-- What the warm restart's arbiters and storage command leave of the rest of the state. -/
theorem unsent_unstored_resettled (s : State) : s.resettled.unstored.unsent = s.restarted.unstored.unsent := by
  have h1 : s.resettled.unstored = s.restarted.arbitrateAll.unstored := unstored_settleStorage _ _ _ _
  rw [h1]
  exact unstored_unsent_of_eq (unsent_arbitrateAll _)

theorem same_resettled (s : State) :
    s.resettled.pressure = s.pressure ∧ s.resettled.link = { s.link with rx := [], phase := .idle } ∧
      s.resettled.faults = s.faults ∧ s.resettled.allocator = Allocator.fresh ∧ s.resettled.plantDp = s.plantDp := by
  have h := same_of_unsent_unstored (unsent_unstored_resettled s)
  simpa only [State.restarted] using h

theorem resettled_not_active (s : State) (n : Fin 48) : (s.resettled.stn n).state ≠ .active := by
  rw [stn_resettled, ← stn_restarted]
  exact fun h => restarted_idle s n (.inl h)

/-- A warm restart judges its source with no candidate valid, and issues HELLO WARM last (R168, R186). -/
theorem warmRestart_judged (s : State) :
    s.warmRestart =
      (((s.resettled.loseSource (s.pressure.source.selected s.pressure.ref)).setRevert none).notify
        (.hello true s.link.source)).judgeRelay := by
  have hinv (c : Option (Fin 48)) : s.resettled.candidateValid c = false :=
    candidateValid_of_not_active (resettled_not_active s) c
  rw [warmRestart_eq, ← State.resettled, judgePressure_of_invalid (hinv _) (hinv _), (same_resettled s).1]

/-! ### RESTART and WARM_RESTART -/

theorem kept_restarted (s : State) :
    s.restarted.kept = { s.kept with
      stations := fun n => ((s.stn n).warmRestart s.plant.lostHold).stable
      branches := fun b => ((s.br b).settings, 0, 0)
      session := none
      link := { s.link.kept with rx := [], phase := .idle } } := by
  have hs : (fun n => (s.restarted.stn n).stable) = fun n => ((s.stn n).warmRestart s.plant.lostHold).stable :=
    funext fun n => by rw [stn_restarted]
  have hb : (fun b => ((s.restarted.br b).settings, (s.restarted.br b).badFrames, (s.restarted.br b).protocolErrors)) =
      fun b => ((s.br b).settings, 0, 0) := funext fun b => by rw [br_restarted]; rfl
  simp only [State.kept, hs, hb]
  simp only [State.restarted]
  rfl

/-- The kept part of a warm restart is that of the blocks as they restart. -/
theorem kept_warmRestart (s : State) :
    s.warmRestart.kept = { s.kept with
      stations := fun n => ((s.stn n).warmRestart s.plant.lostHold).stable
      branches := fun b => ((s.br b).settings, 0, 0)
      session := none
      link := { s.link.kept with rx := [], phase := .idle } } := by
  rw [warmRestart_eq, kept_judgeRelay, kept_notify, kept_judgePressure, kept_settleStorage, kept_arbitrateAll, kept_restarted]

/-- What the warm restart writes of a station that was neither VACANT nor ISOLATED (R23). -/
theorem again_eq (r : Station) (t : Nat) :
    Station.warmRestart.again r t =
      if t = 0 then
        { r with
          state := .seeking, requestKw := 0, clamped := false, supply := none, ret := none, measuredDt := none
          dtHold := 0, indexDp := none, grantKw := 0, grantDt := r.host.designDt, missCount := 0, nextSeq := 0
          debounce := 0, boundCount := 0, standing := .uninvolved, hold := none
          confirmedKw := r.assumedKw, confirmedFlow := flowCap r.assumedKw r.host.designDt
          confirmedDt := r.host.designDt }
      else
        { r with
          state := .seeking, requestKw := 0, clamped := false, supply := none, ret := none, measuredDt := none
          dtHold := 0, indexDp := none, grantKw := 0, grantDt := r.host.designDt, missCount := 0, nextSeq := 0
          debounce := 0, boundCount := 0, standing := .uninvolved, hold := some t } := by
  unfold Station.warmRestart.again Station.startHold
  split <;> rfl

/-- The fault list where a station that was selected is lost: its INDEX_LOST raised, and every other entry as it was (R168,
R177). -/
theorem faults_loseSource (s : State) (lost : Option (Fin 48)) :
    ((s.loseSource lost).faults.entries.filter fun e => !lost.any fun n => e.names .indexLost n.val) =
        (s.faults.entries.filter fun e => !lost.any fun n => e.names .indexLost n.val) ∧
      (∀ n, lost = some n → s.faults.records .indexLost n.val → (s.loseSource lost).faults.shows .indexLost n.val) ∧
      ((∀ n, lost = some n → s.faults.records .indexLost n.val) →
        (s.loseSource lost).faults.overflowCount = s.faults.overflowCount ∧
          (s.loseSource lost).faults.overflowUnacked = s.faults.overflowUnacked) := by
  cases lost with
  | none => exact ⟨rfl, nofun, fun _ => ⟨rfl, rfl⟩⟩
  | some n =>
    refine ⟨others_raise (s.setSource s.fallbackSource) .indexLost n.val, fun m hm hr => ?_,
      fun hr => overflow_raise_of_records (s := s.setSource s.fallbackSource) (hr n rfl)⟩
    obtain rfl := Option.some.inj hm
    exact shows_raise_self (s := s.setSource s.fallbackSource) hr

@[simp] theorem unjudged_notify (s : State) (n : Notice) : (s.notify n).unjudged = s.unjudged := rfl

theorem unjudged_warmRestart (s : State) : s.warmRestart.unjudged = s.resettled.unjudged := by
  rw [warmRestart_judged, unjudged_judgeRelay, unjudged_notify, unjudged_setRevert, unjudged_loseSource]

theorem stn_warmRestart (s : State) (n : Fin 48) : s.warmRestart.stn n = (s.stn n).warmRestart s.plant.lostHold :=
  (stn_of_unjudged (unjudged_warmRestart s) n).trans (stn_resettled s n)

theorem br_warmRestart (s : State) (b : Fin 6) : s.warmRestart.br b = s.restarted.arbitrateAll.br b :=
  (br_of_unjudged (unjudged_warmRestart s) b).trans (br_resettled s b)

/-- A change of the revert timer alone. -/
theorem pressure_setRevert (s : State) (t : Option Nat) :
    (s.setRevert t).pressure = { s.pressure with revertTimer := t } := rfl

theorem pressure_answering (s : State) (n : Notice) : (s.notify n).judgeRelay.pressure = s.pressure := rfl

/-- The source and the revert timer after a warm restart (R168). -/
theorem source_warmRestart (s : State) :
    s.warmRestart.pressure.source = s.fallbackSource ∧ s.warmRestart.pressure.revertTimer = none := by
  have hf : s.resettled.fallbackSource = s.fallbackSource := by
    obtain ⟨hp, -, -, -, hd⟩ := same_resettled s
    unfold State.fallbackSource State.plantDpFresh
    rw [hp, hd]
  rw [warmRestart_judged, pressure_answering, pressure_setRevert, pressure_loseSource]
  dsimp only
  exact ⟨hf, rfl⟩

theorem faults_answering (s : State) (n : Notice) :
    (s.notify n).judgeRelay.faults = { s.faults with relayClosed := s.faults.alarm } := rfl

theorem faults_setRevert (s : State) (t : Option Nat) : (s.setRevert t).faults = s.faults := rfl

/-- The fault list after a warm restart is that of the lost source, its relay judged (R175, R177). -/
theorem faults_warmRestart (s : State) :
    ∃ v : State, v.faults = s.faults ∧ ∃ closed,
      s.warmRestart.faults =
        { (v.loseSource (s.pressure.source.selected s.pressure.ref)).faults with relayClosed := closed } :=
  ⟨s.resettled, (same_resettled s).2.2.1, _, by rw [warmRestart_judged, faults_answering, faults_setRevert]⟩

theorem last_restarted (s : State) :
    s.restarted.lastTankCommand = s.lastTankCommand ∧ s.restarted.busSent = s.busSent := by
  simp only [State.restarted, and_self]

/-- The storage command of a state that is, but for the judging of the source, one whose storage command has been worked out
again (R48, R49). -/
theorem storage_of_touched {s v w t before : State} {c r : Bool} (hw : w = v.settleStorage before c r)
    (hc : c = true ∨ v.storageInputs ≠ before.storageInputs) (hl : v.lastTankCommand = s.lastTankCommand) (hb : v.busSent = s.busSent) (hu : t.unjudged = w.unjudged) :
    t.chargeAllowance = t.chargeNow ∧ s.tankSettled t r := by
  obtain ⟨hc, ht⟩ := settleStorage_of_touched (s := v) (before := before) (t := c) (r := r) hc
  rw [← hw] at hc ht
  refine ⟨?_, tankSettled_of_unjudged hu (tankSettled_of_before hl.symm hb.symm ht)⟩
  rw [chargeNow_of_unjudged hu, ← hc, chargeAllowance_of_unjudged hu]

/-- The storage command after a warm restart (R41, R48, R49). -/
theorem storage_of_resettled {s t : State} (hu : t.unjudged = s.resettled.unjudged) :
    t.chargeAllowance = t.chargeNow ∧ s.tankSettled t false :=
  storage_of_touched (v := s.restarted.arbitrateAll) (w := s.resettled) (before := s) rfl (.inl rfl)
    ((last_of_unsent (unsent_arbitrateAll s.restarted)).1.trans (last_restarted s).1)
    ((last_of_unsent (unsent_arbitrateAll s.restarted)).2.trans (last_restarted s).2) hu

theorem link_answering (s : State) (n : Notice) : (s.notify n).judgeRelay.link = s.link.issueNotice n := rfl

theorem link_setRevert (s : State) (t : Option Nat) : (s.setRevert t).link = s.link := rfl

theorem nothing_waits_loseSource {s : State} (h : s.link.sending = none → s.link.waiting = []) (lost : Option (Fin 48)) :
    (s.loseSource lost).link.sending = none → (s.loseSource lost).link.waiting = [] := by
  cases lost with
  | none => exact h
  | some n => exact nothing_waits_raise (s := s.setSource s.fallbackSource) h _ _

/-- HELLO WARM is the last of the frames a warm restart leaves (R186). -/
theorem hello_warmRestart {s : State} (h : s.link.sending = none → s.link.waiting = []) :
    (s.warmRestart.link.sending.toList ++ s.warmRestart.link.waiting).getLast? =
      some (.notice (.hello true s.link.source)) := by
  rw [warmRestart_judged, link_answering, link_setRevert]
  refine getLast_issueNotice (nothing_waits_loseSource ?_ _) _
  rw [(same_resettled s).2.1]
  exact h

/-- Settles O25: RESTART's reply, and the blocks as `restarted` sets them, which the arbiters, the storage command and the judging of
the source leave alone but for their own fields. -/
theorem restartsKeepTheSettings : Obligations.RestartsKeepTheSettings := by
  refine ⟨fun s tag hs => (exec_ready rfl hs).trans rfl, fun s hp hph hsend => ?_⟩
  have hexec : exec .warmRestart s = .next s.warmRestart :=
    (exec_on (fun s => if s.link.phase = .restartDue then s.warmRestart else s) rfl hp).trans (by rw [if_pos hph])
  have hk := kept_warmRestart s
  have hstn := stn_warmRestart s
  have hbr := br_warmRestart s
  obtain ⟨hsrc, hrev⟩ := source_warmRestart s
  obtain ⟨v, hv, closed, hfaults⟩ := faults_warmRestart s
  have hu := unjudged_warmRestart s
  have hhello := hello_warmRestart hsend
  have halloc : s.warmRestart.allocator = Allocator.fresh := 
    (allocator_of_unjudged (unjudged_warmRestart s)).trans (same_resettled s).2.2.2.1
  generalize s.warmRestart = t at hexec hk hstn hbr hsrc hrev hfaults hu hhello halloc
  obtain ⟨hcharge, htank⟩ := storage_of_resettled hu
  refine ⟨t, hexec, ?_⟩
  refine ⟨(congrArg Kept.plant hk :), (congrArg Kept.chillers hk :), (congrArg Kept.tank hk :), (congrArg Kept.pumpGroup hk :),
    (congrArg Kept.plantDp hk :), (congrArg Kept.watches hk :), (congrArg Kept.capacity hk :), (congrArg Kept.clock hk :),
    (congrArg Kept.schedule hk :), (congrArg Kept.isolation hk :), (congrArg Kept.stored hk :), (congrArg Kept.session hk :),
    halloc, (congrArg Kept.mask hk :), (congrArg Kept.ref hk :), (congrArg Kept.pump hk :), (congrArg Kept.speed hk :),
    (congrArg Kept.trimTimer hk :), (congrArg Kept.lastTrim hk :), hrev, ?_, fun b => ?_, fun n hn => ?_, fun n hn => ?_,
    fun n hn hi => ?_, (congrArg Kept.storageDischarge hk :), hcharge, htank, ?_,
    (congrArg (fun k => k.link.rx) hk :), (congrArg (fun k => k.link.phase) hk :), hhello⟩
  · rw [hsrc, State.fallbackSource]
    split <;> rfl
  · have h : (t.br b).unprobed = (Branch.warmRestart (s.br b)).unprobed := by
      rw [hbr, unprobed_arbitrateAll (restarted_starting s b), br_restarted]
    refine ⟨(congrArg Branch.settings h :), (congrArg Branch.queue h :), (congrArg Branch.read h :),
      (congrArg Branch.rest h :), (congrArg Branch.idleCount h :), (congrArg Branch.wakeTimer h :),
      (congrArg Branch.badFrames h :), (congrArg Branch.protocolErrors h :), fun x hx => ?_⟩
    have htx : (s.restarted.br b).txn = some { x with abandoned := true } := by
      rw [br_restarted]
      simp [Branch.warmRestart, hx]
    rw [hbr, br_arbitrateAll_of_busy (by rw [htx]; exact nofun), htx]
  · rw [hstn]
    simp [Station.warmRestart, hn]
  · rw [hstn]
    simp [Station.warmRestart, hn]
  · rw [hstn, warmRestart_again hn hi, again_eq]
    split
    · exact ⟨rfl, rfl, rfl, rfl, rfl, rfl, rfl, rfl, rfl, rfl, rfl, rfl, rfl, rfl, rfl, rfl, rfl, rfl, rfl, rfl, rfl⟩
    · exact ⟨rfl, rfl, rfl, rfl, rfl, rfl, rfl, rfl, rfl, rfl, rfl, rfl, rfl, rfl, rfl, rfl, rfl, rfl, rfl, rfl, rfl⟩
  · intro fallback lost others
    have hlost : lost = s.pressure.source.selected s.pressure.ref := by
      simp only [lost]
      cases s.pressure.source <;> rfl
    obtain ⟨ho, hshow, hover⟩ := faults_loseSource v lost
    rw [← hlost] at hfaults
    rw [hv] at ho hshow hover
    refine ⟨hsrc, ?_, ?_, ?_⟩
    · simp only [others, hfaults]
      exact ho
    · rw [hfaults]
      exact hshow
    · rw [hfaults]
      exact hover

end Sys2Proof.Machine
end

section
/-!
SUPPORT. One second (R20, R25, R43, R44, R154, R162): the clock, the timers and the ages, then either the pressures judged alone or,
at a slot change, the storage figures worked out again and the end of an event.
-/

namespace Sys2Proof.Machine

/-! ### The revert timer (R162) -/

/-- The judging of the source writes no more of the pressure reference unit than the source. -/
theorem pressure_judgeSource (s : State) (was : RefSettings) :
    (s.judgeSource was).pressure = { s.pressure with source := (s.judgeSource was).pressure.source } := by
  unfold State.judgeSource
  repeat' split
  all_goals simp [State.lock, State.setSource, State.endIndexLost]

/-- The revert timer where it is called for: as it runs, or started in full. -/
def PressureUnit.calledRevert (p : PressureUnit) : Option Nat := p.revertTimer.or (some p.ref.revertDelay)

/-- The revert timer once it is judged: none with the source PRIMARY or the primary not valid, and otherwise as it ran, or started
in full (R162). -/
theorem revertTimer_judgeRevert (s : State) :
    (s.judgeRevert.pressure.source = .primary ∨ s.judgeRevert.primaryValid = false →
      s.judgeRevert.pressure.revertTimer = none) ∧
    (s.judgeRevert.pressure.source ≠ .primary → s.judgeRevert.primaryValid = true →
      s.judgeRevert.pressure.revertTimer =
        s.pressure.calledRevert) := by
  have hv : s.judgeRevert.primaryValid = s.primaryValid := primaryValid_of_unjudged (unjudged_judgeRevert s)
  rw [hv]
  unfold State.judgeRevert
  split
  · next h =>
    refine ⟨fun _ => rfl, fun h1 h2 => ?_⟩
    rcases h with h | h
    · exact absurd h h1
    · rw [h] at h2; cases h2
  · next h =>
    simp only [not_or, Bool.not_eq_false] at h
    split
    · next k hk =>
      refine ⟨fun h1 => ?_, fun _ _ => by rw [PressureUnit.calledRevert, hk]; rfl⟩
      rcases h1 with h1 | h1
      · exact absurd h1 h.1
      · rw [h.2] at h1; cases h1
    · next hk =>
      split
      · exact ⟨fun _ => hk, fun h1 => absurd rfl h1⟩
      · refine ⟨fun h1 => ?_, fun _ _ => by rw [PressureUnit.calledRevert, hk]; rfl⟩
        rcases h1 with h1 | h1
        · exact absurd h1 h.1
        · rw [h.2] at h1; cases h1

theorem revertTimer_judgePressure (s : State) (was : RefSettings) :
    ((s.judgePressure was).pressure.source = .primary ∨ (s.judgePressure was).primaryValid = false →
      (s.judgePressure was).pressure.revertTimer = none) ∧
    ((s.judgePressure was).pressure.source ≠ .primary → (s.judgePressure was).primaryValid = true →
      (s.judgePressure was).pressure.revertTimer =
        s.pressure.calledRevert) := by
  have h := revertTimer_judgeRevert (s.judgeSource was)
  have hp := pressure_judgeSource s was
  have hr : (s.judgeSource was).pressure.revertTimer = s.pressure.revertTimer :=
    (congrArg PressureUnit.revertTimer hp :)
  have hd : (s.judgeSource was).pressure.ref = s.pressure.ref := (congrArg PressureUnit.ref hp :)
  rw [PressureUnit.calledRevert, hr, hd] at h
  exact h

/-! ### The storage figures (R39, R46) -/

/-- S_dis and A are worked out from the chillers, the clock, the schedule, the tank and the plant's settings. -/
theorem capacityNow_of_kept {s t : State} (h : t.kept.chillers = s.kept.chillers) (hc : t.kept.clock = s.kept.clock)
    (hs : t.kept.schedule = s.kept.schedule) (ht : t.kept.tank = s.kept.tank) (hp : t.kept.plant = s.kept.plant) :
    t.dischargeNow = s.dischargeNow ∧ t.capacityNow = s.capacityNow := by
  change t.chillers = s.chillers at h
  change t.clock = s.clock at hc
  change t.schedule = s.schedule at hs
  change t.tank = s.tank at ht
  change t.plant = s.plant at hp
  have hd : t.dischargeNow = s.dischargeNow := by
    unfold State.dischargeNow State.slotNow State.currentSlot State.slot
    rw [hc, hs, ht, hp]
  refine ⟨hd, ?_⟩
  unfold State.capacityNow State.chillerOutput State.chiller
  rw [hd, h, hp]

/-- The plant figures of now with the storage figures alone rewritten. -/
theorem capacityNow_of_recapacity {s t : State} {c d : Nat}
    (h : t.kept = { s.kept with capacity := c, storageDischarge := d }) :
    t.dischargeNow = s.dischargeNow ∧ t.capacityNow = s.capacityNow :=
  capacityNow_of_kept (congrArg Kept.chillers h :) (congrArg Kept.clock h :) (congrArg Kept.schedule h :)
    (congrArg Kept.tank h :) (congrArg Kept.plant h :)

theorem kept_recapacity (e : Event) :
    e.recapacity.st.kept = { e.st.kept with capacity := e.st.capacityNow, storageDischarge := e.st.dischargeNow } := rfl

/-! ### The time since the last POLL (R154) -/

/-- An end of a rotation sends no frame. -/
theorem sincePoll_passRotation (s : State) (b : Fin 6) (n : Fin 48) :
    ((s.passRotation b).stn n).sincePoll = (s.stn n).sincePoll := by
  unfold State.passRotation
  split
  · rw [endRotation_eq]
    split
    · next h =>
      unfold State.enterOffering
      extract_lets act v w x
      have hw : w = v := foldl_release_of_no_grant fun n hn => no_grant_of_restCalled h hn
      have hx : (x.stn n).sincePoll = (w.stn n).sincePoll :=
        foldl_keeps (fun s : State => (s.stn n).sincePoll) (fun s n => s.setStanding n .offerOwed) (fun s m => by
          simp only [State.setStanding, stn_updStn]
          split
          · next e => rw [e]
          · rfl) act w
      rw [stn_judgeOffering, hx, hw]
      exact congrArg Station.sincePoll (stn_rotated s b n)
    · rw [stn_rotated]
  · rfl

/-- The time since the last POLL to a station starts afresh exactly when its arbiter sends one (R154). -/
theorem sincePoll_arbitrate (s : State) (b : Fin 6) (n : Fin 48) :
    ((s.arbitrate b).stn n).sincePoll = (s.stn n).sincePoll ∨
      (((s.arbitrate b).stn n).sincePoll = some 0 ∧ (s.br b).txn = none ∧
        ((s.arbitrate b).br b).txn = some ⟨n, .poll, false⟩) := by
  rcases arbitrate_cases s b with ⟨e, -⟩ | ⟨-, ht, ⟨-, e⟩ | ⟨c, -, e⟩⟩
  · exact .inl (by rw [e])
  · exact .inl (by rw [e, sincePoll_passRotation])
  rw [e, ← sincePoll_passRotation s b n]
  generalize s.passRotation b = v
  cases c with
  | cap =>
    left
    show ((v.sendCap b).stn n).sincePoll = _
    unfold State.sendCap
    split <;> rfl
  | rest m => exact .inl rfl
  | meter =>
    left
    show ((v.sendMeterAsk b).stn n).sincePoll = _
    unfold State.sendMeterAsk
    split <;> rfl
  | rotation m =>
    by_cases hp : (decide ((v.stn m).state = .active) || decide ((v.stn m).state = .attaching)) = true
    · by_cases hm : n = m
      · subst hm
        right
        refine ⟨?_, ht, ?_⟩
        · simp [State.send, State.sendRotation, hp]
        · rw [State.send, txn_sendRotation, if_pos hp]
      · left
        simp [State.send, State.sendRotation, hp, stn_updStn, hm]
    · left
      simp [State.send, State.sendRotation, hp]

theorem sincePoll_arbitrateAll (s : State) (n : Fin 48) :
    (s.arbitrateAll.stn n).sincePoll = (s.stn n).sincePoll ∨
      ((s.arbitrateAll.stn n).sincePoll = some 0 ∧ ∃ b, (s.arbitrateAll.br b).txn = some ⟨n, .poll, false⟩) := by
  unfold State.arbitrateAll
  generalize allBranches = l
  induction l using List.reverseRecOn with
  | nil => exact .inl rfl
  | append_singleton l b ih =>
    rw [List.foldl_append, List.foldl_cons, List.foldl_nil]
    generalize l.foldl State.arbitrate s = v at ih
    rcases sincePoll_arbitrate v b n with h | ⟨h, -, ht⟩
    · rw [h]
      refine ih.imp id fun ⟨h0, d, hd⟩ => ⟨h0, d, ?_⟩
      by_cases hdb : d = b
      · subst hdb
        rw [arbitrate_of_busy (by rw [hd]; exact nofun), hd]
      · rw [(arbitrate_arbitrated v b).others d hdb, hd]
    · exact .inr ⟨h, b, ht⟩

/-! ### The end of an event, for what the clock touches -/

/-- What the allocator leaves of the pressure reference unit, the storage command and the plant bus. -/
theorem pressure_allocate (e : Event) :
    (allocate e).pressure = e.st.pressure ∧ (allocate e).lastTankCommand = e.st.lastTankCommand ∧
      (allocate e).busSent = e.st.busSent ∧ (allocate e).clock = e.st.clock := by
  have h := unshed_allocate e
  generalize allocate e = t at h
  exact ⟨(congrArg State.pressure h :), (congrArg State.lastTankCommand h :), (congrArg State.busSent h :),
    (congrArg State.clock h :)⟩

theorem wakeTimer_of_unsent {s t : State} (h : t.unsent = s.unsent) (b : Fin 6) :
    (t.br b).wakeTimer = (s.br b).wakeTimer := (congrArg Branch.wakeTimer (br_unsent_of_eq h b) :)

theorem wakeTimer_allocate (e : Event) (b : Fin 6) : ((allocate e).br b).wakeTimer = (e.st.br b).wakeTimer := by
  have h := br_allocate e b
  generalize allocate e = t at h
  exact (congrArg Branch.wakeTimer h :)

theorem sincePoll_allocate (e : Event) (n : Fin 48) : ((allocate e).stn n).sincePoll = (e.st.stn n).sincePoll := by
  have h := stn_allocate e n
  generalize allocate e = t at h
  exact (congrArg Station.sincePoll h :)

theorem pressure_of_unsent {s t : State} (h : t.unsent = s.unsent) : t.pressure = s.pressure ∧ t.clock = s.clock :=
  ⟨(congrArg State.pressure h :), (congrArg State.clock h :)⟩

theorem pressure_of_unstored {s t : State} (h : t.unstored = s.unstored) : t.pressure = s.pressure :=
  (congrArg State.pressure h :)

/-- What the arbiters and the storage command leave of the pressure reference unit and the clock. -/
theorem pressure_settled (s before : State) (c r : Bool) :
    (s.arbitrateAll.settleStorage before c r).pressure = s.pressure ∧ s.arbitrateAll.clock = s.clock := by
  obtain ⟨hp, hc⟩ := pressure_of_unsent (unsent_arbitrateAll s)
  exact ⟨(pressure_of_unstored (unstored_settleStorage _ _ _ _)).trans hp, hc⟩

/-- The revert timer at the end of an event (R162). -/
theorem revertTimer_settle (s before : State) (c r : Bool) :
    ((s.settle before c r).pressure.source = .primary ∨ (s.settle before c r).primaryValid = false →
      (s.settle before c r).pressure.revertTimer = none) ∧
    ((s.settle before c r).pressure.source ≠ .primary → (s.settle before c r).primaryValid = true →
      (s.settle before c r).pressure.revertTimer =
        s.pressure.calledRevert) := by
  have h := revertTimer_judgePressure (s.arbitrateAll.settleStorage before c r) before.pressure.ref
  rw [(pressure_settled s before c r).1] at h
  unfold State.settle
  generalize (s.arbitrateAll.settleStorage before c r).judgePressure before.pressure.ref = v at h
  exact h

theorem currentSlot_of_clock {s t : State} (h : t.clock = s.clock) : t.currentSlot = s.currentSlot :=
  congrArg (Option.map slotOf) h

theorem currentSlot_of_inputs {s t : State} (h : t.storageInputs = s.storageInputs) : t.currentSlot = s.currentSlot :=
  (congrArg StorageInputs.slot h :)

/-- The storage command at the end of an event in which the current slot has changed (R48, R49). -/
theorem storage_finish {e : Event} {before : State} (h : e.st.currentSlot ≠ before.currentSlot)
    (hl : e.st.lastTankCommand = before.lastTankCommand) (hb : e.st.busSent = before.busSent) :
    (e.finish before).chargeAllowance = (e.finish before).chargeNow ∧
      before.tankSettled (e.finish before) false := by
  obtain ⟨-, al, ab, ac⟩ := pressure_allocate e
  obtain ⟨ul, ub⟩ := last_of_unsent (unsent_arbitrateAll (allocate e))
  obtain ⟨-, uc⟩ := pressure_of_unsent (unsent_arbitrateAll (allocate e))
  have hslot : (allocate e).arbitrateAll.storageInputs ≠ before.storageInputs := fun he =>
    h ((currentSlot_of_clock (uc.trans ac)).symm.trans (currentSlot_of_inputs he))
  have hu : (e.finish before).unjudged =
      ((allocate e).arbitrateAll.settleStorage before (e.pass || e.st.shedCalled) false).unjudged := unjudged_settle _ _ _ _
  generalize e.finish before = t at hu
  exact storage_of_touched rfl (.inr hslot) (ul.trans (al.trans hl)) (ub.trans (ab.trans hb)) hu

/-! ### A second passes -/

theorem stn_age (s : State) (n : Fin 48) : s.age.stn n = (s.stn n).tick := by
  simp [State.age, State.stn]

theorem br_age (s : State) (b : Fin 6) : s.age.br b = (s.br b).tick := by
  simp [State.age, State.br]

/-- The clock, the timers and the ages in the kept part (R20, R25, R43). -/
theorem kept_age (s : State) :
    s.age.kept = { s.kept with
      clock := s.clock.map clockUp
      stations := fun n => (s.stn n).tick.stable
      chillers := Vector.ofFn fun u => (s.chiller u).tick
      watches := Vector.ofFn fun a => if s.watched a then (s.watch a).tick else s.watch a
      plantDp := s.plantDp.map ageUp
      trimTimer := s.pressure.trimTimer - 1 } := by
  have hs : (fun n => (s.age.stn n).stable) = fun n => (s.stn n).tick.stable := funext fun n => by rw [stn_age]
  have hb : (fun b => ((s.age.br b).settings, (s.age.br b).badFrames, (s.age.br b).protocolErrors)) =
      fun b => ((s.br b).settings, (s.br b).badFrames, (s.br b).protocolErrors) := funext fun b => by rw [br_age]; rfl
  simp only [State.kept, hs, hb]
  simp only [State.age]
  rfl

theorem pressure_age (s : State) :
    s.age.pressure = s.pressure.tick ∧ s.age.clock = s.clock.map clockUp ∧ s.age.busSent = s.busSent ∧
      s.age.lastTankCommand = s.lastTankCommand ∧ s.age.branches = Vector.ofFn (fun b => (s.br b).tick) ∧
      s.age.capacity = s.capacity ∧ s.age.storageDischarge = s.storageDischarge := by
  simp only [State.age, and_self]

/-- The revert timer one second later, as R162 starts it where it stood still. -/
theorem tickedRevert (s : State) :
    s.pressure.tick.calledRevert =
    match s.pressure.revertTimer with
      | some k => some (k - 1)
      | none => some s.pressure.ref.revertDelay := by
  unfold PressureUnit.calledRevert PressureUnit.tick tickDown
  cases s.pressure.revertTimer <;> rfl

theorem busSent_of_unjudged {s t : State} (h : t.unjudged = s.unjudged) :
    t.busSent = s.busSent ∧ t.branches = s.branches :=
  ⟨(congrArg State.busSent h :), (congrArg State.branches h :)⟩

/-- A second within a slot: the pressures alone are judged. -/
theorem clockTick_within {s : State} (h : s.age.currentSlot = s.currentSlot) :
    s.clockTick = s.age.finishPressure s := if_pos h

/-- A second that brings another slot (R44). -/
theorem clockTick_change {s : State} (h : s.age.currentSlot ≠ s.currentSlot) :
    s.clockTick = s.age.event.recapacity.finish s := if_neg h

theorem unjudged_finishPressure (s before : State) : (s.finishPressure before).unjudged = s.unjudged := by
  rw [State.finishPressure, unjudged_judgeRelay, unjudged_judgePressure]

/-- The revert timer after a second that judges the pressures alone. -/
theorem revertTimer_finishPressure (s before : State) :
    ((s.finishPressure before).pressure.source = .primary ∨ (s.finishPressure before).primaryValid = false →
      (s.finishPressure before).pressure.revertTimer = none) ∧
    ((s.finishPressure before).pressure.source ≠ .primary → (s.finishPressure before).primaryValid = true →
      (s.finishPressure before).pressure.revertTimer =
        s.pressure.calledRevert) := by
  have h := revertTimer_judgePressure s before.pressure.ref
  unfold State.finishPressure
  generalize s.judgePressure before.pressure.ref = v at h
  exact h

theorem currentSlot_age (s : State) : s.age.currentSlot = (s.clock.map clockUp).map slotOf := by
  rw [State.currentSlot, (pressure_age s).2.1]

/-- The records and the pressure reference unit that the recomputed storage figures leave alone. -/
theorem recapacity_same (e : Event) :
    (∀ b, e.recapacity.st.br b = e.st.br b) ∧ (∀ n, e.recapacity.st.stn n = e.st.stn n) ∧
      e.recapacity.st.pressure = e.st.pressure ∧ e.recapacity.st.currentSlot = e.st.currentSlot ∧
      e.recapacity.st.lastTankCommand = e.st.lastTankCommand ∧ e.recapacity.st.busSent = e.st.busSent :=
  ⟨fun _ => rfl, fun _ => rfl, rfl, rfl, rfl, rfl⟩

/-- Settles O46: within a slot the aged state with its pressures judged, at a slot change the end of an event over it. -/
theorem aSecondPasses : Obligations.ASecondPasses := by
  intro s hp down older clock change
  have hexec : exec .clockTick s = .next s.clockTick := exec_on (·.clockTick) rfl hp
  have hslot : s.age.currentSlot = clock.map slotOf := currentSlot_age s
  obtain ⟨apress, -, abus, alast, abranches, acap, adis⟩ := pressure_age s
  by_cases hs : s.age.currentSlot = s.currentSlot
  · have hc : change = false := decide_eq_false fun h => h (hslot.symm.trans hs)
    rw [clockTick_within hs] at hexec
    have hk := (kept_finishPressure s.age s).trans (kept_age s)
    have hu := unjudged_finishPressure s.age s
    have hrev := revertTimer_finishPressure s.age s
    rw [apress, tickedRevert] at hrev
    have hbr : ∀ b, (s.age.finishPressure s).br b = (s.br b).tick := fun b => (br_of_unjudged hu b).trans (br_age s b)
    have hstn : ∀ n, (s.age.finishPressure s).stn n = (s.stn n).tick := fun n => (stn_of_unjudged hu n).trans (stn_age s n)
    obtain ⟨hbus, hbranches⟩ := busSent_of_unjudged hu
    generalize s.age.finishPressure s = t at hexec hk hrev hbr hstn hbus hbranches
    refine ⟨t, hexec, hk.trans ?_, fun b => congrArg Branch.wakeTimer (hbr b), fun n => .inl (congrArg Station.sincePoll (hstn n)),
      hrev.1, hrev.2, fun h => absurd (hc.symm.trans h) nofun, fun _ => ⟨hbranches.trans abranches, hbus.trans abus⟩⟩
    simp only [hc, Bool.false_eq_true, if_false]
    rfl
  · have hc : change = true := decide_eq_true fun h => hs (hslot.trans h)
    rw [clockTick_change hs] at hexec
    obtain ⟨rbr, rstn, rpress, rslot, rlast, rbus⟩ := recapacity_same s.age.event
    have hk := (kept_finish s.age.event.recapacity s).trans (kept_recapacity s.age.event)
    have hrev := revertTimer_settle (allocate s.age.event.recapacity) s
      (s.age.event.recapacity.pass || s.age.event.recapacity.st.shedCalled) false
    rw [(pressure_allocate s.age.event.recapacity).1, rpress, event_st, apress, tickedRevert] at hrev
    have hstore := storage_finish (e := s.age.event.recapacity) (before := s) (by rw [rslot]; exact hs)
      (by rw [rlast]; exact alast) (by rw [rbus]; exact abus)
    have hwake : ∀ b, ((s.age.event.recapacity.finish s).br b).wakeTimer = down (s.br b).wakeTimer := fun b => by
      rw [br_finish, wakeTimer_of_unsent (unsent_arbitrateAll _), wakeTimer_allocate, rbr, event_st, br_age]
      rfl
    have hpoll : ∀ n, ((s.age.event.recapacity.finish s).stn n).sincePoll = (s.stn n).sincePoll.map countUp ∨
        (((s.age.event.recapacity.finish s).stn n).sincePoll = some 0 ∧
          ∃ b, ((s.age.event.recapacity.finish s).br b).txn = some ⟨n, .poll, false⟩) := fun n => by
      have h := sincePoll_arbitrateAll (allocate s.age.event.recapacity) n
      rw [sincePoll_allocate, rstn, event_st, stn_age] at h
      simp only [stn_finish, br_finish]
      exact h
    rw [← Event.finish] at hrev
    generalize s.age.event.recapacity.finish s = t at hexec hk hrev hstore hwake hpoll
    have hnow := capacityNow_of_recapacity hk
    rw [event_st] at hnow
    refine ⟨t, hexec, hk.trans ?_, hwake, fun n => (hpoll n).imp_right fun h => ⟨hc, h⟩, hrev.1, hrev.2, fun _ => hstore,
      fun h => absurd (hc.symm.trans h) nofun⟩
    rw [event_st, kept_age, hnow.1, hnow.2]
    simp only [hc, if_true]
    rfl

end Sys2Proof.Machine
end

section
/-!
SUPPORT. A station is taken off its branch (R5, R11, R15, R91, R127, R135, R138): what that writes of the records, the queue, the
transaction and the read slot, and the METER-DONE notices it brings, which stay on the link up to the end of the event.
-/

namespace Sys2Proof.Machine

/-! ### Notices on the link (R180) -/

/-- A notice is on the line, or waits with at most `k` frames behind it. -/
def Link.recent (l : Link) (k : Nat) (x : OutFrame) : Prop :=
  l.sending = some x ∨ ∃ front back, l.waiting = front ++ x :: back ∧ back.length ≤ k

theorem Link.recent.mono {l : Link} {k m : Nat} {x : OutFrame} (h : l.recent k x) (hm : k ≤ m) : l.recent m x :=
  h.imp_right fun ⟨front, back, hw, hl⟩ => ⟨front, back, hw, hl.trans hm⟩

theorem Link.recent.mem {l : Link} {k : Nat} {x : OutFrame} (h : l.recent k x) : x ∈ l.sending.toList ++ l.waiting := by
  rcases h with h | ⟨front, back, hw, -⟩
  · simp [h]
  · simp [hw]

theorem Link.recent.issue {l : Link} {k : Nat} {x : OutFrame} (h : l.recent k x) (f : OutFrame) :
    (l.issue f).recent (k + 1) x := by
  unfold Link.issue
  split
  · next e =>
    rcases h with h | ⟨front, back, hw, hl⟩
    · rw [e] at h; cases h
    · exact .inr ⟨front, back, hw, by omega⟩
  · next e =>
    refine h.imp_right fun ⟨front, back, hw, hl⟩ => ⟨front, back ++ [f], by simp [hw], by simpa using hl⟩

/-- A notice with fewer than 15 frames behind it is not the oldest of 16, so none issued after it displaces it. -/
theorem Link.recent.issueNotice {l : Link} {k : Nat} {x : OutFrame} (h : l.recent k x) (hk : k < 15) (n : Notice) :
    (l.issueNotice n).recent (k + 1) x := by
  unfold Link.issueNotice
  split
  · next hfull =>
    simp only [Bool.and_eq_true, decide_eq_true_eq] at hfull
    refine h.imp_right fun ⟨front, back, hw, hl⟩ => ?_
    have hcount : (l.waiting.filter OutFrame.isNotice).length ≤ (front.filter OutFrame.isNotice).length + (back.length + 1) := by
      rw [hw, List.filter_append, List.length_append]
      exact Nat.add_le_add_left (List.length_filter_le _ (x :: back)) _
    have hfront : 0 < (front.filter OutFrame.isNotice).length := by
      have := hfull.2
      unfold Link.waitingNotices at this
      omega
    obtain ⟨o, ho⟩ := List.exists_mem_of_length_pos hfront
    obtain ⟨hof, hon⟩ := List.mem_filter.mp ho
    refine ⟨front.eraseP OutFrame.isNotice, back ++ [.notice n], ?_, by simpa using hl⟩
    dsimp only
    rw [hw, List.eraseP_append_left hon _ hof]
    simp
  · exact h.issue _

/-- A notice just issued has nothing behind it. -/
theorem Link.recent_issueNotice (l : Link) (n : Notice) :
    (l.issueNotice n).recent 0 (.notice n) := by
  unfold Link.issueNotice
  split
  · exact .inr ⟨_, [], rfl, le_rfl⟩
  · unfold Link.issue
    split
    · exact .inl rfl
    · exact .inr ⟨_, [], rfl, le_rfl⟩

/-! ### What follows an event on the link -/

/-- The judging of the pressures issues at most one notice. -/
theorem link_judgePressure (s : State) (was : RefSettings) :
    (s.judgePressure was).link = s.link ∨ ∃ n, (s.judgePressure was).link = s.link.issueNotice n := by
  have hr (v : State) : v.judgeRevert.link = v.link := by
    unfold State.judgeRevert
    repeat' split
    all_goals rfl
  have hl (lost : Option (Fin 48)) :
      (s.loseSource lost).link = s.link ∨ ∃ n, (s.loseSource lost).link = s.link.issueNotice n := by
    cases lost with
    | none => exact .inl rfl
    | some n => exact link_raise (s.setSource s.fallbackSource) .indexLost n.val
  rw [State.judgePressure, hr]
  unfold State.judgeSource
  split
  · split
    · exact .inl rfl
    · split
      · exact .inl rfl
      · exact hl _
  · split
    · exact .inl rfl
    · exact hl _
  · split <;> exact .inl rfl
  · split <;> exact .inl rfl

theorem link_of_unsent {s t : State} (h : t.unsent = s.unsent) : t.link = s.link := (congrArg State.link h :)

theorem link_of_ungranted {s t : State} (h : t.ungranted = s.ungranted) : t.link = s.link := (congrArg State.link h :)

theorem link_of_unstored {s t : State} (h : t.unstored = s.unstored) : t.link = s.link := (congrArg State.link h :)

/-- The end of an event issues at most one notice beside those of a shed. -/
theorem link_settle (s before : State) (t r : Bool) :
    (s.settle before t r).link = s.link ∨ ∃ n, (s.settle before t r).link = s.link.issueNotice n := by
  have hl : (s.arbitrateAll.settleStorage before t r).link = s.link :=
    (link_of_unstored (unstored_settleStorage _ _ _ _)).trans (link_of_unsent (unsent_arbitrateAll s))
  unfold State.settle
  generalize s.arbitrateAll.settleStorage before t r = v at hl
  rw [← hl]
  exact link_judgePressure v _

/-- Where no shed is called for, a notice stays on the link through the end of the event. -/
theorem Link.recent.settle {s : State} {k : Nat} {x : OutFrame} (h : s.link.recent k x) (hk : k < 15) (before : State) (t r : Bool) :
    (s.settle before t r).link.recent (k + 1) x := by
  rcases link_settle s before t r with e | ⟨n, e⟩
  · rw [e]; exact h.mono (Nat.le_succ k)
  · rw [e]; exact h.issueNotice hk n

theorem Link.recent.finish {e : Event} {k : Nat} {x : OutFrame} (h : e.st.link.recent k x) (hk : k < 15)
    (hs : e.st.shedCalled = false) (before : State) : (e.finish before).link.recent (k + 1) x := by
  unfold Event.finish
  rw [← link_of_ungranted (ungranted_allocate hs)] at h
  generalize allocate e = v at h
  exact h.settle hk _ _ _

theorem Link.recent.answeredOnly {s : State} {k : Nat} {x : OutFrame} (h : s.link.recent k x) (tag : Nat) (r : Reply) :
    (State.answeredOnly { s with session := none } tag r).link.recent (k + 1) x := h.issue _

/-! ### The transaction and the read slot up to the end of an event -/

/-- The frame of a branch's read is sent, which counts the attempt, or the read stays as it was (R137). -/
def Branch.asksOrKeeps (c c' : Branch) : Prop :=
  c'.read = c.read ∨
    ∃ r, c.read = some r ∧ c'.read = some { r with attempts := r.attempts + 1, owed := false } ∧
      c'.txn = some ⟨r.station, .meterAsk, false⟩

theorem read_send (s : State) (b : Fin 6) (c : Choice) : (s.br b).asksOrKeeps ((s.send b c).br b) := by
  cases c with
  | cap =>
    left
    show ((s.sendCap b).br b).read = _
    unfold State.sendCap
    split <;> simp
  | rest n =>
    left
    simp [State.send, Branch.start]
  | meter =>
    show (s.br b).asksOrKeeps ((s.sendMeterAsk b).br b)
    unfold State.sendMeterAsk
    split
    · next r hr =>
      right
      exact ⟨r, hr, by simp, by simp [Branch.start]⟩
    · exact .inl rfl
  | rotation n =>
    left
    show ((s.sendRotation b n).br b).read = _
    unfold State.sendRotation
    dsimp only
    split <;> simp [Branch.start]

theorem read_arbitrate (s : State) (b : Fin 6) : (s.br b).asksOrKeeps ((s.arbitrate b).br b) := by
  rcases arbitrate_cases s b with ⟨e, -⟩ | ⟨-, -, h⟩
  · exact .inl (by rw [e])
  have hp : ((s.passRotation b).br b).read = (s.br b).read := (congrArg Branch.read (unrotated_passRotation s b) :)
  rcases h with ⟨-, e⟩ | ⟨c, -, e⟩
  · exact .inl (by rw [e, hp])
  · have := read_send (s.passRotation b) b c
    rwa [Branch.asksOrKeeps, hp, ← e] at this

theorem read_arbitrateAll (s : State) (b : Fin 6) : (s.br b).asksOrKeeps (s.arbitrateAll.br b) := by
  obtain ⟨v, -, hv, hb⟩ := br_arbitrateAll s b
  rw [hb, ← hv]
  exact read_arbitrate v b

/-- Where no read is outstanding, none is at the end of the event. -/
theorem Branch.asksOrKeeps.none {c c' : Branch} (h : c.asksOrKeeps c') (hc : c.read = none) : c'.read = none := by
  rcases h with h | ⟨r, hr, -⟩
  · rw [h, hc]
  · rw [hc] at hr; cases hr

theorem read_allocate (e : Event) (b : Fin 6) : ((allocate e).br b).read = (e.st.br b).read :=
  (congrArg Branch.read (br_allocate e b) :)

theorem txn_allocate (e : Event) (b : Fin 6) : ((allocate e).br b).txn = (e.st.br b).txn :=
  (congrArg Branch.txn (br_allocate e b) :)

theorem read_finish_none {e : Event} {b : Fin 6} (h : (e.st.br b).read = none) (before : State) :
    ((e.finish before).br b).read = none := by
  rw [br_finish]
  exact (read_arbitrateAll _ b).none ((read_allocate e b).trans h)

/-- A transaction goes on through the end of an event. -/
theorem txn_settle_busy {s : State} {b : Fin 6} {x : Txn} (h : (s.br b).txn = some x) (before : State) (t r : Bool) :
    ((s.settle before t r).br b).txn = some x := by
  rw [br_settle, br_arbitrateAll_of_busy (by rw [h]; exact nofun), h]

theorem txn_finish_busy {e : Event} {b : Fin 6} {x : Txn} (h : (e.st.br b).txn = some x) (before : State) :
    ((e.finish before).br b).txn = some x :=
  txn_settle_busy ((txn_allocate e b).trans h) before _ _

/-! ### Caps and grants that fall stay within their limits -/

theorem sumOver_le (l : List (Fin 48)) {f g : Fin 48 → Nat} (h : ∀ n, f n ≤ g n) : sumOver l f ≤ sumOver l g := by
  unfold sumOver
  exact List.sum_le_sum fun n _ => h n

/-- Where A, the windows and the limits stay and no grant and no cap rises, what was within its limits is so still (R64, R104). -/
theorem lawful_of_fallen {s t : State} (hcap : t.capacity = s.capacity)
    (hset : ∀ b, (t.br b).settings = (s.br b).settings) (hg : ∀ n, (t.stn n).grantKw ≤ (s.stn n).grantKw)
    (hc : ∀ n, (t.stn n).grantCap ≤ (s.stn n).grantCap) (hl : s.capsLawful) (hs : s.sumGrants ≤ s.capacity) :
    t.capsLawful ∧ t.sumGrants ≤ t.capacity := by
  have hwin (b : Fin 6) : t.windowStations b = s.windowStations b := by
    have : t.inWindow b = s.inWindow b := funext fun n => by rw [State.inWindow, State.inWindow, hset]
    rw [State.windowStations, State.windowStations, this]
  refine ⟨fun b hb => ?_, ?_⟩
  · rw [hset] at hb
    rw [State.capSum, hwin, State.flowLimit, hset]
    exact (sumOver_le _ hc).trans (hl b hb)
  · rw [hcap]
    exact (sumOver_le _ hg).trans hs

theorem shedCalled_of_fallen {s t : State} (hcap : t.capacity = s.capacity)
    (hset : ∀ b, (t.br b).settings = (s.br b).settings) (hg : ∀ n, (t.stn n).grantKw ≤ (s.stn n).grantKw)
    (hc : ∀ n, (t.stn n).grantCap ≤ (s.stn n).grantCap) (hl : s.capsLawful) (hs : s.sumGrants ≤ s.capacity) :
    t.shedCalled = false := by
  obtain ⟨h1, h2⟩ := lawful_of_fallen hcap hset hg hc hl hs
  exact shedCalled_of_lawful h1 h2

/-! ### Taking a station off its branch -/

/-- A branch's record with the read outstanding for a station ended. -/
def Branch.withoutRead (c : Branch) (n : Fin 48) : Branch :=
  { c with read := c.read.filter fun r => decide (r.station ≠ n) }

theorem br_endRead (s : State) (b d : Fin 6) (n : Fin 48) (o : MeterOutcome) :
    (s.endRead b n o).br d = if d = b then (s.br b).withoutRead n else s.br d := by
  have keeps (h : (s.br b).read.filter (fun r => decide (r.station ≠ n)) = (s.br b).read) :
      s.br d = if d = b then (s.br b).withoutRead n else s.br d := by
    split
    · next e => rw [Branch.withoutRead, h, e]
    · rfl
  unfold State.endRead
  split
  · next r hr =>
    split
    · next hn =>
      rw [br_notify, br_updBr, Branch.withoutRead, hr, Option.filter_some_neg (by simpa using hn)]
    · next hn => exact keeps (by rw [hr, Option.filter_some_pos (by simpa using hn)])
  · next hr => exact keeps (by rw [hr]; rfl)

theorem br_endReads (s : State) (n : Fin 48) (o : MeterOutcome) (d : Fin 6) :
    (s.endReads n o).br d = (s.br d).withoutRead n := by
  have twice (c : Branch) : (c.withoutRead n).withoutRead n = c.withoutRead n := by
    simp [Branch.withoutRead, Option.filter_filter]
  have h (l : List (Fin 6)) (s : State) :
      (l.foldl (fun s b => s.endRead b n o) s).br d = if d ∈ l then (s.br d).withoutRead n else s.br d := by
    induction l generalizing s with
    | nil => rfl
    | cons b l ih =>
      rw [List.foldl_cons, ih, br_endRead]
      by_cases hd : d = b
      · simp [hd, twice]
      · simp [hd]
  rw [State.endReads, h, if_pos (by simp [allBranches])]

/-- What the end of a station's reads leaves alone: all but the read slots and the notices. -/
theorem stn_endRead (s : State) (b : Fin 6) (n : Fin 48) (o : MeterOutcome) (m : Fin 48) :
    (s.endRead b n o).stn m = s.stn m := by
  unfold State.endRead
  repeat' split
  all_goals rfl

theorem stn_endReads (s : State) (n : Fin 48) (o : MeterOutcome) (m : Fin 48) :
    (s.endReads n o).stn m = s.stn m :=
  foldl_keeps (fun s : State => s.stn m) _ (fun s b => stn_endRead s b n o m) _ s

/-! ### The notices of the reads that end (R138) -/

/-- The number of reads outstanding. -/
def State.openReads (s : State) : Nat := (Finset.univ.filter fun b => (s.br b).read.isSome = true).card

/-- A notice is on the link with so few frames behind it that the notices of the reads still outstanding cannot displace it. -/
def State.noted (s : State) (x : OutFrame) : Prop := ∃ k, s.link.recent k x ∧ k + s.openReads ≤ 6

theorem openReads_le (s : State) : s.openReads ≤ 6 := (Finset.card_le_univ _).trans (by simp)

theorem openReads_endRead {s : State} {b : Fin 6} {r : MeterRead} (h : (s.br b).read = some r) (o : MeterOutcome) :
    (s.endRead b r.station o).openReads + 1 = s.openReads := by
  have hb : b ∈ Finset.univ.filter fun b => (s.br b).read.isSome = true := by simp [h]
  have he : (Finset.univ.filter fun d => ((s.endRead b r.station o).br d).read.isSome = true) =
      (Finset.univ.filter fun b => (s.br b).read.isSome = true).erase b := by
    ext d
    simp only [br_endRead, Finset.mem_filter, Finset.mem_univ, true_and, Finset.mem_erase]
    by_cases hd : d = b
    · simp [hd, Branch.withoutRead, h]
    · simp [hd]
  rw [State.openReads, he]
  exact Finset.card_erase_add_one hb

/-- A read ended issues its notice; where none is outstanding for the station nothing is changed. -/
theorem endRead_cases (s : State) (b : Fin 6) (n : Fin 48) (o : MeterOutcome) :
    (s.endRead b n o = s ∧ ∀ r, (s.br b).read = some r → r.station ≠ n) ∨
      ∃ r, (s.br b).read = some r ∧ r.station = n ∧
        (s.endRead b n o).link = s.link.issueNotice (.meterDone r.tag n o) := by
  unfold State.endRead
  split
  · next r hr =>
    split
    · next hn => exact .inr ⟨r, hr, hn, rfl⟩
    · next hn => exact .inl ⟨rfl, fun r' h => by rw [hr] at h; exact Option.some.inj h ▸ hn⟩
  · next hr => exact .inl ⟨rfl, fun r' h => by rw [hr] at h; cases h⟩

theorem State.noted.endRead {s : State} {x : OutFrame} (h : s.noted x) (b : Fin 6) (n : Fin 48) (o : MeterOutcome) :
    (s.endRead b n o).noted x := by
  rcases endRead_cases s b n o with ⟨e, -⟩ | ⟨r, hr, rfl, hl⟩
  · rwa [e]
  · obtain ⟨k, hk, hle⟩ := h
    have := openReads_endRead hr o
    exact ⟨k + 1, by rw [hl]; exact hk.issueNotice (by omega) _, by omega⟩

theorem State.noted.foldl_endRead {s : State} {x : OutFrame} (h : s.noted x) (l : List (Fin 6)) (n : Fin 48) (o : MeterOutcome) :
    (l.foldl (fun s b => s.endRead b n o) s).noted x := by
  induction l generalizing s with
  | nil => exact h
  | cons b l ih => exact ih (h.endRead b n o)

theorem State.noted.endReads {s : State} {x : OutFrame} (h : s.noted x) (n : Fin 48) (o : MeterOutcome) :
    (s.endReads n o).noted x := h.foldl_endRead _ n o

/-- A read that ends has its METER-DONE on the link (R138). -/
theorem noted_endRead {s : State} {b : Fin 6} {r : MeterRead} (h : (s.br b).read = some r) (o : MeterOutcome) :
    (s.endRead b r.station o).noted (.notice (.meterDone r.tag r.station o)) := by
  rcases endRead_cases s b r.station o with ⟨-, e⟩ | ⟨r', hr', -, hl⟩
  · exact absurd rfl (e r h)
  · obtain rfl := Option.some.inj (h.symm.trans hr')
    have := openReads_endRead h o
    have := openReads_le s
    exact ⟨0, by rw [hl]; exact Link.recent_issueNotice _ _, by omega⟩

theorem noted_endReads {s : State} {b : Fin 6} {r : MeterRead} (h : (s.br b).read = some r) (o : MeterOutcome) :
    (s.endReads r.station o).noted (.notice (.meterDone r.tag r.station o)) := by
  have hl (l : List (Fin 6)) (s : State) (h : (s.br b).read = some r) (hb : b ∈ l) :
      (l.foldl (fun s b => s.endRead b r.station o) s).noted (.notice (.meterDone r.tag r.station o)) := by
    induction l generalizing s with
    | nil => cases hb
    | cons d l ih =>
      rw [List.foldl_cons]
      by_cases hd : b = d
      · rw [← hd]
        exact (noted_endRead h o).foldl_endRead l r.station o
      · exact ih _ (by rw [br_endRead, if_neg hd, h]) ((List.mem_cons.mp hb).resolve_left hd)
  exact hl _ s h (by simp [allBranches])

/-- A notice that the reads ended have brought is on the link after the reply to the request that ended them, where no shed was
called for. -/
theorem State.noted.finish {e : Event} {x : OutFrame} (h : e.st.noted x) (hs : e.st.shedCalled = false) (before : State) :
    ∃ k ≤ 7, (e.finish before).link.recent k x := by
  obtain ⟨k, hk, hle⟩ := h
  exact ⟨k + 1, by omega, hk.finish (by omega) hs before⟩

/-! ### A station off its branch (R91, R127, R135) -/

/-- The record of a station taken off the allocator and its branch. -/
def Station.detached (r : Station) : Station := { r with grantKw := 0, standing := .uninvolved }

/-- What is left of a station in its branch's record, its read apart: its cap entries removed, its transaction abandoned. -/
def Branch.without (c : Branch) (n : Fin 48) : Branch := (c.removeEntries n).abandon n

theorem stn_detach (s : State) (n m : Fin 48) :
    (s.detach n).stn m = if m = n then (s.stn n).detached else s.stn m := by
  rw [State.detach, stn_mapBr]
  exact stn_updStn s n m Station.detached

theorem br_detach (s : State) (n : Fin 48) (b : Fin 6) : (s.detach n).br b = (s.br b).without n := by
  rw [State.detach, br_mapBr]
  rfl

/-- What a station taken off its branch leaves alone beside the records. -/
theorem detach_same (s : State) (n : Fin 48) :
    (s.detach n).link = s.link ∧ (s.detach n).faults = s.faults ∧ (s.detach n).capacity = s.capacity ∧
      (s.detach n).plant = s.plant := ⟨rfl, rfl, rfl, rfl⟩

theorem kept_mapBr {s : State} {f : Branch → Branch} (h : ∀ c, (f c).settings = c.settings)
    (h1 : ∀ c, (f c).badFrames = c.badFrames) (h2 : ∀ c, (f c).protocolErrors = c.protocolErrors) :
    (s.mapBr f).kept = s.kept := by
  have hb : (fun d => (((s.mapBr f).br d).settings, ((s.mapBr f).br d).badFrames, ((s.mapBr f).br d).protocolErrors)) =
      fun d => ((s.br d).settings, (s.br d).badFrames, (s.br d).protocolErrors) :=
    funext fun d => by rw [br_mapBr, h, h1, h2]
  have hs : (fun n => ((s.mapBr f).stn n).stable) = fun n => (s.stn n).stable := funext fun n => by rw [stn_mapBr]
  simp only [State.kept, hb, hs]
  rfl

@[simp] theorem kept_detach (s : State) (n : Fin 48) : (s.detach n).kept = s.kept := by
  unfold State.detach
  dsimp only
  rw [kept_mapBr, kept_allocator, kept_updStn] <;> intro <;> rfl

@[simp] theorem kept_endRead (s : State) (b : Fin 6) (n : Fin 48) (o : MeterOutcome) : (s.endRead b n o).kept = s.kept := by
  unfold State.endRead
  split
  · split
    · rw [kept_notify, kept_updBr] <;> intro c <;> rfl
    · rfl
  · rfl

@[simp] theorem kept_endReads (s : State) (n : Fin 48) (o : MeterOutcome) : (s.endReads n o).kept = s.kept :=
  foldl_keeps State.kept _ (fun s b => kept_endRead s b n o) _ s

/-! ### The judging of an OFFERING branch (R147) -/

/-- The branch of a station that has left ACTIVE is as it was, or has entered RESTING. -/
theorem br_judgeOfferingOf (s : State) (n : Fin 48) (b : Fin 6) :
    (s.judgeOfferingOf n).br b = s.br b ∨
      ((s.br b).rest = .offering ∧ (s.judgeOfferingOf n).br b = { s.br b with rest := .resting }) := by
  unfold State.judgeOfferingOf State.judgeOffering
  split
  · next d hd =>
    split
    · next h =>
      rw [br_updBr]
      split
      · next e => rw [e]; exact .inr ⟨h.1, rfl⟩
      · exact .inl rfl
    · exact .inl rfl
  · exact .inl rfl

theorem judgeOfferingOf_same (s : State) (n : Fin 48) :
    (s.judgeOfferingOf n).stations = s.stations ∧ (s.judgeOfferingOf n).link = s.link ∧
      (s.judgeOfferingOf n).faults = s.faults ∧ (s.judgeOfferingOf n).capacity = s.capacity := by
  unfold State.judgeOfferingOf State.judgeOffering
  repeat' split
  all_goals exact ⟨rfl, rfl, rfl, rfl⟩

theorem kept_judgeOfferingOf (s : State) (n : Fin 48) : (s.judgeOfferingOf n).kept = s.kept := by
  unfold State.judgeOfferingOf
  split
  · exact kept_judgeOffering _ _
  · rfl

/-! ### The record of a branch, but for its rest state -/

/-- A branch's record but for the state of its rest. -/
def Branch.unrested (c : Branch) : Branch := { c with rest := .live }

theorem unrested_judgeOfferingOf (s : State) (n : Fin 48) (b : Fin 6) :
    ((s.judgeOfferingOf n).br b).unrested = (s.br b).unrested := by
  rcases br_judgeOfferingOf s n b with h | ⟨-, h⟩
  · rw [h]
  · rw [h]; rfl

/-- A station taken off its branch, its reads ended and its record rewritten (R5, R11, R15). -/
def State.takeOff (s : State) (n : Fin 48) (o : MeterOutcome) (r : Station) : State :=
  ((s.detach n).endReads n o).setStn n r

theorem kept_takeOff (s : State) (n : Fin 48) (o : MeterOutcome) (r : Station) :
    (s.takeOff n o r).kept = s.kept.withStation n r := by
  rw [State.takeOff, kept_setStn_with, kept_endReads, kept_detach]

theorem stn_takeOff (s : State) (n : Fin 48) (o : MeterOutcome) (r : Station) (m : Fin 48) :
    (s.takeOff n o r).stn m = if m = n then r else s.stn m := by
  rw [State.takeOff, stn_setStn, stn_endReads, stn_detach]
  split <;> rfl

theorem br_takeOff (s : State) (n : Fin 48) (o : MeterOutcome) (r : Station) (b : Fin 6) :
    (s.takeOff n o r).br b = ((s.br b).without n).withoutRead n := by
  rw [State.takeOff, br_setStn, br_endReads, br_detach]

/-- A record that agrees in its notices and its reads keeps what is noted. -/
theorem State.noted.same {s t : State} {x : OutFrame} (h : s.noted x) (hl : t.link = s.link)
    (hr : ∀ b, (t.br b).read = (s.br b).read) : t.noted x := by
  obtain ⟨k, hk, hle⟩ := h
  have ho : t.openReads = s.openReads := by simp only [State.openReads, hr]
  exact ⟨k, by rw [hl]; exact hk, by rw [ho]; exact hle⟩

theorem State.noted.setStn {s : State} {x : OutFrame} (h : s.noted x) (n : Fin 48) (r : Station) : (s.setStn n r).noted x :=
  h.same rfl fun _ => rfl

theorem read_detach (s : State) (n : Fin 48) (b : Fin 6) : ((s.detach n).br b).read = (s.br b).read := by
  rw [br_detach]
  rfl

theorem State.noted.takeOff {s : State} {x : OutFrame} (h : s.noted x) (n : Fin 48) (o : MeterOutcome) (r : Station) :
    (s.takeOff n o r).noted x :=
  ((h.same (detach_same s n).1 (read_detach s n)).endReads n o).setStn n r

theorem noted_takeOff {s : State} {b : Fin 6} {m : MeterRead} (h : (s.br b).read = some m) (o : MeterOutcome) (r : Station) :
    (s.takeOff m.station o r).noted (.notice (.meterDone m.tag m.station o)) :=
  (noted_endReads ((read_detach s m.station b).trans h) o).setStn m.station r

theorem read_judgeOfferingOf (s : State) (n : Fin 48) (b : Fin 6) : ((s.judgeOfferingOf n).br b).read = (s.br b).read :=
  (congrArg Branch.read (unrested_judgeOfferingOf s n b) :)

theorem txn_judgeOfferingOf (s : State) (n : Fin 48) (b : Fin 6) : ((s.judgeOfferingOf n).br b).txn = (s.br b).txn :=
  (congrArg Branch.txn (unrested_judgeOfferingOf s n b) :)

theorem stn_judgeOfferingOf (s : State) (n m : Fin 48) : (s.judgeOfferingOf n).stn m = s.stn m :=
  congrArg (fun v : Vector Station 48 => v[m.val]) (judgeOfferingOf_same s n).1

theorem State.noted.judgeOfferingOf {s : State} {x : OutFrame} (h : s.noted x) (n : Fin 48) : (s.judgeOfferingOf n).noted x :=
  h.same (judgeOfferingOf_same s n).2.1 (read_judgeOfferingOf s n)

/-- A transaction to a station taken off is abandoned, and any other goes on (R127). -/
theorem txn_takeOff {s : State} {b : Fin 6} {x : Txn} (h : (s.br b).txn = some x) (n : Fin 48) (o : MeterOutcome) (r : Station) :
    ((s.takeOff n o r).br b).txn = some (if x.station = n then { x with abandoned := true } else x) := by
  rw [br_takeOff]
  simp [Branch.withoutRead, Branch.without, Branch.abandon, Branch.removeEntries, h]

theorem read_takeOff {s : State} {b : Fin 6} {m : MeterRead} (h : (s.br b).read = some m) (o : MeterOutcome) (r : Station) :
    ((s.takeOff m.station o r).br b).read = none := by
  rw [br_takeOff]
  simp [Branch.withoutRead, Branch.without, Branch.abandon, Branch.removeEntries, h]

end Sys2Proof.Machine
end

section
/-!
Stations dropped and isolated (R5, R15, R16, R120).
-/

namespace Sys2Proof.Machine

theorem flowCap_zero (d : Nat) : flowCap 0 d = 0 := by
  rcases Nat.eq_zero_or_pos d with rfl | h
  · rfl
  · exact Nat.div_eq_of_lt (by omega)

/-- A station taken off its branch, the branch judged: no shed is called for where the caps and the grants were within their
limits (R64, R104). -/
theorem shedCalled_takeOff {s : State} (hl : s.capsLawful) (hs : s.sumGrants ≤ s.capacity) {n : Fin 48} (o : MeterOutcome)
    {r : Station} (hr : r.grantKw = 0) : ((s.takeOff n o r).judgeOfferingOf n).shedCalled = false := by
  have hk : ((s.takeOff n o r).judgeOfferingOf n).kept = s.kept.withStation n r :=
    (kept_judgeOfferingOf _ n).trans (kept_takeOff s n o r)
  have hstn (m : Fin 48) : ((s.takeOff n o r).judgeOfferingOf n).stn m = if m = n then r else s.stn m := by
    rw [stn_judgeOfferingOf, stn_takeOff]
  generalize (s.takeOff n o r).judgeOfferingOf n = t at hk hstn
  have hb := congrArg Kept.branches hk
  refine shedCalled_of_fallen (congrArg Kept.capacity hk :) (fun b => (congrArg Prod.fst (congrFun hb b) :))
    (fun m => ?_) (fun m => ?_) hl hs
  · rw [hstn]
    split
    · rw [hr]; exact Nat.zero_le _
    · exact le_rfl
  · rw [hstn]
    split
    · rw [Station.grantCap, hr, flowCap_zero]; exact Nat.zero_le _
    · exact le_rfl

/-! ### STN-DROP -/

/-- The state of a drop, the end of the event apart (R5). -/
theorem drop_st (s : State) (n : Fin 48) :
    (s.event.drop n).st = (s.takeOff n .dropped Station.vacantRecord).judgeOfferingOf n := by
  simp only [Event.drop, callPass_st, map_st, event_st, State.takeOff]

theorem onStnDrop_defined {s : State} {n : Fin 48} (h : (s.stn n).state ≠ .vacant) :
    s.onStnDrop n.val = ((s.event.drop n).finish s, .done []) := by
  rw [State.onStnDrop, stationOf_val]
  exact if_neg h

theorem kept_drop (s : State) (n : Fin 48) :
    ((s.event.drop n).finish s).kept = s.kept.withStation n Station.vacantRecord := by
  rw [kept_finish, drop_st, kept_judgeOfferingOf, kept_takeOff]

/-- Settles O30: the drop takes the station off its branch, and the end of the event leaves that and its notice standing. -/
theorem stationsAreDropped : Obligations.StationsAreDropped := by
  refine ⟨fun s tag station hs h => exec_refused rfl hs ?_, fun s tag n hs => ⟨fun h => exec_refused rfl hs ?_, fun h => ?_⟩⟩
  · show s.onStnDrop station = _
    rw [State.onStnDrop, stationOf_above h]
    rfl
  · show s.onStnDrop n.val = _
    rw [State.onStnDrop, stationOf_val]
    exact if_pos h
  have hk := kept_drop s n
  obtain ⟨he, hkept⟩ := exec_request (c := .stnDrop tag n.val) rfl hs (onStnDrop_defined h) nofun nofun rfl rfl
    (congrArg Kept.link hk)
  refine ⟨_, he, by rw [hkept, hk]; rfl, fun b x hx => ?_, fun b r hr hn => ?_⟩
  · rw [br_answeredOnly]
    refine txn_finish_busy ?_ s
    rw [drop_st, txn_judgeOfferingOf]
    exact txn_takeOff hx n _ _
  · subst hn
    refine ⟨?_, fun hl hg => ?_⟩
    · rw [br_answeredOnly]
      refine read_finish_none ?_ s
      rw [drop_st, read_judgeOfferingOf]
      exact read_takeOff hr _ _
    · have hnoted : (s.event.drop r.station).st.noted (.notice (.meterDone r.tag r.station .dropped)) := by
        rw [drop_st]
        exact (noted_takeOff hr _ _).judgeOfferingOf _
      obtain ⟨k, -, hrec⟩ := hnoted.finish (by rw [drop_st]; exact shedCalled_takeOff hl hg _ rfl) s
      exact (hrec.answeredOnly tag _).mem

/-! ### ISOLATE -/

theorem nodup_allStations : allStations.Nodup := List.nodup_finRange 48

theorem mem_allStations (n : Fin 48) : n ∈ allStations := List.mem_finRange n

/-- A station becomes ISOLATED as the range changes: it is defined, in the new range and not in the old one (R15). -/
def Station.enters (old new : Option Range) (n : Fin 48) (r : Station) : Prop :=
  r.state ≠ .vacant ∧ rangeHolds new n.val = true ∧ ¬ rangeHolds old n.val = true

/-- A station leaves ISOLATED as the range changes (R16). -/
def Station.leaves (old new : Option Range) (n : Fin 48) (r : Station) : Prop :=
  rangeHolds old n.val = true ∧ ¬ rangeHolds new n.val = true ∧ r.state = .isolated

/-- The record of a station once the range has changed. -/
def Station.moved (old new : Option Range) (n : Fin 48) (r : Station) : Station :=
  if r.state = .vacant then r
  else if rangeHolds new n.val ∧ ¬ rangeHolds old n.val then r.detached.isolate
  else if rangeHolds old n.val ∧ ¬ rangeHolds new n.val ∧ r.state = .isolated then { r.expireHold with state := .seeking }
  else r

/-- The state in which a station enters ISOLATED. -/
theorem enterIsolation_st (e : Event) (n : Fin 48) :
    (e.enterIsolation n).st = (e.st.takeOff n .isolated (e.st.stn n).detached.isolate).judgeOfferingOf n := by
  have h : ((e.st.detach n).endReads n .isolated).stn n = (e.st.stn n).detached := by
    rw [stn_endReads, stn_detach, if_pos rfl]
  simp only [Event.enterIsolation, callPass_st, map_st, State.takeOff, State.updStn, h]

/-- What the change of the range does to one station. -/
theorem isolateStation_cases (old new : Option Range) (e : Event) (n : Fin 48) :
    ((e.st.stn n).enters old new n ∧ (e.isolateStation old new n).st =
        (e.st.takeOff n .isolated ((e.st.stn n).moved old new n)).judgeOfferingOf n) ∨
      (¬ (e.st.stn n).enters old new n ∧
        (e.isolateStation old new n).st = e.st.setStn n ((e.st.stn n).moved old new n)) := by
  have self : e.st.setStn n (e.st.stn n) = e.st := by
    simp [State.setStn, State.stn]
  unfold Event.isolateStation Station.enters Station.moved
  by_cases hv : (e.st.stn n).state = .vacant
  · exact .inr ⟨fun k => k.1 hv, by rw [if_pos hv, if_pos hv, self]⟩
  rw [if_neg hv, if_neg hv]
  by_cases hin : rangeHolds new n.val = true ∧ ¬ rangeHolds old n.val = true
  · refine .inl ⟨⟨hv, hin⟩, ?_⟩
    rw [if_pos (by simpa using hin), if_pos hin]
    exact enterIsolation_st e n
  · refine .inr ⟨fun k => hin k.2, ?_⟩
    rw [if_neg (by simpa using hin), if_neg hin]
    by_cases hout : rangeHolds old n.val = true ∧ ¬ rangeHolds new n.val = true ∧ (e.st.stn n).state = .isolated
    · rw [if_pos (by simpa [and_assoc] using hout), if_pos hout]
      rfl
    · rw [if_neg (by simpa [and_assoc] using hout), if_neg hout, self]

theorem stn_isolateStation (old new : Option Range) (e : Event) (n m : Fin 48) :
    (e.isolateStation old new n).st.stn m = if m = n then (e.st.stn n).moved old new n else e.st.stn m := by
  rcases isolateStation_cases old new e n with ⟨-, h⟩ | ⟨-, h⟩
  · rw [h, stn_judgeOfferingOf, stn_takeOff]
  · rw [h, stn_setStn]

theorem kept_isolateStation (old new : Option Range) (e : Event) (n : Fin 48) :
    (e.isolateStation old new n).st.kept = e.st.kept.withStation n ((e.st.stn n).moved old new n) := by
  rcases isolateStation_cases old new e n with ⟨-, h⟩ | ⟨-, h⟩
  · rw [h, kept_judgeOfferingOf, kept_takeOff]
  · rw [h, kept_setStn_with]

/-- The stations of a list in turn, as the range changes. -/
def Event.isolateStations (old new : Option Range) (l : List (Fin 48)) (e : Event) : Event :=
  l.foldl (fun e n => e.isolateStation old new n) e

section
variable {old new : Option Range} {l : List (Fin 48)}

theorem stn_isolateStations (hl : l.Nodup) (e : Event) (m : Fin 48) :
    (e.isolateStations old new l).st.stn m = if m ∈ l then (e.st.stn m).moved old new m else e.st.stn m := by
  induction l generalizing e with
  | nil => rfl
  | cons n l ih =>
    obtain ⟨hn, hl⟩ := List.nodup_cons.mp hl
    rw [Event.isolateStations, List.foldl_cons, ← Event.isolateStations, ih hl, stn_isolateStation]
    by_cases h : m = n
    · subst h
      simp [hn]
    · simp [h]

/-- Beside the station records nothing of the kept part changes. -/
theorem kept_isolateStations (hl : l.Nodup) (e : Event) :
    (e.isolateStations old new l).st.kept = e.st.kept.withStations fun m =>
      if m ∈ l then ((e.st.stn m).moved old new m).stable else (e.st.stn m).stable := by
  have hrest : (e.isolateStations old new l).st.kept.withStations (fun _ => Station.vacantRecord) =
      e.st.kept.withStations fun _ => Station.vacantRecord :=
    foldl_keeps (fun e : Event => e.st.kept.withStations fun _ => Station.vacantRecord) _
      (fun e n => by rw [kept_isolateStation]; rfl) l e
  have hstn : (e.isolateStations old new l).st.kept.stations = fun m =>
      if m ∈ l then ((e.st.stn m).moved old new m).stable else (e.st.stn m).stable := funext fun m => by
    show ((e.isolateStations old new l).st.stn m).stable = _
    rw [stn_isolateStations hl]
    split <;> rfl
  calc (e.isolateStations old new l).st.kept
      = ((e.isolateStations old new l).st.kept.withStations fun _ => Station.vacantRecord).withStations
          (e.isolateStations old new l).st.kept.stations := rfl
    _ = _ := by rw [hrest, hstn]; rfl

/-- A transaction to a station that enters is abandoned, and any other goes on (R127). -/
theorem txn_isolateStation {e : Event} {b : Fin 6} {x : Txn} (h : (e.st.br b).txn = some x) (n : Fin 48) :
    (¬ (x.station = n ∧ (e.st.stn n).enters old new n) → ((e.isolateStation old new n).st.br b).txn = some x) ∧
      (x.station = n → (e.st.stn n).enters old new n →
        ((e.isolateStation old new n).st.br b).txn = some { x with abandoned := true }) := by
  rcases isolateStation_cases old new e n with ⟨hin, he⟩ | ⟨hin, he⟩
  · rw [he, txn_judgeOfferingOf, txn_takeOff h]
    exact ⟨fun k => by rw [if_neg fun e => k ⟨e, hin⟩], fun e _ => by rw [if_pos e]⟩
  · rw [he, br_setStn]
    exact ⟨fun _ => h, fun _ k => absurd k hin⟩

theorem txn_isolateStations_other (hl : l.Nodup) {e : Event} {b : Fin 6} {x : Txn} (h : (e.st.br b).txn = some x)
    (hx : x.station ∈ l → ¬ (e.st.stn x.station).enters old new x.station) :
    ((e.isolateStations old new l).st.br b).txn = some x := by
  induction l generalizing e with
  | nil => exact h
  | cons n l ih =>
    obtain ⟨hn, hl⟩ := List.nodup_cons.mp hl
    refine ih hl ((txn_isolateStation h n).1 fun ⟨e1, e2⟩ => hx (by simp [e1]) (e1 ▸ e2)) fun hm => ?_
    rw [stn_isolateStation, if_neg fun e1 : x.station = n => hn (e1 ▸ hm)]
    exact hx (List.mem_cons_of_mem _ hm)

theorem txn_isolateStations_entering (hl : l.Nodup) {e : Event} {b : Fin 6} {x : Txn} (h : (e.st.br b).txn = some x)
    (hm : x.station ∈ l) (hx : (e.st.stn x.station).enters old new x.station) :
    ((e.isolateStations old new l).st.br b).txn = some { x with abandoned := true } := by
  induction l generalizing e with
  | nil => cases hm
  | cons n l ih =>
    obtain ⟨hn, hl⟩ := List.nodup_cons.mp hl
    by_cases hxn : x.station = n
    · exact txn_isolateStations_other (x := { x with abandoned := true }) hl ((txn_isolateStation h n).2 hxn (hxn ▸ hx))
        fun hm => absurd (hxn ▸ hm) hn
    · refine ih hl ((txn_isolateStation h n).1 fun k => hxn k.1) ((List.mem_cons.mp hm).resolve_left hxn) ?_
      rw [stn_isolateStation, if_neg hxn]
      exact hx

/-! #### The reads of the stations that enter -/

theorem noted_isolateStation {e : Event} {x : OutFrame} (h : e.st.noted x) (n : Fin 48) :
    (e.isolateStation old new n).st.noted x := by
  rcases isolateStation_cases old new e n with ⟨-, he⟩ | ⟨-, he⟩
  · rw [he]
    exact (h.takeOff n _ _).judgeOfferingOf n
  · rw [he]
    exact h.setStn n _

theorem noted_isolateStations {e : Event} {x : OutFrame} (h : e.st.noted x) : (e.isolateStations old new l).st.noted x := by
  induction l generalizing e with
  | nil => exact h
  | cons n l ih => exact ih (noted_isolateStation h n)

theorem read_isolateStation (e : Event) (n : Fin 48) (b : Fin 6) :
    ((e.isolateStation old new n).st.br b).read = (e.st.br b).read ∨
      ((e.isolateStation old new n).st.br b).read = (e.st.br b).read.filter fun r => decide (r.station ≠ n) := by
  rcases isolateStation_cases old new e n with ⟨-, he⟩ | ⟨-, he⟩
  · right
    rw [he, read_judgeOfferingOf, br_takeOff]
    rfl
  · left
    rw [he, br_setStn]

theorem read_isolateStations_none {e : Event} {b : Fin 6} (h : (e.st.br b).read = none) :
    ((e.isolateStations old new l).st.br b).read = none := by
  induction l generalizing e with
  | nil => exact h
  | cons n l ih =>
    refine ih ?_
    rcases read_isolateStation (old := old) (new := new) e n b with hr | hr <;> rw [hr, h]
    rfl

/-- A read outstanding for a station that enters is ended, its METER-DONE on the link (R121, R138). -/
theorem read_isolateStations_entering (hl : l.Nodup) {e : Event} {b : Fin 6} {m : MeterRead} (h : (e.st.br b).read = some m)
    (hm : m.station ∈ l) (hx : (e.st.stn m.station).enters old new m.station) :
    ((e.isolateStations old new l).st.br b).read = none ∧
      (e.isolateStations old new l).st.noted (.notice (.meterDone m.tag m.station .isolated)) := by
  induction l generalizing e with
  | nil => cases hm
  | cons n l ih =>
    obtain ⟨hn, hl⟩ := List.nodup_cons.mp hl
    by_cases hxn : m.station = n
    · obtain ⟨-, he⟩ | ⟨hno, -⟩ := isolateStation_cases old new e n
      · subst hxn
        refine ⟨read_isolateStations_none (e := e.isolateStation old new m.station) (l := l) ?_,
          noted_isolateStations (e := e.isolateStation old new m.station) (l := l) ?_⟩
        · rw [he, read_judgeOfferingOf]
          exact read_takeOff h _ _
        · rw [he]
          exact (noted_takeOff h _ _).judgeOfferingOf _
      · exact absurd (hxn ▸ hx) hno
    · refine ih hl ?_ ((List.mem_cons.mp hm).resolve_left hxn) ?_
      · rcases read_isolateStation (old := old) (new := new) e n b with hr | hr
        · rw [hr, h]
        · rw [hr, h, Option.filter_some_pos (by simpa using hxn)]
      · rw [stn_isolateStation, if_neg hxn]
        exact hx

end

theorem grant_moved (old new : Option Range) (n : Fin 48) (r : Station) :
    (r.moved old new n).grantKw = 0 ∨
      ((r.moved old new n).grantKw = r.grantKw ∧ (r.moved old new n).grantDt = r.grantDt) := by
  unfold Station.moved
  split
  · exact .inr ⟨rfl, rfl⟩
  · split
    · exact .inl rfl
    · split <;> exact .inr ⟨rfl, rfl⟩

/-- The state of an ISOLATE that changes the range, the end of the event apart. -/
theorem setIsolation_st (s : State) (new : Option Range) :
    (s.event.setIsolation new).st =
      (({ s with isolation := new } : State).event.isolateStations s.isolation new allStations).st := rfl

theorem kept_setIsolation (s : State) (new : Option Range) :
    (s.event.setIsolation new).st.kept = { s.kept with
      isolation := new
      stations := fun n => ((s.stn n).moved s.isolation new n).stable } := by
  rw [setIsolation_st, kept_isolateStations nodup_allStations]
  simp only [mem_allStations, if_true]
  rfl

theorem stn_setIsolation (s : State) (new : Option Range) (n : Fin 48) :
    (s.event.setIsolation new).st.stn n = (s.stn n).moved s.isolation new n := by
  rw [setIsolation_st, stn_isolateStations nodup_allStations]
  simp only [mem_allStations, if_true]
  rfl

theorem shedCalled_setIsolation {s : State} (hl : s.capsLawful) (hs : s.sumGrants ≤ s.capacity) (new : Option Range) :
    (s.event.setIsolation new).st.shedCalled = false := by
  have hk := kept_setIsolation s new
  have hstn := stn_setIsolation s new
  generalize (s.event.setIsolation new).st = t at hk hstn
  have hb := congrArg Kept.branches hk
  refine shedCalled_of_fallen (congrArg Kept.capacity hk :) (fun b => (congrArg Prod.fst (congrFun hb b) :))
    (fun m => ?_) (fun m => ?_) hl hs
  · rw [hstn]
    rcases grant_moved s.isolation new m (s.stn m) with h | ⟨h, -⟩ <;> omega
  · rw [hstn, Station.grantCap, Station.grantCap]
    rcases grant_moved s.isolation new m (s.stn m) with h | ⟨h, hd⟩
    · rw [h, flowCap_zero]
      exact Nat.zero_le _
    · rw [h, hd]

/-- With the range as it was no station moves. -/
theorem moved_same (r : Option Range) (n : Fin 48) (x : Station) : x.moved r r n = x := by
  unfold Station.moved
  split
  · rfl
  · rw [if_neg (fun h => h.2 h.1), if_neg (fun h => h.2.1 h.1)]

/-- The range an ISOLATE carries (R120). -/
theorem isolationOf_accepted {base limit : Nat} {new : Option Range}
    (h : (base = 0xFF ∧ new = none) ∨ (base ≠ 0xFF ∧ base ≤ limit ∧ limit ≤ 47 ∧ new = some ⟨base, limit⟩)) :
    isolationOf base limit = some new := by
  unfold isolationOf
  rcases h with ⟨hb, rfl⟩ | ⟨hb, h1, h2, rfl⟩
  · rw [if_pos hb]
  · rw [if_neg hb, if_pos (by simp [Range.isIsolation, h1, h2])]

theorem isolationOf_refused {base limit : Nat} (hb : base ≠ 0xFF) (h : limit < base ∨ 47 < limit) :
    isolationOf base limit = none := by
  unfold isolationOf
  rw [if_neg hb, if_neg (by simp [Range.isIsolation]; omega)]

/-- The state that ISOLATE leaves to the reply: as it was where the range stays, and otherwise the stations moved and the event
ended (R120). -/
def State.isolated (s : State) (new : Option Range) : State :=
  if new = s.isolation then s else (s.event.setIsolation new).finish s

theorem onIsolate_accepted {s : State} {base limit : Nat} {new : Option Range} (h : isolationOf base limit = some new) :
    s.onIsolate base limit = (s.isolated new, .done []) := by
  simp only [State.onIsolate, h, State.isolated]
  split <;> rfl

theorem kept_isolated (s : State) (new : Option Range) :
    (s.isolated new).kept = { s.kept with
      isolation := new
      stations := fun n => ((s.stn n).moved s.isolation new n).stable } := by
  unfold State.isolated
  split
  · next h =>
    subst h
    simp only [moved_same]
    rfl
  · rw [kept_finish, kept_setIsolation]

/-- Settles O32: each station moves as the range does, and the end of the event leaves that and the notices of the reads standing. -/
theorem stationsAreIsolated : Obligations.StationsAreIsolated := by
  refine fun s tag base limit hs => ⟨fun hb h => exec_refused rfl hs ?_, fun new hnew => ?_⟩
  · show s.onIsolate base limit = _
    rw [State.onIsolate, isolationOf_refused hb h]
    rfl
  intro enters
  have hk := kept_isolated s new
  obtain ⟨he, hkept⟩ := exec_request (c := .isolate tag base limit) rfl hs (onIsolate_accepted (isolationOf_accepted hnew))
    nofun nofun rfl rfl (congrArg Kept.link hk)
  refine ⟨_, he, ?_, fun b x hx => ?_, fun b r hr hin => ?_⟩
  · rw [hkept, hk]
    refine congrArg (fun f => ({ s.afterRequest tag (.done []) with isolation := new, stations := f } : Kept)) (funext fun n => ?_)
    unfold Station.moved
    dsimp only
    split
    · rfl
    · split
      · rfl
      · split <;> rfl
  · rw [br_answeredOnly]
    by_cases hsame : new = s.isolation
    · rw [State.isolated, if_pos hsame]
      exact ⟨fun h => absurd (hsame ▸ h.2.1) h.2.2, fun _ => hx⟩
    · rw [State.isolated, if_neg hsame]
      refine ⟨fun h => txn_finish_busy ?_ s, fun h => txn_finish_busy ?_ s⟩
      · rw [setIsolation_st]
        exact txn_isolateStations_entering nodup_allStations hx (mem_allStations _) h
      · rw [setIsolation_st]
        exact txn_isolateStations_other nodup_allStations hx fun _ => h
  · have hsame : new ≠ s.isolation := fun h => hin.2.2 (h ▸ hin.2.1)
    obtain ⟨hread, hnoted⟩ := read_isolateStations_entering (e := ({ s with isolation := new } : State).event)
      nodup_allStations hr (mem_allStations _) hin
    rw [State.isolated, if_neg hsame]
    refine ⟨?_, fun hl hg => ?_⟩
    · rw [br_answeredOnly]
      exact read_finish_none hread s
    · obtain ⟨k, -, hrec⟩ := State.noted.finish (e := s.event.setIsolation new) hnoted (shedCalled_setIsolation hl hg new) s
      exact (hrec.answeredOnly tag _).mem

end Sys2Proof.Machine
end

section
/-!
A reply timeout (R9, R11, R126, R133, R137): what a miss does to the station's record, to the cap entry in flight and to the read,
before the end of the event; and what the end of an event leaves of the fault list.
-/

namespace Sys2Proof.Machine

/-! ### The fault list up to the end of an event -/

/-- What the end of an event keeps of a fault list: what FIRM_CUT and INDEX_LOST raised, INDEX_LOST ended and the relay's contact
leave alone. -/
structure FaultList.Settled (P : FaultList → Prop) : Prop where
  raised : ∀ (s : State) (k : FaultKind) (x : Nat), k = .firmCut ∨ k = .indexLost → P s.faults → P (s.raise k x).faults
  ended : ∀ s : State, P s.faults → P s.endIndexLost.faults
  relay : ∀ (l : FaultList) (c : Bool), P l → P { l with relayClosed := c }

theorem faults_of_ungranted {s t : State} (h : t.ungranted = s.ungranted) : t.faults = s.faults := (congrArg State.faults h :)

theorem faults_of_unsent {s t : State} (h : t.unsent = s.unsent) : t.faults = s.faults := (congrArg State.faults h :)

theorem faults_of_unstored {s t : State} (h : t.unstored = s.unstored) : t.faults = s.faults := (congrArg State.faults h :)

section
variable {P : FaultList → Prop} (hP : FaultList.Settled P)
include hP

theorem FaultList.Settled.allocate {e : Event} (h : P e.st.faults) : P (allocate e).faults := by
  have hs : P (sheds e.st).1.faults := CutStep.run_keeps (P := fun w => P w.1.faults)
    (fun w w' hw hp => by
      cases hw with
      | moved a => exact hp
      | cut n k hg => exact hp
      | raised n => exact hP.raised w.1 .firmCut n.val (.inl rfl) hp) (sheds_steps e.st) h
  have hg (l : List (Fin 48)) : (grantPass (sheds e.st).1 l).st.faults = (sheds e.st).1.faults :=
    faults_of_ungranted (ungranted_grantPass _ _)
  unfold Sys2Proof.Machine.allocate
  generalize sheds e.st = w at hs hg
  dsimp only
  split
  · rw [faults_of_ungranted (ungranted_handChanges _ _ _), hg]
    exact hs
  · rw [faults_of_ungranted (ungranted_handChanges _ _ _)]
    exact hs

theorem FaultList.Settled.judgePressure {s : State} (h : P s.faults) (was : RefSettings) : P (s.judgePressure was).faults := by
  have hl (c : Source) : P (s.lock c).faults := hP.ended (s.setSource c) h
  have hr (v : State) (hv : P v.faults) : P v.judgeRevert.faults := by
    unfold State.judgeRevert
    split
    · exact hv
    · split
      · exact hv
      · split
        · exact hP.ended (v.setSource .primary) hv
        · exact hv
  have hlost (lost : Option (Fin 48)) : P (s.loseSource lost).faults := by
    cases lost with
    | none => exact h
    | some n => exact hP.raised (s.setSource s.fallbackSource) .indexLost n.val (.inr rfl) h
  refine hr _ ?_
  unfold State.judgeSource
  split
  · split
    · exact h
    · split
      · exact hl _
      · exact hlost _
  · split
    · exact h
    · exact hlost _
  · split
    · exact hl _
    · exact h
  · split
    · exact hl _
    · exact h

theorem FaultList.Settled.settle {s : State} (h : P s.faults) (before : State) (t r : Bool) :
    P (s.settle before t r).faults := by
  have hf : (s.arbitrateAll.settleStorage before t r).faults = s.faults :=
    (faults_of_unstored (unstored_settleStorage _ _ _ _)).trans (faults_of_unsent (unsent_arbitrateAll s))
  unfold State.settle
  generalize s.arbitrateAll.settleStorage before t r = v at hf
  rw [← hf] at h
  have hp := hP.judgePressure h before.pressure.ref
  generalize v.judgePressure before.pressure.ref = w at hp
  exact hP.relay w.faults _ hp

theorem FaultList.Settled.finish {e : Event} (h : P e.st.faults) (before : State) : P (e.finish before).faults :=
  hP.settle (hP.allocate h) before _ _

end

/-- An entry of a kind other than INDEX_LOST is shown through the end of an event (R171). -/
theorem settled_shows {k : FaultKind} (hk : k ≠ .indexLost) (x : Nat) : FaultList.Settled fun l => l.shows k x where
  raised _ _ _ _ h := shows_raise h
  ended s h := by
    obtain ⟨e, he, hek, h⟩ := h
    refine ⟨e, List.mem_filterMap.mpr ⟨e, he, ?_⟩, hek, h⟩
    simp [hek, hk]
  relay _ _ h := h

/-! ### What a miss does by the kind of its frame (R126, R133, R137) -/

/-- The head of a queue removed at its third miss, which the branch counts (R133). -/
def State.dropHead (s : State) (b : Fin 6) (rest : List CapEntry) : State :=
  s.updBr b fun c => { c with queue := rest, protocolErrors := countUp c.protocolErrors }

/-- The head of the queue has been sent to a station for the third time. -/
def Branch.thirdAttempt (c : Branch) (n : Fin 48) (rest : List CapEntry) : Prop :=
  ∃ e f, c.queue = e :: rest ∧ e.flight = some f ∧ e.station = n ∧ 3 ≤ f.attempts

theorem missCap_third {s : State} {b : Fin 6} {n : Fin 48} {rest : List CapEntry} (h : (s.br b).thirdAttempt n rest) :
    s.missCap b n =
      if holdsEntry rest n then s.dropHead b rest
      else (s.dropHead b rest).appendEntry b n (s.stn n).grantKw (s.stn n).grantCap (s.stn n).grantDt := by
  obtain ⟨e, f, hq, hf, hn, ha⟩ := h
  simp only [State.missCap, hq, hf]
  exact if_pos ⟨hn, ha⟩

theorem missCap_other {s : State} {b : Fin 6} {n : Fin 48} (h : ∀ rest, ¬ (s.br b).thirdAttempt n rest) : s.missCap b n = s := by
  unfold State.missCap
  split
  · next e rest hq =>
    split
    · next f hf => exact if_neg fun ⟨hn, ha⟩ => h rest ⟨e, f, hq, hf, hn, ha⟩
    · rfl
  · rfl

theorem missMeter_again {s : State} {b : Fin 6} {r : MeterRead} (h : (s.br b).read = some r) (ha : r.attempts < 3) :
    s.missMeter b r.station = s.updBr b fun c => { c with read := some { r with owed := true } } := by
  simp [State.missMeter, h, ha]

theorem missMeter_third {s : State} {b : Fin 6} {r : MeterRead} (h : (s.br b).read = some r) (ha : 3 ≤ r.attempts) :
    s.missMeter b r.station = s.endRead b r.station .noReply := by
  simp [State.missMeter, h, Nat.not_lt.mpr ha]

/-- A missed METER-ASK leaves the state alone, owes the frame again or ends the read. -/
theorem missMeter_cases (s : State) (b : Fin 6) (n : Fin 48) :
    s.missMeter b n = s ∨ (∃ r, s.missMeter b n = s.updBr b fun c => { c with read := r }) ∨
      s.missMeter b n = s.endRead b n .noReply := by
  unfold State.missMeter
  split
  · split
    · split
      · exact .inr (.inl ⟨_, rfl⟩)
      · exact .inr (.inr rfl)
    · exact .inl rfl
  · exact .inl rfl

/-- The present grant queued behind what is left, unless the branch holds an entry of the station (R133). -/
def State.requeue (s : State) (b : Fin 6) (n : Fin 48) (rest : List CapEntry) : State :=
  if holdsEntry rest n then s.dropHead b rest
  else (s.dropHead b rest).appendEntry b n (s.stn n).grantKw (s.stn n).grantCap (s.stn n).grantDt

/-- What a miss does by its kind: a cap entry removed at its third attempt, a METER-ASK judged, or nothing. -/
theorem missKind_cases (s : State) (b : Fin 6) (x : Txn) :
    s.missKind b x = s ∨
      (∃ rest, (∃ seq flow grant, x.kind = .cap seq flow grant) ∧ (s.br b).thirdAttempt x.station rest ∧
        s.missKind b x = s.requeue b x.station rest) ∨
      s.missKind b x = s.missMeter b x.station := by
  unfold State.missKind
  split
  · next seq flow grant hk =>
    by_cases h : ∃ rest, (s.br b).thirdAttempt x.station rest
    · obtain ⟨rest, hr⟩ := h
      exact .inr (.inl ⟨rest, ⟨seq, flow, grant, hk⟩, hr, missCap_third hr⟩)
    · exact .inl (missCap_other fun rest hr => h ⟨rest, hr⟩)
  · exact .inr (.inr rfl)
  all_goals exact .inl rfl

theorem stn_requeue (s : State) (b : Fin 6) (n : Fin 48) (rest : List CapEntry) (m : Fin 48) :
    ∃ q, (s.requeue b n rest).stn m = { s.stn m with nextSeq := q } := by
  unfold State.requeue State.appendEntry
  split
  · exact ⟨_, rfl⟩
  · rw [stn_updStn]
    split
    · next h => exact h ▸ ⟨_, rfl⟩
    · exact ⟨_, rfl⟩

theorem br_requeue (s : State) (b : Fin 6) (n : Fin 48) (rest : List CapEntry) (d : Fin 6) :
    (s.requeue b n rest).br d = if d = b then
      { s.br b with
        queue := if holdsEntry rest n then rest
          else rest ++ [⟨n, (s.stn n).nextSeq, (s.stn n).grantKw, (s.stn n).grantCap, (s.stn n).grantDt, none⟩]
        protocolErrors := countUp (s.br b).protocolErrors }
    else s.br d := by
  unfold State.requeue State.appendEntry State.dropHead
  split
  · rw [br_updBr]
  · rw [br_updStn, br_updBr]
    split
    · rw [br_updBr_same]
      rfl
    · next h => rw [br_updBr, if_neg h]

theorem capacity_requeue (s : State) (b : Fin 6) (n : Fin 48) (rest : List CapEntry) :
    (s.requeue b n rest).capacity = s.capacity := by
  unfold State.requeue
  split <;> rfl

theorem kept_requeue (s : State) (b : Fin 6) (n : Fin 48) (rest : List CapEntry) :
    (s.requeue b n rest).kept = { s.kept with
      branches := fun d => if d = b then ((s.br b).settings, (s.br b).badFrames, countUp (s.br b).protocolErrors)
        else s.kept.branches d } := by
  have hd : (s.dropHead b rest).kept = { s.kept with
      branches := fun d => if d = b then ((s.br b).settings, (s.br b).badFrames, countUp (s.br b).protocolErrors)
        else s.kept.branches d } := by
    have hb : (fun d => (((s.dropHead b rest).br d).settings, ((s.dropHead b rest).br d).badFrames,
        ((s.dropHead b rest).br d).protocolErrors)) =
        fun d => if d = b then ((s.br b).settings, (s.br b).badFrames, countUp (s.br b).protocolErrors)
          else s.kept.branches d := funext fun d => by
      rw [State.dropHead, br_updBr]
      split <;> rfl
    unfold State.kept at hb ⊢
    rw [hb]
    rfl
  unfold State.requeue
  split
  · exact hd
  · rw [kept_appendEntry, hd]

/-! #### What a miss leaves alone -/

theorem stn_missMeter (s : State) (b : Fin 6) (n m : Fin 48) : (s.missMeter b n).stn m = s.stn m := by
  rcases missMeter_cases s b n with h | ⟨r, h⟩ | h <;> rw [h]
  · rfl
  · exact stn_endRead s b n _ m

theorem kept_missMeter (s : State) (b : Fin 6) (n : Fin 48) : (s.missMeter b n).kept = s.kept := by
  rcases missMeter_cases s b n with h | ⟨r, h⟩ | h <;> rw [h]
  · rw [kept_updBr] <;> intro <;> rfl
  · exact kept_endRead s b n _

theorem txn_missMeter (s : State) (b : Fin 6) (n : Fin 48) (d : Fin 6) : ((s.missMeter b n).br d).txn = (s.br d).txn := by
  rcases missMeter_cases s b n with h | ⟨r, h⟩ | h <;> rw [h]
  · rw [br_updBr]
    split
    · next e => rw [e]
    · rfl
  · rw [br_endRead]
    split
    · next e => rw [e]; rfl
    · rfl

/-- A miss of a station that stays ACTIVE leaves its record but for the next cap sequence. -/
theorem stn_missKind (s : State) (b : Fin 6) (x : Txn) (m : Fin 48) :
    ∃ q, (s.missKind b x).stn m = { s.stn m with nextSeq := q } := by
  rcases missKind_cases s b x with h | ⟨rest, -, -, h⟩ | h <;> rw [h]
  · exact ⟨_, rfl⟩
  · exact stn_requeue s b _ rest m
  · exact ⟨_, stn_missMeter s b _ m⟩

theorem txn_missKind (s : State) (b : Fin 6) (x : Txn) (d : Fin 6) : ((s.missKind b x).br d).txn = (s.br d).txn := by
  rcases missKind_cases s b x with h | ⟨rest, -, -, h⟩ | h <;> rw [h]
  · rw [br_requeue]
    split
    · next e => rw [e]
    · rfl
  · exact txn_missMeter s b _ d

/-- Only a cap entry removed at its third attempt shows in the kept part. -/
theorem kept_missKind {s : State} {b : Fin 6} {x : Txn}
    (h : ∀ rest, (s.br b).thirdAttempt x.station rest → ∀ seq flow grant, x.kind ≠ .cap seq flow grant) :
    (s.missKind b x).kept = s.kept := by
  rcases missKind_cases s b x with e | ⟨rest, ⟨seq, flow, grant, hk⟩, hr, -⟩ | e
  · rw [e]
  · exact absurd hk (h rest hr seq flow grant)
  · rw [e, kept_missMeter]

theorem settings_missKind (s : State) (b : Fin 6) (x : Txn) (d : Fin 6) :
    ((s.missKind b x).br d).settings = (s.br d).settings := by
  rcases missKind_cases s b x with e | ⟨rest, -, -, e⟩ | e <;> rw [e]
  · rw [br_requeue]
    split
    · next h => rw [h]
    · rfl
  · exact (congrArg Prod.fst (congrFun (congrArg Kept.branches (kept_missMeter s b x.station)) d) :)

theorem capacity_missKind (s : State) (b : Fin 6) (x : Txn) : (s.missKind b x).capacity = s.capacity := by
  rcases missKind_cases s b x with e | ⟨rest, -, -, e⟩ | e <;> rw [e]
  · exact capacity_requeue s b _ rest
  · exact (congrArg Kept.capacity (kept_missMeter s b x.station) :)

/-! ### The CAP of an entry in flight goes out again (R128, R133) -/

/-- A free segment whose queue's head is in flight sends it again, unless four CAPs have gone in a row. -/
theorem resend_arbitrateAll {s : State} {b : Fin 6} {e : CapEntry} {rest : List CapEntry} {f : Flight}
    (hw : (s.br b).settings.window ≠ none) (ht : (s.br b).txn = none) (hq : (s.br b).queue = e :: rest)
    (hf : e.flight = some f) (hc : (s.br b).capsInRow ≠ 4) :
    (s.arbitrateAll.br b).queue = { e with flight := some { f with attempts := f.attempts + 1 } } :: rest ∧
      (s.arbitrateAll.br b).txn = some ⟨e.station, .cap e.seq f.flowSent f.grantSent, false⟩ := by
  obtain ⟨v, -, hv, hb⟩ := br_arbitrateAll s b
  rw [← hv] at hw ht hq hc
  have hfirst : v.firstWork b = some .cap := by simp [State.firstWork, hq]
  have hpass : v.passRotation b = v := by simp [State.passRotation, State.seeksRotation, hfirst, hc]
  have hchoose : v.choose b = some .cap := by simp [State.choose, hfirst, hc]
  rw [hb, arbitrate_of_free hw ht, hpass, hchoose]
  simp [State.send, State.sendCap, hq, CapEntry.launch, hf, CapEntry.txn]

theorem queue_of_unsent {s t : State} (h : t.unsent = s.unsent) (b : Fin 6) :
    (t.br b).queue.map CapEntry.grounded = (s.br b).queue.map CapEntry.grounded :=
  (congrArg Branch.queue (br_unsent_of_eq h b) :)

/-- The entries of a queue, flights apart, stay through the arbiters. -/
theorem queue_arbitrateAll (s : State) (b : Fin 6) :
    (s.arbitrateAll.br b).queue.map CapEntry.grounded = (s.br b).queue.map CapEntry.grounded :=
  queue_of_unsent (unsent_arbitrateAll s) b

/-! ### The end of a transaction (R124) -/

theorem freed_settle {s : State} {b : Fin 6} (h : (s.br b).txn = none) (before : State) (t r : Bool) :
    ((s.settle before t r).br b).freed := by
  rw [br_settle]
  exact freed_arbitrateAll h

theorem freed_finish {e : Event} {b : Fin 6} (h : (e.st.br b).txn = none) (before : State) : ((e.finish before).br b).freed :=
  freed_settle ((txn_allocate e b).trans h) before _ _

theorem br_endTxn (s : State) (b d : Fin 6) :
    (s.endTxn b).br d = if d = b then { s.br b with txn := none } else s.br d := br_updBr s b d _

theorem replyTimeout_abandoned {s : State} {b : Fin 6} {x : Txn} (h : (s.br b).txn = some x) (ha : x.abandoned = true) :
    s.replyTimeout b = (s.endTxn b).settle s false false := by
  simp only [State.replyTimeout, h]
  exact if_pos ha

theorem replyTimeout_missed {s : State} {b : Fin 6} {x : Txn} (h : (s.br b).txn = some x) (ha : x.abandoned = false) :
    s.replyTimeout b = ((s.endTxn b).event.miss b x).finish s := by
  simp only [State.replyTimeout, h]
  exact if_neg (by simp [ha])

/-! ### A miss by the state of the station (R126) -/

theorem miss_active {e : Event} {b : Fin 6} {x : Txn} (h : (e.st.stn x.station).state = .active)
    (hm : (e.st.stn x.station).missCount < 2) :
    e.miss b x = e.map fun s => (s.updStn x.station fun r => { r with missCount := r.missCount + 1 }).missKind b x := by
  simp only [Event.miss, h]
  exact if_neg (by omega)

theorem miss_lost {e : Event} {b : Fin 6} {x : Txn} (h : (e.st.stn x.station).state = .active)
    (hm : 2 ≤ (e.st.stn x.station).missCount) : e.miss b x = e.lose x.station := by
  simp only [Event.miss, h]
  exact if_pos (by omega)

theorem miss_attaching {e : Event} {b : Fin 6} {x : Txn} (h : (e.st.stn x.station).state = .attaching)
    (hm : (e.st.stn x.station).missCount < 2) :
    e.miss b x = e.map fun s => s.updStn x.station fun r => { r with missCount := r.missCount + 1, debounce := 0 } := by
  simp only [Event.miss, h]
  exact if_neg (by omega)

theorem miss_seeking {e : Event} {b : Fin 6} {x : Txn} (h : (e.st.stn x.station).state = .attaching)
    (hm : 2 ≤ (e.st.stn x.station).missCount) : e.miss b x = e.returnToSeeking x.station := by
  simp only [Event.miss, h]
  exact if_pos (by omega)

theorem miss_unattached {e : Event} {b : Fin 6} {x : Txn}
    (h : (e.st.stn x.station).state = .seeking ∨ (e.st.stn x.station).state = .lost) : e.miss b x = e := by
  rcases h with h | h <;> simp only [Event.miss, h]

/-! ### The hold timer started (R13) -/

/-- Within an event the start of a hold timer is the rewrite of one record. -/
theorem startHold_st (e : Event) (n : Fin 48) :
    (e.startHold n).st = e.st.setStn n ((e.st.stn n).startHold e.st.plant.lostHold) := by
  unfold Event.startHold Station.startHold
  split <;> rfl

theorem returnToSeeking_st (e : Event) (n : Fin 48) :
    (e.returnToSeeking n).st = e.st.setStn n
      (({ e.st.stn n with state := .seeking, missCount := 0, debounce := 0 } : Station).startHold e.st.plant.lostHold) := by
  simp only [Event.returnToSeeking, startHold_st, map_st, stn_updStn_same]
  simp only [State.updStn, State.setStn, Vector.set_set]

theorem plant_of_kept {s t : State} (h : t.kept = s.kept) : t.plant = s.plant := (congrArg Kept.plant h :)

/-- The record of a station that is lost (R11). -/
def Station.lost (r : Station) (lostHold : Nat) : Station :=
  ({ r with state := .lost, missCount := 0, debounce := 0 } : Station).startHold lostHold

theorem lose_st (e : Event) (n : Fin 48) :
    (e.lose n).st =
      ((e.st.takeOff n .lost ((e.st.stn n).detached.lost e.st.plant.lostHold)).raise .stationLost n.val).judgeOfferingOf n := by
  have hs : ((e.st.detach n).endReads n .lost).stn n = (e.st.stn n).detached := by rw [stn_endReads, stn_detach, if_pos rfl]
  have hp : ((e.st.detach n).endReads n .lost).plant = e.st.plant :=
    plant_of_kept ((kept_endReads _ n _).trans (kept_detach e.st n))
  simp only [Event.lose, startHold_st, map_st, stn_updStn_same, State.takeOff, Station.lost]
  generalize (e.st.detach n).endReads n .lost = v at hs hp ⊢
  rw [← hs, ← hp]
  simp only [State.updStn, State.setStn, Vector.set_set]

/-! ### A miss of a station that stays ACTIVE -/

/-- The state in which an ACTIVE station has missed, the end of the event apart (R126). -/
def State.missed (s : State) (b : Fin 6) (x : Txn) : State :=
  ((s.endTxn b).updStn x.station fun r => { r with missCount := r.missCount + 1 })

theorem stn_missed (s : State) (b : Fin 6) (x : Txn) (m : Fin 48) :
    (s.missed b x).stn m =
      if m = x.station then { s.stn m with missCount := (s.stn m).missCount + 1 } else s.stn m := by
  rw [State.missed, stn_updStn]
  split
  · next h => rw [h]; rfl
  · rfl

theorem br_missed (s : State) (b : Fin 6) (x : Txn) (d : Fin 6) :
    (s.missed b x).br d = if d = b then { s.br b with txn := none } else s.br d := br_endTxn s b d

theorem kept_missed (s : State) (b : Fin 6) (x : Txn) :
    (s.missed b x).kept =
      s.kept.withStation x.station { s.stn x.station with missCount := (s.stn x.station).missCount + 1 } := by
  rw [State.missed, kept_updStn_with, kept_endTxn]
  rfl

theorem shedCalled_missKind {s : State} (hl : s.capsLawful) (hg : s.sumGrants ≤ s.capacity) (b : Fin 6) (x : Txn) :
    ((s.missed b x).missKind b x).shedCalled = false := by
  have hstn (m : Fin 48) : (((s.missed b x).missKind b x).stn m).grantKw = (s.stn m).grantKw ∧
      (((s.missed b x).missKind b x).stn m).grantDt = (s.stn m).grantDt := by
    obtain ⟨q, hq⟩ := stn_missKind (s.missed b x) b x m
    rw [hq, stn_missed]
    split <;> exact ⟨rfl, rfl⟩
  refine shedCalled_of_fallen (s := s) ((capacity_missKind _ b x).trans rfl) (fun d => ?_) (fun m => (hstn m).1.le)
    (fun m => ?_) hl hg
  · rw [settings_missKind, br_missed]
    split
    · next h => rw [h]
    · rfl
  · rw [Station.grantCap, (hstn m).1, (hstn m).2]
    exact le_rfl

/-- Where no shed is called for, a miss ends as the arbiters leave it. -/
theorem br_finish_missed {s : State} (hl : s.capsLawful) (hg : s.sumGrants ≤ s.capacity) (b : Fin 6) (x : Txn) (d : Fin 6) :
    ((((s.endTxn b).event.map fun s =>
        (s.updStn x.station fun r => { r with missCount := r.missCount + 1 }).missKind b x).finish s).br d) =
      ((s.missed b x).missKind b x).arbitrateAll.br d := by
  rw [br_finish, allocate_of_quiet (by rw [map_pass, event_pass])]
  · rw [map_st, event_st, State.missed]
  · rw [map_st, event_st]
    exact shedCalled_missKind hl hg b x

/-- A miss of a station that stays ACTIVE, whatever its kind. -/
theorem missed_active {s : State} {b : Fin 6} {x : Txn} (h : (s.br b).txn = some x) (ha : x.abandoned = false)
    (hs : (s.stn x.station).state = .active) (hm : (s.stn x.station).missCount < 2) :
    s.replyTimeout b = (((s.endTxn b).event.map fun s =>
      (s.updStn x.station fun r => { r with missCount := r.missCount + 1 }).missKind b x).finish s) := by
  rw [replyTimeout_missed h ha, miss_active hs hm]

section
variable (s : State) (b : Fin 6) (x : Txn)

/-- The state after a miss of a station that stays ACTIVE. -/
def State.afterMiss : State :=
  ((s.endTxn b).event.map fun s =>
    (s.updStn x.station fun r => { r with missCount := r.missCount + 1 }).missKind b x).finish s

theorem kept_afterMiss : (s.afterMiss b x).kept = ((s.missed b x).missKind b x).kept := by
  rw [State.afterMiss, kept_finish, map_st, event_st, State.missed]

theorem freed_afterMiss : ((s.afterMiss b x).br b).freed := by
  refine freed_finish ?_ s
  rw [map_st, event_st]
  exact (txn_missKind (s.missed b x) b x b).trans (by rw [br_missed, if_pos rfl])

/-- The head of the queue, and its attempts, are those before the transaction ended. -/
theorem thirdAttempt_missed (n : Fin 48) (rest : List CapEntry) :
    ((s.missed b x).br b).thirdAttempt n rest ↔ (s.br b).thirdAttempt n rest := by
  rw [br_missed, if_pos rfl]
  rfl

/-- A missed CAP below three attempts goes out again (R133). -/
theorem resend_afterMiss {e : CapEntry} {rest : List CapEntry} {f : Flight} (hq : (s.br b).queue = e :: rest)
    (hf : e.flight = some f) (ha : f.attempts < 3) (hk : ∃ seq flow grant, x.kind = .cap seq flow grant) (hl : s.capsLawful)
    (hg : s.sumGrants ≤ s.capacity) (hw : (s.br b).settings.window ≠ none) (hc : (s.br b).capsInRow ≠ 4) :
    ((s.afterMiss b x).br b).queue = { e with flight := some { f with attempts := f.attempts + 1 } } :: rest ∧
      ((s.afterMiss b x).br b).txn = some ⟨e.station, .cap e.seq f.flowSent f.grantSent, false⟩ := by
  have hkeep : (s.missed b x).missKind b x = s.missed b x := by
    obtain ⟨seq, flow, grant, hk⟩ := hk
    rw [State.missKind, hk]
    refine missCap_other fun r hr => ?_
    obtain ⟨e', f', hq', hf', -, ha'⟩ := (thirdAttempt_missed s b x _ r).mp hr
    rw [hq] at hq'
    obtain ⟨rfl, -⟩ := List.cons.inj hq'
    rw [hf] at hf'
    obtain rfl := Option.some.inj hf'
    omega
  have hb : (s.missed b x).br b = { s.br b with txn := none } := by rw [br_missed, if_pos rfl]
  rw [State.afterMiss, br_finish_missed hl hg, hkeep]
  exact resend_arbitrateAll (by rw [hb]; exact hw) (by rw [hb]) (by rw [hb]; exact hq) hf (by rw [hb]; exact hc)

theorem missKind_third {rest : List CapEntry} (hr : (s.br b).thirdAttempt x.station rest)
    (hk : ∃ seq flow grant, x.kind = .cap seq flow grant) :
    (s.missed b x).missKind b x = (s.missed b x).requeue b x.station rest := by
  obtain ⟨seq, flow, grant, hk⟩ := hk
  rw [State.missKind, hk]
  exact missCap_third ((thirdAttempt_missed s b x _ rest).mpr hr)

/-- The third miss of a CAP is a protocol error of its branch (R133). -/
theorem kept_afterMiss_third {rest : List CapEntry} (hr : (s.br b).thirdAttempt x.station rest)
    (hk : ∃ seq flow grant, x.kind = .cap seq flow grant) :
    (s.afterMiss b x).kept =
      { s.kept.withStation x.station { s.stn x.station with missCount := (s.stn x.station).missCount + 1 } with
        branches := fun d =>
          if d = b then ((s.br b).settings, (s.br b).badFrames, min 65535 ((s.br b).protocolErrors + 1))
          else s.kept.branches d } := by
  rw [kept_afterMiss, missKind_third s b x hr hk, kept_requeue, kept_missed, br_missed, if_pos rfl]
  rfl

/-- After the third miss of a CAP its entry is gone, and the station's present grant queued unless another entry holds it (R133). -/
theorem queue_afterMiss_third {rest : List CapEntry} (hr : (s.br b).thirdAttempt x.station rest)
    (hk : ∃ seq flow grant, x.kind = .cap seq flow grant) (hl : s.capsLawful) (hg : s.sumGrants ≤ s.capacity) :
    ((s.afterMiss b x).br b).queue.map CapEntry.grounded =
      (if ∃ d ∈ rest, d.station = x.station then rest
        else rest ++ [⟨x.station, (s.stn x.station).nextSeq, (s.stn x.station).grantKw, (s.stn x.station).grantCap,
          (s.stn x.station).grantDt, none⟩]).map CapEntry.grounded := by
  have hheld : holdsEntry rest x.station = true ↔ ∃ d ∈ rest, d.station = x.station := by simp [holdsEntry]
  rw [State.afterMiss, br_finish_missed hl hg, queue_arbitrateAll, missKind_third s b x hr hk, br_requeue, if_pos rfl,
    stn_missed, if_pos rfl]
  simp only [hheld]
  rfl

/-- A missed METER-ASK below its third attempt is owed, or has gone out again (R137). -/
theorem read_afterMiss_again {m : MeterRead} (hk : x.kind = .meterAsk) (hm : (s.br b).read = some m) (hx : m.station = x.station)
    (ha : m.attempts < 3) :
    ((s.afterMiss b x).br b).read = some { m with owed := true } ∨
      (((s.afterMiss b x).br b).read = some { m with attempts := m.attempts + 1, owed := false } ∧
        ((s.afterMiss b x).br b).txn = some ⟨x.station, .meterAsk, false⟩) := by
  have hread : ((s.missed b x).br b).read = some m := by rw [br_missed, if_pos rfl]; exact hm
  have hmiss : (s.missed b x).missKind b x = (s.missed b x).updBr b fun c => { c with read := some { m with owed := true } } := by
    rw [State.missKind, hk]
    exact hx ▸ missMeter_again hread ha
  have hr : (((s.missed b x).missKind b x).br b).read = some { m with owed := true } := by
    rw [hmiss, br_updBr_same]
  rw [State.afterMiss, br_finish]
  have h := read_arbitrateAll (allocate ((s.endTxn b).event.map fun s =>
    (s.updStn x.station fun r => { r with missCount := r.missCount + 1 }).missKind b x)) b
  rw [Branch.asksOrKeeps, read_allocate, map_st, event_st] at h
  rw [← State.missed] at h
  generalize State.arbitrateAll _ = t at h ⊢
  rcases h with h | ⟨r', h1, h2, h3⟩
  · exact .inl (h.trans hr)
  · obtain rfl := Option.some.inj (hr.symm.trans h1)
    exact .inr ⟨h2, hx ▸ h3⟩

/-- The third miss of a METER-ASK ends the read with NO_REPLY (R137, R138). -/
theorem read_afterMiss_third {m : MeterRead} (hk : x.kind = .meterAsk) (hm : (s.br b).read = some m) (hx : m.station = x.station)
    (ha : 3 ≤ m.attempts) :
    ((s.afterMiss b x).br b).read = none ∧
      (s.capsLawful → s.sumGrants ≤ s.capacity →
        .notice (.meterDone m.tag x.station .noReply) ∈ (s.afterMiss b x).link.sending.toList ++ (s.afterMiss b x).link.waiting) := by
  have hread : ((s.missed b x).br b).read = some m := by rw [br_missed, if_pos rfl]; exact hm
  have hmiss : (s.missed b x).missKind b x = (s.missed b x).endRead b x.station .noReply := by
    rw [State.missKind, hk]
    exact hx ▸ missMeter_third hread ha
  refine ⟨?_, fun hl hg => ?_⟩
  · refine read_finish_none ?_ s
    rw [map_st, event_st]
    show (((s.missed b x).missKind b x).br b).read = none
    rw [hmiss, br_endRead, if_pos rfl, Branch.withoutRead, hread, Option.filter_some_neg (by simpa using hx)]
  · have hn : ((s.missed b x).missKind b x).noted (.notice (.meterDone m.tag x.station .noReply)) := by
      rw [hmiss]
      exact hx ▸ noted_endRead hread .noReply
    obtain ⟨k, -, h⟩ := State.noted.finish (e := (s.endTxn b).event.map fun s =>
      (s.updStn x.station fun r => { r with missCount := r.missCount + 1 }).missKind b x) hn (shedCalled_missKind hl hg b x) s
    exact h.mem

end

/-! ### A station that is lost (R11) -/

theorem stable_lost (r : Station) (t : Nat) :
    (r.detached.lost t).stable = (({ r with state := .lost, missCount := 0, debounce := 0 } : Station).startHold t).stable := by
  unfold Station.lost Station.startHold
  split <;> rfl

theorem lost_idle (r : Station) (t : Nat) :
    (r.detached.lost t).grantKw = 0 ∧ (r.detached.lost t).state = .lost ∧ (r.detached.lost t).standing = .uninvolved := by
  unfold Station.lost Station.startHold
  split <;> exact ⟨rfl, rfl, rfl⟩

/-- The state in which a station has been lost, the end of the event apart. -/
def State.losing (s : State) (n : Fin 48) : State :=
  ((s.takeOff n .lost ((s.stn n).detached.lost s.plant.lostHold)).raise .stationLost n.val).judgeOfferingOf n

section
variable (s : State) (n : Fin 48)

theorem kept_losing : (s.losing n).kept = s.kept.withStation n ((s.stn n).detached.lost s.plant.lostHold) := by
  rw [State.losing, kept_judgeOfferingOf, kept_raise, kept_takeOff]

theorem stn_losing (m : Fin 48) :
    (s.losing n).stn m = if m = n then (s.stn n).detached.lost s.plant.lostHold else s.stn m := by
  rw [State.losing, stn_judgeOfferingOf, stn_raise, stn_takeOff]

theorem txn_losing {b : Fin 6} (h : (s.br b).txn = none) : ((s.losing n).br b).txn = none := by
  rw [State.losing, txn_judgeOfferingOf, br_raise, br_takeOff]
  simp [Branch.withoutRead, Branch.without, Branch.abandon, Branch.removeEntries, h]

theorem read_losing {d : Fin 6} {m : MeterRead} (h : (s.br d).read = some m) (hm : m.station = n) :
    ((s.losing n).br d).read = none := by
  subst hm
  rw [State.losing, read_judgeOfferingOf, br_raise]
  exact read_takeOff h _ _

/-- The METER-DONE of a lost station's read has at most seven frames behind it. -/
theorem recent_losing {d : Fin 6} {m : MeterRead} (h : (s.br d).read = some m) (hm : m.station = n) :
    ∃ k ≤ 7, (s.losing n).link.recent k (.notice (.meterDone m.tag n .lost)) := by
  subst hm
  obtain ⟨k, hk, hle⟩ := noted_takeOff h .lost ((s.stn m.station).detached.lost s.plant.lostHold)
  rw [State.losing, (judgeOfferingOf_same _ _).2.1]
  rcases link_raise (s.takeOff m.station .lost ((s.stn m.station).detached.lost s.plant.lostHold)) .stationLost
    m.station.val with e | ⟨x, e⟩
  · exact ⟨k, by omega, by rw [e]; exact hk⟩
  · exact ⟨k + 1, by omega, by rw [e]; exact hk.issueNotice (by omega) x⟩

theorem shedCalled_losing (hl : s.capsLawful) (hg : s.sumGrants ≤ s.capacity) : (s.losing n).shedCalled = false := by
  have hk := kept_losing s n
  have hstn := stn_losing s n
  have hz := (lost_idle (s.stn n) s.plant.lostHold).1
  generalize s.losing n = t at hk hstn
  have hb := congrArg Kept.branches hk
  refine shedCalled_of_fallen (congrArg Kept.capacity hk :) (fun b => (congrArg Prod.fst (congrFun hb b) :))
    (fun m => ?_) (fun m => ?_) hl hg
  · rw [hstn]
    split
    · rw [hz]; exact Nat.zero_le _
    · exact le_rfl
  · rw [hstn]
    split
    · rw [Station.grantCap, hz, flowCap_zero]; exact Nat.zero_le _
    · exact le_rfl

theorem faults_endReads (o : MeterOutcome) : (s.endReads n o).faults = s.faults :=
  foldl_keeps State.faults _ (fun s b => by
    unfold State.endRead
    repeat' split
    all_goals rfl) _ s

theorem faults_setStn (r : Station) : (s.setStn n r).faults = s.faults := rfl

theorem faults_takeOff (o : MeterOutcome) (r : Station) : (s.takeOff n o r).faults = s.faults := by
  rw [State.takeOff, faults_setStn, faults_endReads, (detach_same s n).2.1]

/-- STATION_LOST is shown once it finds a place (R11, R171). -/
theorem shows_losing (h : s.faults.records .stationLost n.val) : (s.losing n).faults.shows .stationLost n.val := by
  rw [State.losing, (judgeOfferingOf_same _ _).2.2.1]
  refine shows_raise_self ?_
  rwa [faults_takeOff]

end

theorem read_endTxn {s : State} {d : Fin 6} {m : MeterRead} (h : (s.br d).read = some m) (b : Fin 6) :
    ((s.endTxn b).br d).read = some m := by
  rw [br_endTxn]
  split
  · next e => rw [← e]; exact h
  · exact h

theorem lawful_endTxn {s : State} (hl : s.capsLawful) (hg : s.sumGrants ≤ s.capacity) (b : Fin 6) :
    (s.endTxn b).capsLawful ∧ (s.endTxn b).sumGrants ≤ (s.endTxn b).capacity := by
  refine lawful_of_fallen (s := s) rfl (fun d => ?_) (fun _ => le_rfl) (fun _ => le_rfl) hl hg
  rw [br_endTxn]
  split
  · next e => rw [e]
  · rfl

/-- Settles O55: the transaction ended, the miss by the state of the station, and the end of the event. -/
theorem repliesTimeOut : Obligations.RepliesTimeOut := by
  intro s b x hp hx r
  have hexec : exec (.replyTimeout b) s = .next (s.replyTimeout b) := exec_on (·.replyTimeout b) rfl hp
  have hend (d : Fin 6) : (s.endTxn b).br d = if d = b then { s.br b with txn := none } else s.br d := br_endTxn s b d
  have hfree : ((s.endTxn b).br b).txn = none := by rw [hend, if_pos rfl]
  refine ⟨fun ha => ?_, fun ha => ⟨fun hs hm => ?_, fun hs hm => ?_, fun hs hm => ?_, fun hs hm => ?_, fun hs => ?_⟩⟩
  · rw [replyTimeout_abandoned hx ha] at hexec
    exact ⟨_, hexec, by rw [kept_settle, kept_endTxn], freed_settle hfree s _ _⟩
  · intro missed
    rw [missed_active hx ha hs hm] at hexec
    refine ⟨s.afterMiss b x, hexec, freed_afterMiss s b x, fun h => ?_, fun e rest f seq flow grant hq hf hst hk => ⟨?_, ?_⟩,
      fun m hk hm hst => ⟨read_afterMiss_again s b x hk hm hst, read_afterMiss_third s b x hk hm hst⟩⟩
    · rw [kept_afterMiss, kept_missKind, kept_missed]
      intro rest hr seq flow grant
      obtain ⟨e, f, hq, hf, hst, ha⟩ := (thirdAttempt_missed s b x _ rest).mp hr
      exact h e (by rw [hq]; rfl) f hf hst ha seq flow grant
    · exact fun h3 hl hg hw hc => resend_afterMiss s b x hq hf h3 ⟨seq, flow, grant, hk⟩ hl hg hw hc
    · exact fun h3 => ⟨kept_afterMiss_third s b x ⟨e, f, hq, hf, hst, h3⟩ ⟨seq, flow, grant, hk⟩,
        queue_afterMiss_third s b x ⟨e, f, hq, hf, hst, h3⟩ ⟨seq, flow, grant, hk⟩⟩
  · rw [replyTimeout_missed hx ha, miss_lost hs hm] at hexec
    have hst : ((s.endTxn b).event.lose x.station).st = (s.endTxn b).losing x.station := lose_st _ _
    obtain ⟨hz, hlost, hstand⟩ := lost_idle ((s.endTxn b).stn x.station) s.plant.lostHold
    have hstn : (((s.endTxn b).event.lose x.station).st.stn x.station) =
        ((s.endTxn b).stn x.station).detached.lost s.plant.lostHold := by
      rw [hst, stn_losing, if_pos rfl]
      rfl
    refine ⟨_, hexec, freed_finish (by rw [hst]; exact txn_losing _ _ hfree) s, ?_, ?_, fun hf => ?_, fun d m hd hm => ⟨?_, ?_⟩⟩
    · rw [kept_finish, hst, kept_losing, kept_endTxn, Kept.withStation, stable_lost]
      rfl
    · rw [stn_finish_of_idle, hstn, hstand]
      · rw [hstn, hz]
      · rw [hstn, Station.polled, hlost]
        rintro (h | h) <;> cases h
    · refine (settled_shows (by decide) x.station.val).finish ?_ s
      rw [hst]
      exact shows_losing _ _ hf
    · refine read_finish_none ?_ s
      rw [hst]
      exact read_losing _ _ (read_endTxn hd b) hm
    · intro hl hg
      obtain ⟨hl', hg'⟩ := lawful_endTxn hl hg b
      obtain ⟨k, hle, hrec⟩ := recent_losing (s.endTxn b) x.station (read_endTxn hd b) hm
      rw [← hst] at hrec
      exact (hrec.finish (by omega) (by rw [hst]; exact shedCalled_losing _ _ hl' hg') s).mem
  · rw [replyTimeout_missed hx ha, miss_attaching hs hm] at hexec
    refine ⟨_, hexec, freed_finish (by rw [map_st, br_updStn]; exact hfree) s, ?_⟩
    rw [kept_finish, map_st, kept_updStn_with, event_st, kept_endTxn]
    rfl
  · rw [replyTimeout_missed hx ha, miss_seeking hs hm] at hexec
    refine ⟨_, hexec, freed_finish (by rw [returnToSeeking_st, br_setStn]; exact hfree) s, ?_⟩
    rw [kept_finish, returnToSeeking_st, kept_setStn_with, event_st, kept_endTxn]
    rfl
  · rw [replyTimeout_missed hx ha, miss_unattached hs] at hexec
    exact ⟨_, hexec, by rw [kept_finish, event_st, kept_endTxn], freed_finish hfree s⟩

end Sys2Proof.Machine
end

section
/-!
SUPPORT. A grant pass comes to its end (R75, R79, R81, R82, R87): every round raises a grant or finds a station branch-bound, so the
fuel is enough; and where it stops, no headroom is left or every station that wants more is branch-bound.
-/

namespace Sys2Proof.Machine

open Relation (ReflTransGen)

/-! ### Sums over the stations -/

/-- A sum in which one summand is changed. -/
theorem sumOver_change {l : List (Fin 48)} (hl : l.Nodup) {n : Fin 48} (hn : n ∈ l) {f g : Fin 48 → Nat}
    (h : ∀ m, m ≠ n → g m = f m) : sumOver l g + f n = sumOver l f + g n := by
  unfold sumOver
  induction l with
  | nil => cases hn
  | cons a l ih =>
    obtain ⟨ha, hl⟩ := List.nodup_cons.mp hl
    simp only [List.map_cons, List.sum_cons]
    by_cases e : n = a
    · subst e
      have : l.map g = l.map f := List.map_congr_left fun m hm => h m fun e => ha (e ▸ hm)
      rw [this]
      omega
    · have := ih hl ((List.mem_cons.mp hn).resolve_left e)
      have := h a fun k => e k.symm
      omega

theorem sumOver_setStn (s : State) (n : Fin 48) (r : Station) (f : Station → Nat) :
    sumOver allStations (fun m => f ((s.setStn n r).stn m)) + f (s.stn n) =
      sumOver allStations (fun m => f (s.stn m)) + f r := by
  have h := sumOver_change nodup_allStations (mem_allStations n) (f := fun m => f (s.stn m))
    (g := fun m => f ((s.setStn n r).stn m)) fun m hm => by rw [stn_setStn_ne s hm]
  rwa [stn_setStn_same] at h

/-! ### What the allocator's figures are worked out from -/

section
variable {s t : State} (h : t.ungranted = s.ungranted)
include h

theorem stn_ungranted_of_eq (n : Fin 48) : (t.stn n).ungranted = (s.stn n).ungranted := by
  rw [← stn_ungranted, h, stn_ungranted]

theorem br_ungranted_of_eq (b : Fin 6) : (t.br b).ungranted = (s.br b).ungranted := by
  rw [← br_ungranted, h, br_ungranted]

theorem settings_of_ungranted (b : Fin 6) : (t.br b).settings = (s.br b).settings :=
  (congrArg Branch.settings (br_ungranted_of_eq h b) :)

theorem rest_of_ungranted (b : Fin 6) : (t.br b).rest = (s.br b).rest :=
  (congrArg Branch.rest (br_ungranted_of_eq h b) :)

theorem request_of_ungranted (n : Fin 48) : (t.stn n).requestKw = (s.stn n).requestKw :=
  (congrArg Station.requestKw (stn_ungranted_of_eq h n) :)

theorem grantDt_of_ungranted (n : Fin 48) : (t.stn n).grantDt = (s.stn n).grantDt :=
  (congrArg Station.grantDt (stn_ungranted_of_eq h n) :)

theorem plant_of_ungranted : t.plant = s.plant := (congrArg State.plant h :)

theorem capacity_of_ungranted : t.capacity = s.capacity := (congrArg State.capacity h :)

end

theorem branchOf_of_settings {s t : State} (h : ∀ b, (t.br b).settings = (s.br b).settings) (n : Fin 48) :
    t.branchOf n = s.branchOf n := by
  simp only [State.branchOf, State.inWindow, h]

theorem branchWindow_of_settings {s t : State} (h : ∀ b, (t.br b).settings = (s.br b).settings) (b : Fin 6) :
    t.windowStations b = s.windowStations b := by
  have : t.inWindow b = s.inWindow b := funext fun n => by rw [State.inWindow, State.inWindow, h]
  rw [State.windowStations, State.windowStations, this]

theorem flowCap_mono {k m : Nat} (h : k ≤ m) (d : Nat) : flowCap k d ≤ flowCap m d :=
  Nat.div_le_div_right (Nat.add_le_add_right (Nat.mul_le_mul_right _ h) _)

theorem kwRoom_mono {r q : Nat} (h : r ≤ q) (d : Nat) : kwRoom r d ≤ kwRoom q d :=
  Nat.div_le_div_right (Nat.mul_le_mul_right _ (Nat.mul_le_mul_right _ h))

/-- A branch room falls as the caps of the branch's other stations rise (R65). -/
theorem room_antitone {s t : State} (hset : ∀ b, (t.br b).settings = (s.br b).settings)
    (hc : ∀ m, (s.stn m).grantCap ≤ (t.stn m).grantCap) {n : Fin 48} (hd : (t.stn n).grantDt = (s.stn n).grantDt) (b : Fin 6) :
    t.room b n ≤ s.room b n := by
  unfold State.room
  rw [branchWindow_of_settings hset, hset, hd]
  exact kwRoom_mono (Nat.sub_le_sub_left (sumOver_le _ hc) _) _

/-! ### The work left to a pass -/

/-- What a pass keeps true: the running headroom is the headroom, the bound set has no station twice, and its stations are
branch-bound still (R79, R82). -/
structure PassWork.Sound (w : PassWork) : Prop where
  headroom : w.h = w.st.headroom
  nodup : w.bound.Nodup
  bound : ∀ n ∈ w.bound, ∀ b, w.st.branchOf n = some b → w.st.room b n ≤ (w.st.stn n).grantKw
  quantum : 0 < w.st.plant.quantum

/-- The most rounds that a pass can still take: what is wanted, and the stations not yet found branch-bound (R79). -/
def PassWork.left (w : PassWork) : Nat := w.st.sumWant + (48 - w.bound.length)

theorem given_pos {s : State} {b : Fin 6} {n : Fin 48} {h : Int} (hq : 0 < s.plant.quantum) (hw : 0 < (s.stn n).want)
    (hh : 0 < h) (hr : (s.stn n).grantKw < s.room b n) : 0 < s.given b n h := by
  unfold State.given offered
  omega

theorem given_le (s : State) (b : Fin 6) (n : Fin 48) (h : Int) : s.given b n h ≤ (s.stn n).want := by
  unfold State.given offered
  omega

/-- No grant falls in a pass. -/
theorem PassStep.grant_le {w w' : PassWork} (h : PassStep w w') (m : Fin 48) :
    (w.st.stn m).grantKw ≤ (w'.st.stn m).grantKw := by
  cases h with
  | moved a => exact le_rfl
  | bound n b =>
    show _ ≤ ((w.st.setStn n _).stn m).grantKw
    rw [stn_setStn]
    split
    · next e => rw [e]
    · exact le_rfl
  | given n b _ _ _ _ r hg =>
    show _ ≤ ((w.st.setStn n r).stn m).grantKw
    rw [stn_setStn]
    split
    · next e => rw [e, hg]; exact Nat.le_add_right _ _
    · exact le_rfl

theorem PassStep.cap_le {w w' : PassWork} (h : PassStep w w') (m : Fin 48) :
    (w.st.stn m).grantCap ≤ (w'.st.stn m).grantCap := by
  rw [Station.grantCap, Station.grantCap, grantDt_of_ungranted h.ungranted]
  exact flowCap_mono (h.grant_le m) _

/-- A station that is branch-bound is so after a step. -/
theorem PassStep.room_le {w w' : PassWork} (h : PassStep w w') {n : Fin 48} {b : Fin 6}
    (hr : w.st.room b n ≤ (w.st.stn n).grantKw) : w'.st.room b n ≤ (w'.st.stn n).grantKw :=
  calc w'.st.room b n ≤ w.st.room b n :=
        room_antitone (settings_of_ungranted h.ungranted) h.cap_le (grantDt_of_ungranted h.ungranted n) b
    _ ≤ (w.st.stn n).grantKw := hr
    _ ≤ (w'.st.stn n).grantKw := h.grant_le n

theorem PassStep.sound {w w' : PassWork} (h : PassStep w w') (hs : w.Sound) : w'.Sound := by
  have hq : 0 < w'.st.plant.quantum := by rw [plant_of_ungranted h.ungranted]; exact hs.quantum
  have hof (n : Fin 48) : w'.st.branchOf n = w.st.branchOf n := branchOf_of_settings (settings_of_ungranted h.ungranted) n
  have hroom {n : Fin 48} {b : Fin 6} (hr : w.st.room b n ≤ (w.st.stn n).grantKw) : w'.st.room b n ≤ (w'.st.stn n).grantKw :=
    h.room_le hr
  have hc := capacity_of_ungranted h.ungranted
  cases h with
  | moved a => exact ⟨hs.headroom, hs.nodup, hs.bound, hs.quantum⟩
  | bound n b hn hh hbr hr =>
    have hsum := sumOver_setStn w.st n { w.st.stn n with boundCount := countUp (w.st.stn n).boundCount } Station.committed
    refine ⟨?_, List.nodup_cons.mpr ⟨((eligible_iff _ _ _).mp hn).2.2.2, hs.nodup⟩, fun m hm d hd => ?_, hq⟩
    · show w.h = _
      rw [hs.headroom]
      unfold State.headroom State.sumCommitted
      have : Station.committed { w.st.stn n with boundCount := countUp (w.st.stn n).boundCount } = (w.st.stn n).committed := rfl
      rw [this] at hsum
      rw [hc]
      dsimp only at hsum ⊢
      omega
    · rcases List.mem_cons.mp hm with rfl | hm
      · obtain rfl := Option.some.inj (hbr.symm.trans ((hof m).symm.trans hd))
        exact hroom hr
      · exact hroom (hs.bound m hm d ((hof m).symm.trans hd))
  | given n b hn hh hbr hr r hg =>
    have hsum := sumOver_setStn w.st n r Station.committed
    refine ⟨?_, hs.nodup, fun m hm d hd => hroom (hs.bound m hm d ((hof m).symm.trans hd)), hq⟩
    show w.h - _ = _
    rw [hs.headroom]
    unfold State.headroom State.sumCommitted
    rw [hc]
    dsimp only at hsum ⊢
    omega

theorem sumWant_setStn (s : State) (n : Fin 48) (r : Station) :
    (s.setStn n r).sumWant + (s.stn n).want = s.sumWant + r.want := sumOver_setStn s n r Station.want

theorem PassWork.left_moved (w : PassWork) (a : Allocator) : ({ w with st := { w.st with allocator := a } } : PassWork).left = w.left :=
  rfl

/-- A station found branch-bound leaves one fewer round to take. -/
theorem PassWork.left_bound {w : PassWork} (hs : w.Sound) {n : Fin 48} (hn : n ∉ w.bound) {r : Station}
    (hr : r.want = (w.st.stn n).want) :
    ({ w with st := w.st.setStn n r, bound := n :: w.bound } : PassWork).left < w.left := by
  have hlen : (n :: w.bound).length ≤ 48 := by simpa using (List.nodup_cons.mpr ⟨hn, hs.nodup⟩).length_le_card
  have hw := sumWant_setStn w.st n r
  simp only [PassWork.left, List.length_cons] at hlen ⊢
  omega

/-- An amount given leaves less wanted. -/
theorem PassWork.left_given {w : PassWork} {n : Fin 48} {r : Station} (hr : r.want < (w.st.stn n).want) (h : Int)
    (l : List (Fin 48)) : (PassWork.mk (w.st.setStn n r) h w.bound l).left < w.left := by
  have hsum := sumWant_setStn w.st n r
  simp only [PassWork.left]
  omega

theorem want_given {s : State} {b : Fin 6} {n : Fin 48} {h : Int} (hq : 0 < s.plant.quantum) (hw : 0 < (s.stn n).want)
    (hh : 0 < h) (hr : (s.stn n).grantKw < s.room b n) :
    Station.want { s.stn n with grantKw := (s.stn n).grantKw + s.given b n h } < (s.stn n).want := by
  have hpos := given_pos hq hw hh hr
  have hle := given_le s b n h
  unfold Station.want at hw hle ⊢
  dsimp only
  omega

theorem PassStep.left_le {w w' : PassWork} (h : PassStep w w') (hs : w.Sound) : w'.left ≤ w.left := by
  cases h with
  | moved a => exact (w.left_moved a).le
  | bound n b hn hh hb hr =>
    have hlt := PassWork.left_bound hs ((eligible_iff _ _ _).mp hn).2.2.2
      (r := { w.st.stn n with boundCount := countUp (w.st.stn n).boundCount }) rfl
    exact hlt.le
  | given n b hn hh hb hr r hg =>
    subst hg
    exact (PassWork.left_given (want_given hs.quantum ((eligible_iff _ _ _).mp hn).2.2.1 hh hr) _ _).le

/-- An offer to an eligible station leaves less to do. -/
theorem left_offer {w : PassWork} (hs : w.Sound) {n : Fin 48} (hn : w.st.eligible w.bound n = true) (hh : 0 < w.h) :
    (w.offer n).1.left < w.left := by
  obtain ⟨-, hlive, hwant, hnb⟩ := (eligible_iff _ _ _).mp hn
  obtain ⟨b, hb, -⟩ := (branchLive_iff _ _).mp hlive
  unfold PassWork.offer
  simp only [hb]
  split
  · exact PassWork.left_bound hs hnb rfl
  · next hr => exact PassWork.left_given (want_given hs.quantum hwant hh (by omega)) _ _

theorem run_sound {w w' : PassWork} (h : ReflTransGen PassStep w w') (hs : w.Sound) : w'.Sound ∧ w'.left ≤ w.left := by
  induction h with
  | refl => exact ⟨hs, le_rfl⟩
  | tail _ hstep ih => exact ⟨hstep.sound ih.1, (hstep.left_le ih.1).trans ih.2⟩

/-! ### A round does something -/

/-- With an eligible FIRM station the FIRM part makes an offer. -/
theorem left_firmPart {w : PassWork} (hs : w.Sound) (hh : 0 < w.h) {n : Fin 48} (hc : (w.st.stn n).host.cls = .firm)
    (hn : w.st.eligible w.bound n = true) : w.firmPart.left < w.left := by
  obtain ⟨a, ha⟩ := firmPart_eq w
  rw [ha]
  dsimp only
  rw [PassWork.left_moved]
  have hmem : n ∈ w.snapshot .firm w.st.allocator.firmPtr := mem_snapshot.mpr ⟨hc, hn⟩
  cases hl : w.snapshot .firm w.st.allocator.firmPtr with
  | nil => rw [hl] at hmem; cases hmem
  | cons m l =>
    have hm : w.st.eligible w.bound m = true :=
      (mem_snapshot.mp (show m ∈ w.snapshot .firm w.st.allocator.firmPtr by rw [hl]; exact List.mem_cons_self)).2
    unfold firmOffers
    rw [if_neg (by omega), if_pos hm]
    have hone := left_offer hs hm hh
    have hrest := (run_sound (firmOffers_steps l (w.offer m).1 (if (w.offer m).2 = true then some m else none))
      ((offer_step hm hh).sound hs)).2
    exact lt_of_le_of_lt hrest hone

/-- With no eligible FIRM station the FIRM part moves the allocator's own record alone. -/
theorem firmPart_idle {w : PassWork} (h : ∀ n, (w.st.stn n).host.cls = .firm → w.st.eligible w.bound n = false) :
    ∃ a, w.firmPart = { w with st := { w.st with allocator := a } } := by
  obtain ⟨a, ha⟩ := firmPart_eq w
  have hnil : w.snapshot .firm w.st.allocator.firmPtr = [] := List.eq_nil_iff_forall_not_mem.mpr fun m hm => by
    obtain ⟨hc, hn⟩ := mem_snapshot.mp hm
    rw [h m hc] at hn
    cases hn
  rw [hnil] at ha
  exact ⟨a, ha⟩

/-- With an eligible FLEX station the FLEX step makes an offer. -/
theorem left_flexStep {w : PassWork} (hs : w.Sound) (hh : 0 < w.h) {n : Fin 48} (hc : (w.st.stn n).host.cls = .flex)
    (hn : w.st.eligible w.bound n = true) : w.flexStep.left < w.left := by
  rcases flexStep_eq w with ⟨h, -⟩ | ⟨m, rest, a, hr, h⟩
  · exact absurd h (flexReady_ne_nil hc hn)
  · have hm : (w.setFlex rest).st.eligible (w.setFlex rest).bound m = true := eligible_flexReady (w := w) hr
    rw [h, PassWork.left_moved]
    exact left_offer (w := w.setFlex rest)
      ((PassStep.moved w { w.st.allocator with flexSnapshot := rest }).sound hs) hm hh

/-- Every round that is taken leaves less to do (R79). -/
theorem left_round {w : PassWork} (hs : w.Sound) (hg : w.goesOn = true) : w.round.left < w.left := by
  simp only [PassWork.goesOn, Bool.and_eq_true, decide_eq_true_eq, List.any_eq_true] at hg
  obtain ⟨hh, n, -, hn⟩ := hg
  obtain ⟨hs1, hle⟩ := run_sound (firmPart_steps w) hs
  by_cases hfirm : ∃ m, (w.st.stn m).host.cls = .firm ∧ w.st.eligible w.bound m = true
  · obtain ⟨m, hc, hm⟩ := hfirm
    have hlt := left_firmPart hs hh hc hm
    unfold PassWork.round
    dsimp only
    split
    · next h1 => exact lt_of_le_of_lt (run_sound (flexStep_steps h1) hs1).2 hlt
    · exact hlt
  · have hno : ∀ m, (w.st.stn m).host.cls = .firm → w.st.eligible w.bound m = false := fun m hc =>
      Bool.eq_false_iff.mpr fun hm => hfirm ⟨m, hc, hm⟩
    obtain ⟨a, ha⟩ := firmPart_idle hno
    have hflex : (w.st.stn n).host.cls = .flex := by
      cases hc : (w.st.stn n).host.cls with
      | firm => rw [hno n hc] at hn; cases hn
      | flex => rfl
    unfold PassWork.round
    dsimp only
    rw [ha]
    rw [ha] at hs1
    rw [if_pos hh]
    exact (left_flexStep hs1 hh (n := n) hflex hn).trans_eq (w.left_moved a)

/-- With as much fuel as rounds are left, no round is left at the end. -/
theorem rounds_stop {fuel : Nat} {w : PassWork} (hs : w.Sound) (hf : w.left ≤ fuel) : (rounds fuel w).goesOn = false := by
  induction fuel generalizing w with
  | zero =>
    by_contra hg
    have := left_round hs (Bool.not_eq_false _ ▸ hg)
    omega
  | succ k ih =>
    unfold rounds
    split
    · next hg =>
      have := left_round hs hg
      exact ih (run_sound round_steps hs).1 (by omega)
    · next hg => exact Bool.not_eq_true _ ▸ hg

/-- A pass leaves no headroom, or every ACTIVE station of a LIVE branch that wants more branch-bound (R75, R82, R87). -/
theorem passEnded_of_stopped {w : PassWork} (hs : w.Sound) (hg : w.goesOn = false) : w.st.passEnded := by
  by_cases hh : 0 < w.h
  · right
    intro n b hb hact hlive hwant
    have hn : ¬ w.st.eligible w.bound n = true := by
      simp only [PassWork.goesOn, Bool.and_eq_false_iff, decide_eq_false_iff_not, List.any_eq_false] at hg
      exact hg.resolve_left (fun h => h hh) n (mem_allStations n)
    have hmem : n ∈ w.bound := by
      by_contra hnb
      exact hn ((eligible_iff _ _ _).mpr ⟨hact, (branchLive_iff _ _).mpr ⟨b, hb, hlive⟩, by unfold Station.want; omega, hnb⟩)
    exact hs.bound n hmem b hb
  · left
    rw [← hs.headroom]
    omega

theorem passEnded_grantPass {s : State} (hq : 0 < s.plant.quantum) (l : List (Fin 48)) : (grantPass s l).st.passEnded := by
  have hs : (PassWork.mk s s.headroom [] l).Sound := ⟨rfl, List.nodup_nil, nofun, hq⟩
  unfold grantPass
  refine passEnded_of_stopped (run_sound (rounds_steps _ _) hs).1 (rounds_stop hs ?_)
  show s.sumWant + (48 - 0) ≤ s.sumWant + 49
  omega

/-! ### The end of a pass through the end of an event -/

/-- A station's record without what does not count for an offer. -/
def Station.allotted (r : Station) : Station :=
  { r with nextSeq := 0, boundCount := 0, standing := .uninvolved, sincePoll := none }

/-- What a pass looks at is the same, and no branch has become LIVE. -/
structure State.SameAllotment (s t : State) : Prop where
  capacity : t.capacity = s.capacity
  settings : ∀ b, (t.br b).settings = (s.br b).settings
  stations : ∀ n, (t.stn n).allotted = (s.stn n).allotted
  rest : ∀ b, (t.br b).rest = .live → (s.br b).rest = .live

theorem committed_allotted (r : Station) : r.allotted.committed = r.committed := rfl

theorem grantCap_allotted (r : Station) : r.allotted.grantCap = r.grantCap := rfl

theorem State.SameAllotment.trans {s t u : State} (h : s.SameAllotment t) (k : t.SameAllotment u) : s.SameAllotment u where
  capacity := k.capacity.trans h.capacity
  settings b := (k.settings b).trans (h.settings b)
  stations n := (k.stations n).trans (h.stations n)
  rest b hb := h.rest b (k.rest b hb)

/-- A pass that has ended has ended wherever what it looks at is the same. -/
theorem State.SameAllotment.passEnded {s t : State} (h : s.SameAllotment t) (hs : s.passEnded) : t.passEnded := by
  have hcap (n : Fin 48) : (t.stn n).grantCap = (s.stn n).grantCap := by
    rw [← grantCap_allotted, h.stations, grantCap_allotted]
  have hgrant (n : Fin 48) : (t.stn n).grantKw = (s.stn n).grantKw := (congrArg Station.grantKw (h.stations n) :)
  have hcom (n : Fin 48) : (t.stn n).committed = (s.stn n).committed := by
    rw [← committed_allotted, h.stations, committed_allotted]
  have hhead : t.headroom = s.headroom := by
    simp only [State.headroom, State.sumCommitted, h.capacity, hcom]
  have hroom (b : Fin 6) (n : Fin 48) : t.room b n ≤ s.room b n :=
    room_antitone h.settings (fun m => (hcap m).ge) (congrArg Station.grantDt (h.stations n) :) b
  rcases hs with hs | hs
  · exact .inl (by rw [hhead]; exact hs)
  · refine .inr fun n b hb hact hlive hwant => (hroom b n).trans ?_
    rw [branchOf_of_settings h.settings] at hb
    rw [hgrant n]
    refine hs n b hb ((congrArg Station.state (h.stations n)).symm.trans hact) (h.rest b hlive) ?_
    rw [← hgrant n]
    exact hwant.trans_eq (congrArg Station.requestKw (h.stations n) :)

end Sys2Proof.Machine
end

section
/-!
An accepted REPORT (R9, R10, R17 to R21, R67, R77, R89): the cap entry that carries the station's grant through the changes of the event,
the record, and what follows the allocator.
-/

namespace Sys2Proof.Machine

open Relation (ReflTransGen)

/-! ### A cap entry that waits (R131) -/

/-- An entry of a station waits in a branch's queue under a sequence, with a grant, a flow and a dt used. -/
def State.carries (s : State) (b : Fin 6) (n : Fin 48) (q g f d : Nat) : Prop := ⟨n, q, g, f, d, none⟩ ∈ (s.br b).queue

/-- An entry of a station waits with the station's present figures. -/
def State.carriesNow (s : State) (b : Fin 6) (n : Fin 48) (q : Nat) : Prop :=
  s.carries b n q (s.stn n).grantKw (s.stn n).grantCap (s.stn n).grantDt

/-- A cap change of the station will stand under a sequence: an entry of it waits under that one, or none waits and that one is next. -/
def State.takes (s : State) (b : Fin 6) (n : Fin 48) (q : Nat) : Prop :=
  (∃ g f d, s.carries b n q g f d) ∨ (holdsWaiting (s.br b).queue n = false ∧ (s.stn n).nextSeq = q)

/-- No entry of a station stands in a branch's queue. -/
def State.clearOf (s : State) (b : Fin 6) (n : Fin 48) : Prop := ∀ e ∈ (s.br b).queue, e.station ≠ n

/-- The queue of a branch after a cap change. -/
theorem queue_queueChange (s : State) (c b : Fin 6) (n : Fin 48) (g f d : Nat) :
    ((s.queueChange c n g f d).br b).queue =
      if b = c then
        if holdsWaiting (s.br b).queue n then (s.br b).queue.map fun e => if e.waitsFor n then e.take g f d else e
        else (s.br b).queue ++ [⟨n, (s.stn n).nextSeq, g, f, d, none⟩]
      else (s.br b).queue := by
  unfold State.queueChange State.appendEntry
  by_cases h : b = c
  · subst h
    rw [if_pos rfl]
    split
    · rw [br_updBr_same]
    · rw [br_updStn, br_updBr_same]
  · rw [if_neg h]
    split
    · rw [br_updBr, if_neg h]
    · rw [br_updStn, br_updBr, if_neg h]

theorem handGrant_routed {s : State} {b : Fin 6} {n : Fin 48} (h : s.branchOf n = some b) :
    s.handGrant n = s.queueChange b n (s.stn n).grantKw (s.stn n).grantCap (s.stn n).grantDt := by
  simp only [State.handGrant, h]

theorem handGrant_unrouted {s : State} {n : Fin 48} (h : s.branchOf n = none) : s.handGrant n = s := by
  simp only [State.handGrant, h]

theorem waitsFor_iff (e : CapEntry) (n : Fin 48) : e.waitsFor n = true ↔ e.station = n ∧ e.flight = none := by
  simp [CapEntry.waitsFor, Option.isNone_iff_eq_none]

theorem holdsWaiting_iff (q : List CapEntry) (n : Fin 48) :
    holdsWaiting q n = true ↔ ∃ e ∈ q, e.station = n ∧ e.flight = none := by
  simp [holdsWaiting, waitsFor_iff]

/-- What a cap change of a station writes of its own entries, and of the others. -/
theorem carries_queueChange {s : State} {b : Fin 6} {n : Fin 48} {q : Nat} (h : s.takes b n q) (g f d : Nat) :
    (s.queueChange b n g f d).carries b n q g f d := by
  unfold State.carries
  rw [queue_queueChange, if_pos rfl]
  rcases h with ⟨g', f', d', h⟩ | ⟨h, hq⟩
  · rw [if_pos ((holdsWaiting_iff _ _).mpr ⟨_, h, rfl, rfl⟩)]
    exact List.mem_map.mpr ⟨_, h, if_pos ((waitsFor_iff _ _).mpr ⟨rfl, rfl⟩)⟩
  · rw [if_neg (by simp [h]), hq]
    exact List.mem_append_right _ (List.mem_singleton_self _)

theorem carries_queueChange_ne {s : State} {b c : Fin 6} {n m : Fin 48} (hm : m ≠ n) {q g f d : Nat} (h : s.carries b n q g f d)
    (g' f' d' : Nat) : (s.queueChange c m g' f' d').carries b n q g f d := by
  unfold State.carries at h ⊢
  rw [queue_queueChange]
  split
  · split
    · refine List.mem_map.mpr ⟨_, h, if_neg fun hw => hm ?_⟩
      exact ((waitsFor_iff _ _).mp hw).1.symm
    · exact List.mem_append_left _ h
  · exact h

theorem clearOf_queueChange {s : State} {b c : Fin 6} {n m : Fin 48} (hm : m ≠ n) (h : s.clearOf b n) (g f d : Nat) :
    (s.queueChange c m g f d).clearOf b n := by
  unfold State.clearOf at h ⊢
  rw [queue_queueChange]
  split
  · split
    · intro e he
      obtain ⟨e', he', rfl⟩ := List.mem_map.mp he
      split
      · exact h e' he'
      · exact h e' he'
    · intro e he
      rcases List.mem_append.mp he with he | he
      · exact h e he
      · rw [List.mem_singleton.mp he]
        exact hm
  · exact h

theorem holdsWaiting_queueChange {s : State} {b c : Fin 6} {n m : Fin 48} (hm : m ≠ n)
    (h : holdsWaiting (s.br b).queue n = false) (g f d : Nat) :
    holdsWaiting ((s.queueChange c m g f d).br b).queue n = false := by
  rw [Bool.eq_false_iff, ne_eq, holdsWaiting_iff] at h ⊢
  rw [queue_queueChange]
  rintro ⟨e, he, hn, hf⟩
  split at he
  · split at he
    · obtain ⟨e', he', rfl⟩ := List.mem_map.mp he
      split at hn
      · next hw => exact hm (((waitsFor_iff _ _).mp hw).1.symm.trans hn)
      · next hw => exact h ⟨e', he', hn, by rwa [if_neg hw] at hf⟩
    · rcases List.mem_append.mp he with he | he
      · exact h ⟨e, he, hn, hf⟩
      · rw [List.mem_singleton.mp he] at hn
        exact hm hn
  · exact h ⟨e, he, hn, hf⟩

/-! #### A cap change handed on -/

section
variable {s : State} {b : Fin 6} {n m : Fin 48} {q : Nat}

/-- A station handed its grant has it waiting, under the sequence it had or takes (R88, R131). -/
theorem carriesNow_handGrant (hb : s.branchOf n = some b) (h : s.takes b n q) : (s.handGrant n).carriesNow b n q := by
  obtain ⟨p, hp⟩ := stn_handGrant s n n
  rw [if_pos rfl] at hp
  unfold State.carriesNow
  rw [hp, handGrant_routed hb]
  exact carries_queueChange h _ _ _

theorem carries_handGrant_ne (hm : m ≠ n) {g f d : Nat} (h : s.carries b n q g f d) : (s.handGrant m).carries b n q g f d := by
  cases hb : s.branchOf m with
  | none => rwa [handGrant_unrouted hb]
  | some c => rw [handGrant_routed hb]; exact carries_queueChange_ne hm h _ _ _

theorem clearOf_handGrant_ne (hm : m ≠ n) (h : s.clearOf b n) : (s.handGrant m).clearOf b n := by
  cases hb : s.branchOf m with
  | none => rwa [handGrant_unrouted hb]
  | some c => rw [handGrant_routed hb]; exact clearOf_queueChange hm h _ _ _

theorem takes_handGrant_ne (hm : m ≠ n) (h : s.takes b n q) : (s.handGrant m).takes b n q := by
  rcases h with ⟨g, f, d, h⟩ | ⟨h, hq⟩
  · exact .inl ⟨g, f, d, carries_handGrant_ne hm h⟩
  · refine .inr ⟨?_, by rw [stn_handGrant_ne s hm.symm, hq]⟩
    cases hb : s.branchOf m with
    | none => rwa [handGrant_unrouted hb]
    | some c => rw [handGrant_routed hb]; exact holdsWaiting_queueChange hm h _ _ _

theorem State.carriesNow.takes (h : s.carriesNow b n q) : s.takes b n q := .inl ⟨_, _, _, h⟩

/-- Where an entry has the present figures, the changes of any stations leave it so. -/
theorem State.carriesNow.handGrant (hb : s.branchOf n = some b) (h : s.carriesNow b n q) (m : Fin 48) :
    (s.handGrant m).carriesNow b n q := by
  by_cases hm : m = n
  · rw [hm]
    exact carriesNow_handGrant hb h.takes
  · unfold State.carriesNow at h ⊢
    rw [stn_handGrant_ne s (Ne.symm hm)]
    exact carries_handGrant_ne hm h

end

theorem branchOf_handGrant (s : State) (m n : Fin 48) : (s.handGrant m).branchOf n = s.branchOf n :=
  branchOf_of_settings (settings_of_ungranted (ungranted_handGrant s m)) n

/-! #### The changes of an event handed on (R88, R111) -/

section
variable {before : State} {b : Fin 6} {n : Fin 48} {q : Nat}

theorem carriesNow_handChanges {s : State} (hb : s.branchOf n = some b) (h : s.carriesNow b n q) (l : List (Fin 48)) :
    (handChanges before l s).carriesNow b n q := by
  unfold handChanges
  induction l generalizing s with
  | nil => exact h
  | cons m l ih =>
    rw [List.foldl_cons]
    split
    · exact ih hb h
    · exact ih ((branchOf_handGrant s m n).trans hb) (h.handGrant hb m)

/-- A station whose grant the event has changed, and noted, ends with its figures waiting. -/
theorem carriesNow_of_changed {s : State} (hb : s.branchOf n = some b) (h : s.takes b n q)
    (hg : (s.stn n).grantKw ≠ (before.stn n).grantKw) {l : List (Fin 48)} (hl : n ∈ l) :
    (handChanges before l s).carriesNow b n q := by
  unfold handChanges
  induction l generalizing s with
  | nil => cases hl
  | cons m l ih =>
    rw [List.foldl_cons]
    by_cases hm : m = n
    · rw [if_neg (by rw [hm]; exact hg), hm]
      exact carriesNow_handChanges ((branchOf_handGrant s n n).trans hb) (carriesNow_handGrant hb h) l
    · have hl' : n ∈ l := (List.mem_cons.mp hl).resolve_left fun e => hm e.symm
      split
      · exact ih hb h hg hl'
      · exact ih ((branchOf_handGrant s m n).trans hb) (takes_handGrant_ne hm h)
          (by rw [stn_handGrant_ne s (Ne.symm hm)]; exact hg) hl'

/-- What the changes of other stations leave alone is left alone where the event has not changed a station's grant. -/
theorem handChanges_of_unchanged {P : State → Prop} (hP : ∀ s m, m ≠ n → P s → P (s.handGrant m)) {s : State}
    (hg : (s.stn n).grantKw = (before.stn n).grantKw) (h : P s) (l : List (Fin 48)) : P (handChanges before l s) := by
  unfold handChanges
  induction l generalizing s with
  | nil => exact h
  | cons m l ih =>
    rw [List.foldl_cons]
    split
    · exact ih hg h
    · next hm =>
      have hmn : m ≠ n := fun e => hm (by rw [e]; exact hg)
      exact ih (by rw [stn_handGrant_ne s (Ne.symm hmn)]; exact hg) (hP s m hmn h)

end

/-! ### The sheds and the pass before the changes are handed on -/

/-- From `s` to `u` grants alone have been cut or raised, no queue is touched, and the stations whose grant has changed are noted. -/
structure Regranted (s u : State) (l : List (Fin 48)) : Prop where
  br : ∀ b, u.br b = s.br b
  stn : ∀ n, ∃ g k, u.stn n = { s.stn n with grantKw := g, boundCount := k }
  noted : ∀ n, (u.stn n).grantKw ≠ (s.stn n).grantKw → n ∈ l
  within : ∀ n, (s.stn n).grantKw ≤ (s.stn n).requestKw → (u.stn n).grantKw ≤ (u.stn n).requestKw

theorem Regranted.self (s : State) : Regranted s s [] := ⟨fun _ => rfl, fun _ => ⟨_, _, rfl⟩, fun _ h => absurd rfl h, fun _ => id⟩

/-- One station's grant rewritten, and noted. -/
theorem Regranted.setStn {s u : State} {l : List (Fin 48)} (h : Regranted s u l) {n : Fin 48} {g k : Nat}
    (hg : (u.stn n).grantKw ≤ (u.stn n).requestKw → g ≤ (u.stn n).requestKw) {l' : List (Fin 48)} (hl : ∀ m ∈ l, m ∈ l')
    (hn : g ≠ (u.stn n).grantKw → n ∈ l') :
    Regranted s (u.setStn n { u.stn n with grantKw := g, boundCount := k }) l' where
  br := h.br
  stn m := by
    rw [stn_setStn]
    split
    · next e =>
      obtain ⟨g', k', hs⟩ := h.stn n
      exact ⟨g, k, by rw [e, hs]⟩
    · exact h.stn m
  noted m hm := by
    rw [stn_setStn] at hm
    split at hm
    · next e =>
      subst e
      by_cases hc : g = (u.stn m).grantKw
      · exact hl m (h.noted m (by rw [← hc]; exact hm))
      · exact hn hc
    · exact hl m (h.noted m hm)
  within m hm := by
    rw [stn_setStn]
    split
    · next e =>
      subst e
      exact hg (h.within m hm)
    · exact h.within m hm

theorem Regranted.sheds (s : State) : Regranted s (sheds s).1 (sheds s).2 :=
  CutStep.run_keeps (P := fun w => Regranted s w.1 w.2) (fun w w' hw h => by
    cases hw with
    | moved a => exact ⟨h.br, h.stn, h.noted, h.within⟩
    | cut n k hg =>
      exact h.setStn (g := (w.1.stn n).grantKw - k) (k := (w.1.stn n).boundCount) (fun hr => (Nat.sub_le _ _).trans hr)
        (fun m hm => mem_noteChange.mpr (.inr hm)) fun _ => mem_noteChange.mpr (.inl rfl)
    | raised n =>
      refine ⟨fun b => ?_, fun m => ?_, fun m hm => ?_, fun m hm => ?_⟩
      · rw [br_raise, h.br]
      · rw [stn_raise]; exact h.stn m
      · rw [stn_raise] at hm; exact h.noted m hm
      · rw [stn_raise]; exact h.within m hm) (sheds_steps s) (.self s)

theorem Regranted.grantPass {s u : State} {l : List (Fin 48)} (h : Regranted s u l) :
    Regranted s (grantPass u l).st (grantPass u l).changed :=
  PassStep.run_keeps (P := fun w => Regranted s w.st w.changed) (fun w w' hw h => by
    cases hw with
    | moved a => exact ⟨h.br, h.stn, h.noted, h.within⟩
    | bound n b =>
      exact h.setStn (g := (w.st.stn n).grantKw) (k := countUp (w.st.stn n).boundCount) id (fun m hm => hm)
        fun hc => absurd rfl hc
    | given n b hn hh hb hr r hg =>
      subst hg
      refine h.setStn (g := (w.st.stn n).grantKw + w.st.given b n w.h) (k := (w.st.stn n).boundCount) (fun hq => ?_)
        (fun m hm => mem_noteChange.mpr (.inr hm)) fun _ => mem_noteChange.mpr (.inl rfl)
      have := given_le w.st b n w.h
      unfold Station.want at this
      omega) (grantPass_steps u l) h

/-- The allocator hands on the changes of grants cut and raised (R78). -/
theorem allocate_regranted (e : Event) : ∃ u l, Regranted e.st u l ∧ allocate e = handChanges e.st l u := by
  have hs := Regranted.sheds e.st
  unfold allocate
  generalize sheds e.st = w at hs
  dsimp only
  split
  · exact ⟨_, _, hs.grantPass, rfl⟩
  · exact ⟨_, _, hs, rfl⟩

section
variable {s u : State} {l : List (Fin 48)} (h : Regranted s u l) {b : Fin 6} {n : Fin 48} {q : Nat}
include h

theorem Regranted.branchOf (m : Fin 48) : u.branchOf m = s.branchOf m :=
  branchOf_of_settings (fun b => by rw [h.br]) m

theorem Regranted.carries {g f d : Nat} (hc : s.carries b n q g f d) : u.carries b n q g f d := by
  unfold State.carries
  rw [h.br]
  exact hc

theorem Regranted.takes (ht : s.takes b n q) : u.takes b n q := by
  obtain ⟨g, k, hs⟩ := h.stn n
  unfold State.takes
  rw [h.br, hs]
  exact ht.imp_left fun ⟨g, f, d, hc⟩ => ⟨g, f, d, h.carries hc⟩

theorem Regranted.grantCap (hg : (u.stn n).grantKw = (s.stn n).grantKw) : (u.stn n).grantCap = (s.stn n).grantCap := by
  obtain ⟨g, k, hs⟩ := h.stn n
  rw [hs] at hg ⊢
  exact congrArg (fun x => flowCap x (s.stn n).grantDt) hg

end

theorem stn_handChanges (before : State) (l : List (Fin 48)) (s : State) (m : Fin 48) :
    ∃ q, (handChanges before l s).stn m = { s.stn m with nextSeq := q } := by
  unfold handChanges
  induction l generalizing s with
  | nil => exact ⟨_, rfl⟩
  | cons n l ih =>
    rw [List.foldl_cons]
    split
    · exact ih s
    · obtain ⟨q, hq⟩ := ih (s.handGrant n)
      obtain ⟨p, hp⟩ := stn_handGrant s n m
      refine ⟨q, hq.trans ?_⟩
      rw [hp]
      split
      · next e => rw [e]
      · rfl

/-- An entry of a station waits with its grant and cap, and with its grant ΔT unless the grant is 0 kW. -/
def State.queued (s : State) (b : Fin 6) (n : Fin 48) (q : Nat) : Prop :=
  ∃ d, s.carries b n q (s.stn n).grantKw (s.stn n).grantCap d ∧ (0 < (s.stn n).grantKw → d = (s.stn n).grantDt)

theorem State.carriesNow.queued {s : State} {b : Fin 6} {n : Fin 48} {q : Nat} (h : s.carriesNow b n q) : s.queued b n q :=
  ⟨_, h, fun _ => rfl⟩

/-- An entry that waits with a station's figures does so with its figures after the allocator (R88, R111). -/
theorem queued_allocate {e : Event} {b : Fin 6} {n : Fin 48} {q : Nat} (hb : e.st.branchOf n = some b) (h : e.st.queued b n q) :
    (allocate e).queued b n q := by
  obtain ⟨u, l, hu, ha⟩ := allocate_regranted e
  obtain ⟨d, hc, hd⟩ := h
  rw [ha]
  by_cases hg : (u.stn n).grantKw = (e.st.stn n).grantKw
  · obtain ⟨p, hp⟩ := stn_handChanges e.st l u n
    obtain ⟨g, k, hs⟩ := hu.stn n
    refine ⟨d, handChanges_of_unchanged (P := fun v => v.carries b n q _ _ d) (fun v m hm hv => carries_handGrant_ne hm hv) hg ?_ l,
      fun hpos => ?_⟩
    · rw [hp]
      show u.carries b n q (u.stn n).grantKw (u.stn n).grantCap d
      rw [hg, hu.grantCap hg]
      exact hu.carries hc
    · rw [hp] at hpos ⊢
      show d = (u.stn n).grantDt
      rw [hd (hg ▸ hpos), hs]
  · exact (carriesNow_of_changed ((hu.branchOf n).trans hb) (hu.takes (.inl ⟨_, _, _, hc⟩)) hg (hu.noted n hg)).queued

/-- Where no entry of a station stands, the allocator leaves none, its next sequence kept, or one with its figures. -/
theorem carriesNow_or_clear_allocate {e : Event} {b : Fin 6} {n : Fin 48} (hb : e.st.branchOf n = some b) (h : e.st.clearOf b n) :
    (allocate e).carriesNow b n (e.st.stn n).nextSeq ∨
      ((allocate e).clearOf b n ∧ ((allocate e).stn n).nextSeq = (e.st.stn n).nextSeq) := by
  obtain ⟨u, l, hu, ha⟩ := allocate_regranted e
  obtain ⟨g, k, hs⟩ := hu.stn n
  rw [ha]
  by_cases hg : (u.stn n).grantKw = (e.st.stn n).grantKw
  · right
    refine handChanges_of_unchanged (P := fun v => v.clearOf b n ∧ (v.stn n).nextSeq = (e.st.stn n).nextSeq)
      (fun v m hm hv => ⟨clearOf_handGrant_ne hm hv.1, by rw [stn_handGrant_ne v (Ne.symm hm)]; exact hv.2⟩) hg ⟨?_, ?_⟩ l
    · unfold State.clearOf
      rw [hu.br]
      exact h
    · rw [hs]
  · left
    refine carriesNow_of_changed ((hu.branchOf n).trans hb) (hu.takes (.inr ⟨?_, rfl⟩)) hg (hu.noted n hg)
    rw [Bool.eq_false_iff, ne_eq, holdsWaiting_iff]
    rintro ⟨e', he', hn, -⟩
    exact h e' he' hn

theorem within_allocate {e : Event} {n : Fin 48} (h : (e.st.stn n).grantKw ≤ (e.st.stn n).requestKw) :
    ((allocate e).stn n).grantKw ≤ ((allocate e).stn n).requestKw := by
  obtain ⟨u, l, hu, ha⟩ := allocate_regranted e
  obtain ⟨p, hp⟩ := stn_handChanges e.st l u n
  rw [ha, hp]
  exact hu.within n h

end Sys2Proof.Machine
end

section
/-!
An accepted REPORT, continued: the event up to the allocator, what follows it, and the end of the event.
-/

namespace Sys2Proof.Machine

/-! ### A pass that has ended, up to the end of the event -/

theorem sameAllotment_of_ungranted {s t : State} (h : t.ungranted = s.ungranted)
    (hs : ∀ n, (t.stn n).allotted = (s.stn n).allotted) : s.SameAllotment t where
  capacity := capacity_of_ungranted h
  settings := settings_of_ungranted h
  stations := hs
  rest b hb := by rw [← rest_of_ungranted h]; exact hb

theorem sameAllotment_handChanges (before : State) (l : List (Fin 48)) (s : State) :
    s.SameAllotment (handChanges before l s) :=
  sameAllotment_of_ungranted (ungranted_handChanges before l s) fun n => by
    obtain ⟨q, hq⟩ := stn_handChanges before l s n
    rw [hq]
    rfl

theorem sameAllotment_handGrant (s : State) (n : Fin 48) : s.SameAllotment (s.handGrant n) :=
  sameAllotment_of_ungranted (ungranted_handGrant s n) fun m => by
    obtain ⟨q, hq⟩ := stn_handGrant s n m
    rw [hq]
    split
    · next e => rw [e]; rfl
    · rfl

theorem allotted_of_unsent {r r' : Station} (h : r.unsent = r'.unsent) : r.allotted = r'.allotted :=
  (congrArg Station.allotted h :)

/-- The arbiters and the judging at the end of an event leave what a pass looks at. -/
theorem sameAllotment_settle (s before : State) (t r : Bool) : s.SameAllotment (s.settle before t r) where
  capacity := (congrArg Kept.capacity (kept_settle s before t r) :)
  settings b := (congrArg Prod.fst (congrFun (congrArg Kept.branches (kept_settle s before t r)) b) :)
  stations n := by
    rw [stn_settle]
    exact allotted_of_unsent (stn_unsent_of_eq (unsent_arbitrateAll s) n)
  rest b hb := by
    rw [br_settle] at hb
    by_contra h
    exact h ((rest_arbitrateAll h).symm.trans hb)

theorem plant_of_unshed {s t : State} (h : t.ungranted.unraised = s.ungranted.unraised) : t.plant = s.plant :=
  (congrArg State.plant h :)

theorem plant_sheds (s : State) : (sheds s).1.plant = s.plant := plant_of_unshed (unshed_sheds s)

/-- A pass that comes with an event has ended when the allocator has finished (R79, R87). -/
theorem passEnded_allocate {e : Event} (hp : e.pass = true) (hq : 0 < e.st.plant.quantum) : (allocate e).passEnded := by
  have hq' : 0 < (sheds e.st).1.plant.quantum := by rw [plant_sheds]; exact hq
  unfold allocate
  generalize sheds e.st = w at hq'
  simp only [hp, if_true]
  have h := passEnded_grantPass hq' w.2
  generalize grantPass w.1 w.2 = p at h
  exact (sameAllotment_handChanges e.st p.changed p.st).passEnded h

theorem passEnded_settle {s : State} (h : s.passEnded) (before : State) (t r : Bool) : (s.settle before t r).passEnded :=
  (sameAllotment_settle s before t r).passEnded h

/-! ### The record of a report (R18 to R21) -/

/-- The record with a report taken, its figures written out. -/
def Station.reported (r : Station) (f : ReportFields) : Station :=
  let supply := if f.supply ≤ 300 then some f.supply else none
  let ret := if f.ret ≤ 400 then some f.ret else none
  let pair := supply.isSome && ret.isSome
  let held := min 10 (r.dtHold + 1)
  { r with
    missCount := 0
    requestKw := min f.requestKw r.host.contractKw
    clamped := decide (r.host.contractKw < f.requestKw)
    supply := supply
    ret := ret
    measuredDt := if pair then some (f.ret - f.supply) else if held = 10 then none else r.measuredDt
    dtHold := if pair then 0 else held
    indexDp :=
      if r.resolved.index = false then none else if f.indexDp ≤ 6000 then some ⟨f.indexDp, 0⟩ else r.indexDp
    confirmedKw := if f.standalone then r.assumedKw else r.confirmedKw
    confirmedFlow := if f.standalone then flowCap r.assumedKw r.host.designDt else r.confirmedFlow
    confirmedDt := if f.standalone then r.host.designDt else r.confirmedDt }

theorem takeTemperatures_eq (r : Station) (supply ret : Nat) :
    r.takeTemperatures supply ret =
      let supply' := if supply ≤ 300 then some supply else none
      let ret' := if ret ≤ 400 then some ret else none
      let pair := supply'.isSome && ret'.isSome
      let held := min 10 (r.dtHold + 1)
      { r with
        supply := supply'
        ret := ret'
        measuredDt := if pair then some (ret - supply) else if held = 10 then none else r.measuredDt
        dtHold := if pair then 0 else held } := by
  by_cases hs : supply ≤ 300 <;> by_cases hr : ret ≤ 400 <;>
    simp [Station.takeTemperatures, Station.holdDt, measured, hs, hr]

theorem takeIndex_eq (r : Station) (dp : Nat) :
    r.takeIndex dp =
      { r with indexDp := if r.resolved.index = false then none else if dp ≤ 6000 then some ⟨dp, 0⟩ else r.indexDp } := by
  unfold Station.takeIndex measured
  cases r.resolved.index
  · rfl
  · by_cases h : dp ≤ 6000 <;> simp [h]

theorem takeStandalone_eq (r : Station) (flag : Bool) :
    r.takeStandalone flag =
      { r with
        confirmedKw := if flag then r.assumedKw else r.confirmedKw
        confirmedFlow := if flag then flowCap r.assumedKw r.host.designDt else r.confirmedFlow
        confirmedDt := if flag then r.host.designDt else r.confirmedDt } := by
  cases flag <;> rfl

theorem takeReport_eq (r : Station) (f : ReportFields) :
    Station.takeReport { r with missCount := 0 } f = r.reported f := by
  simp only [Station.takeReport, takeStandalone_eq, takeIndex_eq, takeTemperatures_eq, Station.takeRequest]
  rfl

/-! ### A wake reason, and a newcomer's place in the rest (R148, R150, R153) -/

/-- What the waking of a branch leaves alone: all but its rest state, its wake timer and the standings. -/
structure State.Roused (s t : State) : Prop where
  same : s.SameAllotment t
  queue : ∀ d, (t.br d).queue = (s.br d).queue
  stn : ∀ m, ∃ x, t.stn m = { s.stn m with standing := x }
  faults : t.faults = s.faults

theorem roused_setStanding (s : State) (n : Fin 48) (x : Standing) : s.Roused (s.setStanding n x) := by
  have hs (m : Fin 48) : ∃ y, (s.setStanding n x).stn m = { s.stn m with standing := y } := by
    unfold State.setStanding
    rw [stn_updStn]
    split
    · next e => rw [e]; exact ⟨_, rfl⟩
    · exact ⟨_, rfl⟩
  exact ⟨⟨rfl, fun _ => rfl, fun m => by obtain ⟨y, hy⟩ := hs m; rw [hy]; rfl, fun _ => id⟩, fun _ => rfl, hs, rfl⟩

theorem State.Roused.trans {s t u : State} (h : s.Roused t) (k : t.Roused u) : s.Roused u where
  same := h.same.trans k.same
  queue d := (k.queue d).trans (h.queue d)
  stn m := by
    obtain ⟨x, hx⟩ := h.stn m
    obtain ⟨y, hy⟩ := k.stn m
    exact ⟨y, by rw [hy, hx]⟩
  faults := k.faults.trans h.faults

theorem State.Roused.refl (s : State) : s.Roused s :=
  ⟨⟨rfl, fun _ => rfl, fun _ => rfl, fun _ => id⟩, fun _ => rfl, fun _ => ⟨_, rfl⟩, rfl⟩

theorem roused_standings (l : List (Fin 48)) (x : Standing) (s : State) :
    s.Roused (l.foldl (fun s n => s.setStanding n x) s) ∧ (l.foldl (fun s n => s.setStanding n x) s).branches = s.branches := by
  induction l generalizing s with
  | nil => exact ⟨.refl s, rfl⟩
  | cons n l ih =>
    obtain ⟨h, hb⟩ := ih (s.setStanding n x)
    exact ⟨(roused_setStanding s n x).trans h, hb⟩

/-- A branch WAKING, the wakes not yet owed (R150). -/
def State.startWaking (s : State) (b : Fin 6) : State :=
  s.updBr b fun c => { c with rest := .waking, wakeTimer := some c.settings.wakeTime }

theorem br_startWaking (s : State) (b d : Fin 6) :
    (s.startWaking b).br d =
      if d = b then { s.br b with rest := .waking, wakeTimer := some (s.br b).settings.wakeTime } else s.br d := br_updBr s b d _

theorem roused_startWaking (s : State) (b : Fin 6) : s.Roused (s.startWaking b) := by
  refine ⟨⟨rfl, fun d => ?_, fun _ => rfl, fun d hd => ?_⟩, fun d => ?_, fun _ => ⟨_, rfl⟩, rfl⟩
  · rw [br_startWaking]
    split
    · next e => rw [e]
    · rfl
  · rw [br_startWaking] at hd
    split at hd
    · cases hd
    · exact hd
  · rw [br_startWaking]
    split
    · next e => rw [e]
    · rfl

theorem roused_enterWaking (s : State) (b : Fin 6) : s.Roused (s.enterWaking b) ∧ ((s.enterWaking b).br b).rest = .waking := by
  obtain ⟨h, hbr⟩ := roused_standings ((s.startWaking b).activeIn b) .wakeOwed (s.startWaking b)
  refine ⟨(roused_startWaking s b).trans h, ?_⟩
  have hx : (s.enterWaking b).br b = (s.startWaking b).br b := congrArg (fun v : Vector Branch 6 => v[b.val]) hbr
  rw [hx, br_startWaking, if_pos rfl]

theorem roused_wakeReason (s : State) (b : Fin 6) : s.Roused (s.wakeReason b) := by
  unfold State.wakeReason
  split
  · exact (roused_enterWaking s b).1
  · exact .refl s

/-- A wake reason leaves a branch WAKING that was at rest or is WAKING already (R148). -/
theorem waking_wakeReason {s : State} {b : Fin 6}
    (h : (s.br b).rest = .offering ∨ (s.br b).rest = .resting ∨ (s.br b).rest = .waking) :
    ((s.wakeReason b).br b).rest = .waking := by
  unfold State.wakeReason
  split
  · exact (roused_enterWaking s b).2
  · next hn =>
    rcases h with h | h | h
    · exact absurd (.inl h) hn
    · exact absurd (.inr h) hn
    · exact h

/-- A newcomer leaves a branch that is not LIVE as it was, or WAKING (R153). -/
theorem roused_joinRest (s : State) (b : Fin 6) (n : Fin 48) :
    s.Roused (s.joinRest b n) ∧ (((s.joinRest b n).br b).rest = (s.br b).rest ∨ ((s.joinRest b n).br b).rest = .waking) := by
  unfold State.joinRest
  split
  · exact ⟨.refl s, .inl rfl⟩
  · exact ⟨roused_setStanding s n _, .inl rfl⟩
  · split
    · exact ⟨roused_setStanding s n _, .inl rfl⟩
    · exact ⟨(roused_enterWaking s b).1, .inr (roused_enterWaking s b).2⟩
  · split
    · exact ⟨roused_setStanding s n _, .inl rfl⟩
    · exact ⟨(roused_enterWaking s b).1, .inr (roused_enterWaking s b).2⟩

theorem State.Roused.carriesNow {s t : State} (h : s.Roused t) {b : Fin 6} {n : Fin 48} {q : Nat} (hc : s.carriesNow b n q) :
    t.carriesNow b n q := by
  obtain ⟨x, hx⟩ := h.stn n
  unfold State.carriesNow State.carries at hc ⊢
  rw [h.queue, hx]
  exact hc

theorem State.Roused.queued {s t : State} (h : s.Roused t) {b : Fin 6} {n : Fin 48} {q : Nat} (hc : s.queued b n q) :
    t.queued b n q := by
  obtain ⟨x, hx⟩ := h.stn n
  unfold State.queued State.carries at hc ⊢
  rw [h.queue, hx]
  exact hc

/-! ### An entry that waits, up to the end of the event -/

theorem figures_settle (s before : State) (t r : Bool) (n : Fin 48) :
    ((s.settle before t r).stn n).allotted = (s.stn n).allotted := (sameAllotment_settle s before t r).stations n

/-- An entry that waits stands in the queue after the arbiters, perhaps in flight. -/
theorem carries_settle {s : State} {b : Fin 6} {n : Fin 48} {q g f d : Nat} (h : s.carries b n q g f d) (before : State)
    (t r : Bool) :
    ∃ e ∈ ((s.settle before t r).br b).queue, e.station = n ∧ e.seq = q ∧ e.targetGrant = g ∧ e.targetFlow = f ∧ e.dtUsed = d := by
  have hm : (⟨n, q, g, f, d, none⟩ : CapEntry) ∈ (s.arbitrateAll.br b).queue.map CapEntry.grounded := by
    rw [queue_arbitrateAll]
    exact List.mem_map.mpr ⟨_, h, rfl⟩
  obtain ⟨e, he, hg⟩ := List.mem_map.mp hm
  refine ⟨e, by rw [br_settle]; exact he, (congrArg CapEntry.station hg :), (congrArg CapEntry.seq hg :),
    (congrArg CapEntry.targetGrant hg :), (congrArg CapEntry.targetFlow hg :), (congrArg CapEntry.dtUsed hg :)⟩

theorem queued_settle {s : State} {b : Fin 6} {n : Fin 48} {q : Nat} (h : s.queued b n q) (before : State) (t r : Bool) :
    ∃ e ∈ ((s.settle before t r).br b).queue, e.station = n ∧ e.seq = q ∧
      e.targetGrant = ((s.settle before t r).stn n).grantKw ∧ e.targetFlow = ((s.settle before t r).stn n).grantCap ∧
      (0 < ((s.settle before t r).stn n).grantKw → e.dtUsed = ((s.settle before t r).stn n).grantDt) := by
  have hs := figures_settle s before t r n
  obtain ⟨d, hc, hd⟩ := h
  obtain ⟨e, he, hn, hq, hg, hf, hdt⟩ := carries_settle hc before t r
  generalize (s.settle before t r).stn n = x at hs
  have h1 : x.grantKw = (s.stn n).grantKw := (congrArg Station.grantKw hs :)
  have h2 : x.grantDt = (s.stn n).grantDt := (congrArg Station.grantDt hs :)
  refine ⟨e, he, hn, hq, by rw [h1, hg], by rw [Station.grantCap, h1, h2, hf]; rfl, fun hp => ?_⟩
  rw [h2, hdt, hd (by rw [← h1]; exact hp)]

theorem carriesNow_settle {s : State} {b : Fin 6} {n : Fin 48} {q : Nat} (h : s.carriesNow b n q) (before : State) (t r : Bool) :
    ∃ e ∈ ((s.settle before t r).br b).queue, e.station = n ∧ e.seq = q ∧
      e.targetGrant = ((s.settle before t r).stn n).grantKw ∧ e.targetFlow = ((s.settle before t r).stn n).grantCap ∧
      e.dtUsed = ((s.settle before t r).stn n).grantDt := by
  have hs := figures_settle s before t r n
  obtain ⟨e, he, hn, hq, hg, hf, hdt⟩ := carries_settle h before t r
  generalize (s.settle before t r).stn n = x at hs
  have h1 : x.grantKw = (s.stn n).grantKw := (congrArg Station.grantKw hs :)
  have h2 : x.grantDt = (s.stn n).grantDt := (congrArg Station.grantDt hs :)
  exact ⟨e, he, hn, hq, by rw [h1, hg], by rw [Station.grantCap, h1, h2, hf]; rfl, by rw [h2, hdt]⟩

theorem rest_settle {s : State} {b : Fin 6} (h : (s.br b).rest = .waking) (before : State) (t r : Bool) :
    ((s.settle before t r).br b).rest = .waking := by
  rw [br_settle, rest_arbitrateAll (by rw [h]; exact nofun), h]

end Sys2Proof.Machine
end

section
/-!
An accepted REPORT, concluded (R9, R10, R21, R67, R77, R148, R172).
-/

namespace Sys2Proof.Machine

/-- The state with the record of a report written and its demand noted, its transaction ended. -/
def State.heard (s : State) (b : Fin 6) (n : Fin 48) (f : ReportFields) : State :=
  ((((s.endTxn b).updStn n fun c => { c with missCount := 0 })).setStn n ((s.stn n).reported f)).noteDemand b f.requestKw

section
variable (s : State) (b : Fin 6) (n : Fin 48) (f : ReportFields)

/-- A report of demand is noted in the branch's rotation and idle count alone. -/
theorem noteDemand_same (kw : Nat) :
    (s.noteDemand b kw).stations = s.stations ∧ (s.noteDemand b kw).kept = s.kept ∧
      ∀ d, ((s.noteDemand b kw).br d).queue = (s.br d).queue ∧ ((s.noteDemand b kw).br d).settings = (s.br d).settings ∧
        ((s.noteDemand b kw).br d).rest = (s.br d).rest := by
  unfold State.noteDemand
  split
  · refine ⟨rfl, ?_, fun d => ?_⟩
    · rw [kept_updBr] <;> intro <;> rfl
    · rw [br_updBr]
      split
      · next e => rw [e]; exact ⟨rfl, rfl, rfl⟩
      · exact ⟨rfl, rfl, rfl⟩
  · exact ⟨rfl, rfl, fun _ => ⟨rfl, rfl, rfl⟩⟩

theorem stn_heard (m : Fin 48) : (s.heard b n f).stn m = if m = n then (s.stn n).reported f else s.stn m := by
  have h : (s.heard b n f).stn m =
      (((s.endTxn b).updStn n fun c => { c with missCount := 0 }).setStn n ((s.stn n).reported f)).stn m :=
    congrArg (fun v : Vector Station 48 => v[m.val]) (noteDemand_same _ b f.requestKw).1
  rw [h, stn_setStn]
  split
  · rfl
  · next hm => rw [stn_updStn, if_neg hm]; rfl

theorem br_heard (d : Fin 6) :
    ((s.heard b n f).br d).queue = (s.br d).queue ∧ ((s.heard b n f).br d).settings = (s.br d).settings ∧
      ((s.heard b n f).br d).rest = (s.br d).rest := by
  obtain ⟨h1, h2, h3⟩ := (noteDemand_same
    (((s.endTxn b).updStn n fun c => { c with missCount := 0 }).setStn n ((s.stn n).reported f)) b f.requestKw).2.2 d
  have hb : (((s.endTxn b).updStn n fun c => { c with missCount := 0 }).setStn n ((s.stn n).reported f)).br d =
      if d = b then { s.br b with txn := none } else s.br d := br_endTxn s b d
  rw [hb] at h1 h2 h3
  unfold State.heard
  rw [h1, h2, h3]
  split
  · next e => rw [e]; exact ⟨rfl, rfl, rfl⟩
  · exact ⟨rfl, rfl, rfl⟩

theorem kept_heard : (s.heard b n f).kept = s.kept.withStation n ((s.stn n).reported f) := by
  rw [State.heard, (noteDemand_same _ b f.requestKw).2.1, kept_setStn_with, kept_updStn_with, kept_endTxn,
    withStation_withStation]

theorem plant_heard : (s.heard b n f).plant = s.plant := (congrArg Kept.plant (kept_heard s b n f) :)

theorem branchOf_heard (m : Fin 48) : (s.heard b n f).branchOf m = s.branchOf m :=
  branchOf_of_settings (fun d => (br_heard s b n f d).2.1) m

theorem effectiveDt_heard : (s.heard b n f).effectiveDt n = ((s.stn n).reported f).effectiveDt s.plant.dtFloor := by
  rw [State.effectiveDt, stn_heard, if_pos rfl, plant_heard]

/-- The event of a report, up to the allocator (R9, R17). -/
def Event.reporting (s : State) (b : Fin 6) (n : Fin 48) (f : ReportFields) (c : Bool) : Event :=
  if (s.stn n).state = .active then (Event.mk (s.heard b n f) c).reportActive b n f.standalone
  else (Event.mk (s.heard b n f) c).reportAttaching n

/-- An accepted report is the record taken, the event by the station's state, the allocator and what follows it (R17). -/
theorem report_eq :
    ∃ c, (((s.endTxn b).updStn n fun c => { c with missCount := 0 }).report s b n f) =
      ((allocate (Event.reporting s b n f c)).afterReport b n
        (decide ((s.stn n).state ≠ .active) && decide (((Event.reporting s b n f c).st.stn n).state = .active))
        (decide (0 < f.requestKw) || (f.standalone && decide ((s.stn n).state = .active)))).settle s
        ((Event.reporting s b n f c).pass || (Event.reporting s b n f c).st.shedCalled) false := by
  have hold : ((s.endTxn b).updStn n fun c => { c with missCount := 0 }).stn n = { s.stn n with missCount := 0 } := by
    rw [stn_updStn_same]
    rfl
  have he (v : State) (r : Station) :
      ∃ c, ((v.event.putStn n r).map fun s => s.noteDemand b f.requestKw) = ⟨(v.setStn n r).noteDemand b f.requestKw, c⟩ :=
    ⟨_, rfl⟩
  obtain ⟨c, hc⟩ := he ((s.endTxn b).updStn n fun c => { c with missCount := 0 }) ((s.stn n).reported f)
  refine ⟨c, ?_⟩
  unfold State.report
  simp only [hold, takeReport_eq, hc]
  rw [← State.heard, ← Event.reporting]

end

/-! ### An ACTIVE station's report (R21, R67, R77, R89) -/

/-- A release writes a station's grant down to `k` kW, if it is above it. -/
theorem stn_release (s : State) (n : Fin 48) (k : Nat) (m : Fin 48) :
    ∃ q, (s.release n k).stn m =
      if m = n then { s.stn n with grantKw := min (s.stn n).grantKw k, nextSeq := q } else s.stn m := by
  unfold State.release
  split
  · next h =>
    obtain ⟨q, hq⟩ := stn_handGrant (s.updStn n fun r => { r with grantKw := k }) n m
    refine ⟨q, hq.trans ?_⟩
    split
    · rw [stn_updStn_same, Nat.min_eq_right h.le]
    · next hm => rw [stn_updStn, if_neg hm]
  · next h =>
    refine ⟨(s.stn n).nextSeq, ?_⟩
    split
    · next e => rw [e, Nat.min_eq_left (by omega)]
    · rfl

/-- A release leaves a station's present figures waiting (R89, R131). -/
theorem carriesNow_release {s : State} {b : Fin 6} {n : Fin 48} {q : Nat} (hb : s.branchOf n = some b) (h : s.carriesNow b n q)
    (k : Nat) : (s.release n k).carriesNow b n q := by
  unfold State.release
  split
  · exact carriesNow_handGrant (s := s.updStn n fun r => { r with grantKw := k }) hb (.inl ⟨_, _, _, h⟩)
  · exact h

/-- A recompute leaves a station's present figures waiting, its grant ΔT only above 0 kW (R68). -/
theorem queued_recompute {s : State} {b : Fin 6} {n : Fin 48} {q : Nat} (hb : s.branchOf n = some b) (h : s.carriesNow b n q)
    (c : Bool) : ((Event.mk s c).recompute n).st.queued b n q := by
  unfold Event.recompute
  rw [callPass_st]
  dsimp only
  have hn : (s.updStn n fun r => { r with grantDt := s.effectiveDt n }).stn n =
      { s.stn n with grantDt := s.effectiveDt n } := stn_updStn_same s n _
  split
  · exact (carriesNow_handGrant (s := s.updStn n fun r => { r with grantDt := s.effectiveDt n }) hb
      (.inl ⟨_, _, _, h⟩)).queued
  · next hz =>
    rw [hn] at hz
    have hzero : (s.stn n).grantKw = 0 := Nat.eq_zero_of_not_pos hz
    refine ⟨(s.stn n).grantDt, ?_, fun hp => absurd hp (by rw [hn]; exact hz)⟩
    unfold State.carriesNow at h
    rw [hn]
    rw [Station.grantCap, hzero, flowCap_zero] at h
    rw [Station.grantCap, hzero, flowCap_zero]
    exact h

theorem grantKw_recompute (e : Event) (n m : Fin 48) : ((e.recompute n).st.stn m).grantKw = (e.st.stn m).grantKw := by
  have hu : ((e.st.updStn n fun r => { r with grantDt := e.st.effectiveDt n }).stn m).grantKw = (e.st.stn m).grantKw := by
    rw [stn_updStn]
    split
    · next h => rw [h]
    · rfl
  unfold Event.recompute
  rw [callPass_st]
  dsimp only
  split
  · rw [grantKw_handGrant, hu]
  · exact hu

theorem br_recompute (e : Event) (n : Fin 48) (d : Fin 6) :
    ((e.recompute n).st.br d).ungranted = (e.st.br d).ungranted := by
  unfold Event.recompute
  rw [callPass_st]
  dsimp only
  split
  · exact br_ungranted_of_eq (ungranted_handGrant _ n) d
  · rfl

theorem stable_of_kept {s t : State} (h : t.kept = s.kept) (n : Fin 48) : (t.stn n).stable = (s.stn n).stable :=
  (congrFun (congrArg Kept.stations h) n :)

theorem request_of_kept_with {s : State} {k : Kept} {n : Fin 48} {r : Station} (h : s.kept = k.withStation n r) :
    (s.stn n).requestKw = r.requestKw := by
  have hs : (s.stn n).stable = r.stable := (congrFun (congrArg Kept.stations h) n :).trans (if_pos rfl)
  exact (congrArg Station.requestKw hs :)

section
variable (w : State) (c : Bool) (b : Fin 6) (n : Fin 48) (flag : Bool)

/-- The state of an ACTIVE station's report before the recompute: the entry for the flag, and the release to the request. -/
def State.relieved : State :=
  State.release (if flag then w.queueUnlessWaiting b n else w) n
    ((if flag then w.queueUnlessWaiting b n else w).stn n).requestKw

theorem ungranted_flagged : (if flag then w.queueUnlessWaiting b n else w).ungranted = w.ungranted := by
  unfold State.queueUnlessWaiting
  split
  · split
    · rfl
    · exact ungranted_handGrant w n
  · rfl

theorem ungranted_relieved : (w.relieved b n flag).ungranted = w.ungranted := by
  rw [State.relieved, ungranted_release, ungranted_flagged]

theorem grantKw_flagged : ((if flag then w.queueUnlessWaiting b n else w).stn n).grantKw = (w.stn n).grantKw := by
  unfold State.queueUnlessWaiting
  split
  · split
    · rfl
    · exact grantKw_handGrant w n n
  · rfl

theorem grantKw_relieved : ((w.relieved b n flag).stn n).grantKw = min (w.stn n).grantKw (w.stn n).requestKw := by
  obtain ⟨q, hq⟩ := stn_release (if flag then w.queueUnlessWaiting b n else w) n
    ((if flag then w.queueUnlessWaiting b n else w).stn n).requestKw n
  rw [State.relieved, hq, if_pos rfl, grantKw_flagged, request_of_ungranted (ungranted_flagged w b n flag)]

theorem kept_relieved : (w.relieved b n flag).kept = w.kept := by
  unfold State.relieved State.queueUnlessWaiting
  rw [kept_release]
  split
  · split
    · rfl
    · exact kept_handGrant w n
  · rfl

/-- After the STANDALONE flag an entry of a station waits with its figures, when none waited (R21). -/
theorem carriesNow_relieved (hb : w.branchOf n = some b) (hw : holdsWaiting (w.br b).queue n = false) :
    (w.relieved b n true).carriesNow b n (w.stn n).nextSeq := by
  have hq : w.queueUnlessWaiting b n = w.handGrant n := by
    unfold State.queueUnlessWaiting
    rw [if_neg (by simp [hw])]
  unfold State.relieved
  rw [if_pos rfl, hq]
  exact carriesNow_release ((branchOf_handGrant w n n).trans hb) (carriesNow_handGrant hb (.inr ⟨hw, rfl⟩)) _

theorem reportActive_st :
    ((Event.mk w c).reportActive b n flag).st = ((Event.mk (w.relieved b n flag) c).recomputeDeadband n).st := rfl

theorem recomputeDeadband_cases (e : Event) :
    (5 ≤ apart (e.st.effectiveDt n) (e.st.stn n).grantDt ∧ e.recomputeDeadband n = e.recompute n) ∨
      (¬ 5 ≤ apart (e.st.effectiveDt n) (e.st.stn n).grantDt ∧ e.recomputeDeadband n = e) := by
  unfold Event.recomputeDeadband
  split
  · next h => exact .inl ⟨h, rfl⟩
  · next h => exact .inr ⟨h, rfl⟩

theorem effectiveDt_relieved : (w.relieved b n flag).effectiveDt n = w.effectiveDt n := by
  have hu := ungranted_relieved w b n flag
  have hs := stn_ungranted_of_eq hu n
  have hd (r : Station) (k : Nat) : r.ungranted.effectiveDt k = r.effectiveDt k := rfl
  rw [State.effectiveDt, State.effectiveDt, plant_of_ungranted hu, ← hd, hs, hd]

theorem kept_reportActive :
    ((Event.mk w c).reportActive b n flag).st.kept = w.kept.withStation n
      { w.stn n with
        grantDt := if (w.stn n).grantDt + 5 ≤ w.effectiveDt n ∨ w.effectiveDt n + 5 ≤ (w.stn n).grantDt then w.effectiveDt n
          else (w.stn n).grantDt } := by
  have hu := ungranted_relieved w b n flag
  have hd := grantDt_of_ungranted hu n
  have he := effectiveDt_relieved w b n flag
  have hst : ((w.relieved b n flag).stn n).stable = (w.stn n).stable := 
    stable_of_kept (kept_relieved w b n flag) n
  have hk := kept_relieved w b n flag
  rw [reportActive_st]
  generalize w.relieved b n flag = v at hd he hst hk
  rcases recomputeDeadband_cases n ⟨v, c⟩ with ⟨h, e⟩ | ⟨h, e⟩
  · dsimp only at h
    rw [he, hd, apart] at h
    rw [e, kept_recompute, if_pos (by omega)]
    dsimp only
    rw [he, hk, Kept.withStation, Kept.withStation]
    have : ({ v.stn n with grantDt := w.effectiveDt n } : Station).stable = { w.stn n with grantDt := w.effectiveDt n }.stable :=
      (congrArg (fun r : Station => { r with grantDt := w.effectiveDt n }) hst :)
    rw [this]
  · dsimp only at h
    rw [he, hd, apart] at h
    rw [e, if_neg (by omega)]
    exact hk.trans (withStation_self rfl).symm

theorem grantKw_reportActive :
    (((Event.mk w c).reportActive b n flag).st.stn n).grantKw = min (w.stn n).grantKw (w.stn n).requestKw := by
  rw [reportActive_st]
  rcases recomputeDeadband_cases n ⟨w.relieved b n flag, c⟩ with ⟨-, e⟩ | ⟨-, e⟩ <;> rw [e]
  · rw [grantKw_recompute]
    exact grantKw_relieved w b n flag
  · exact grantKw_relieved w b n flag

theorem br_reportActive (d : Fin 6) :
    (((Event.mk w c).reportActive b n flag).st.br d).ungranted = (w.br d).ungranted := by
  have h := br_ungranted_of_eq (ungranted_relieved w b n flag) d
  rw [reportActive_st]
  rcases recomputeDeadband_cases n ⟨w.relieved b n flag, c⟩ with ⟨-, e⟩ | ⟨-, e⟩ <;> rw [e]
  · rw [br_recompute]
    exact h
  · exact h

theorem queued_reportActive (hf : flag = true) (hb : w.branchOf n = some b) (hw : holdsWaiting (w.br b).queue n = false) :
    ((Event.mk w c).reportActive b n flag).st.queued b n (w.stn n).nextSeq := by
  subst hf
  have h := carriesNow_relieved w b n hb hw
  have hb' : (w.relieved b n true).branchOf n = some b :=
    (branchOf_of_settings (settings_of_ungranted (ungranted_relieved w b n true)) n).trans hb
  rw [reportActive_st]
  rcases recomputeDeadband_cases n ⟨w.relieved b n true, c⟩ with ⟨-, e⟩ | ⟨-, e⟩ <;> rw [e]
  · exact queued_recompute hb' h c
  · exact h.queued

theorem request_reportActive :
    (((Event.mk w c).reportActive b n flag).st.stn n).requestKw = (w.stn n).requestKw :=
  (request_of_kept_with (kept_reportActive w c b n flag)).trans rfl

/-- A want left above 0 kW calls for a pass (R77). -/
theorem pass_reportActive (h : (w.stn n).grantKw < (w.stn n).requestKw) :
    ((Event.mk w c).reportActive b n flag).pass = true := by
  have hg := grantKw_reportActive w c b n flag
  have hr := request_reportActive w c b n flag
  have hp : ((Event.mk w c).reportActive b n flag).pass =
      (((Event.mk (w.relieved b n flag) c).recomputeDeadband n).pass ||
        decide (0 < (((Event.mk w c).reportActive b n flag).st.stn n).want)) := rfl
  rw [hp, Station.want, hg, hr]
  simp only [Bool.or_eq_true, decide_eq_true_eq]
  exact .inr (by omega)

end

/-! ### What of a branch's record does not depend on its queue -/

theorem settings_of_queueless {c c' : Branch} (h : c.ungranted = c'.ungranted) : c.settings = c'.settings :=
  (congrArg Branch.settings h :)

theorem rest_of_queueless {c c' : Branch} (h : c.ungranted = c'.ungranted) : c.rest = c'.rest := (congrArg Branch.rest h :)

theorem plant_of_kept_with {s : State} {k : Kept} {n : Fin 48} {r : Station} (h : s.kept = k.withStation n r) :
    s.plant = k.plant := (congrArg Kept.plant h :)

/-! ### A station that enters ACTIVE (R10, R172) -/

/-- No entry of a kind other than INDEX_LOST and FIRM_CUT becomes active at the end of an event. -/
theorem settled_quiet {k : FaultKind} (h1 : k ≠ .firmCut) (h2 : k ≠ .indexLost) (x : Nat) :
    FaultList.Settled fun l => l.quiet k x where
  raised s k' _ hk h := quiet_raise (by rcases hk with rfl | rfl <;> [exact Ne.symm h1; exact Ne.symm h2]) h
  ended s h := by
    intro e he hek hex
    obtain ⟨d, hd, hde⟩ := List.mem_filterMap.mp he
    split at hde
    · split at hde
      · cases hde
      · rw [← Option.some.inj hde]
    · obtain rfl := Option.some.inj hde
      exact h d hd hek hex
  relay _ _ h := h

/-- A condition that has ended is active in no entry (R172). -/
theorem quiet_endCondition (s : State) (k : FaultKind) (x : Nat) : (s.endCondition k x).faults.quiet k x := by
  intro e he hek hex
  obtain ⟨d, hd, hde⟩ := List.mem_filterMap.mp he
  split at hde
  · split at hde
    · cases hde
    · rw [← Option.some.inj hde]
  · next hn =>
    obtain rfl := Option.some.inj hde
    have hnames : d.names k x = true := (names_iff d k x).mpr ⟨hek, hex⟩
    simpa [hnames] using hn

section
variable (w : State) (c : Bool) (n : Fin 48)

/-- What the entry of a station into ACTIVE writes. -/
theorem enterActive_same :
    (∀ d, ((Event.mk w c).enterActive n).st.br d = w.br d) ∧
      ((Event.mk w c).enterActive n).st.stn n =
        { w.stn n with state := .active, debounce := 0, grantDt := w.effectiveDt n } ∧
      ((Event.mk w c).enterActive n).pass = true ∧
      ((Event.mk w c).enterActive n).st.faults.quiet .stationLost n.val :=
  ⟨fun _ => rfl, stn_updStn_same w n (fun r => { r with state := .active, debounce := 0, grantDt := r.effectiveDt w.plant.dtFloor }),
    Bool.or_true c, quiet_endCondition _ _ _⟩

theorem kept_enterActive :
    ((Event.mk w c).enterActive n).st.kept =
      w.kept.withStation n { w.stn n with state := .active, debounce := 0, grantDt := w.effectiveDt n } := by
  simp only [Event.enterActive, callPass_st, map_st, kept_endCondition, kept_updStn_with]
  rfl

end

/-! ### What follows the allocator (R10, R148, R153) -/

section
variable (s : State) (b : Fin 6) (n : Fin 48)

theorem sameAllotment_queueUnlessHeld : s.SameAllotment (s.queueUnlessHeld b n) := by
  unfold State.queueUnlessHeld
  split
  · exact (State.Roused.refl s).same
  · exact sameAllotment_handGrant s n

theorem ungranted_queueUnlessHeld : (s.queueUnlessHeld b n).ungranted = s.ungranted := by
  unfold State.queueUnlessHeld
  split
  · rfl
  · exact ungranted_handGrant s n

theorem kept_queueUnlessHeld : (s.queueUnlessHeld b n).kept = s.kept := by
  unfold State.queueUnlessHeld
  split
  · rfl
  · exact kept_handGrant s n

theorem kept_afterReport (newcomer wakes : Bool) : (s.afterReport b n newcomer wakes).kept = s.kept := by
  cases newcomer <;> cases wakes <;>
    simp only [State.afterReport, Bool.false_eq_true, if_false, if_true, kept_wakeReason, kept_joinRest, kept_queueUnlessHeld]

/-- What follows a report is a rousing, after a newcomer's entry. -/
theorem roused_afterReport (newcomer wakes : Bool) :
    (if newcomer then s.queueUnlessHeld b n else s).Roused (s.afterReport b n newcomer wakes) := by
  have hw (v : State) : v.Roused (if wakes then v.wakeReason b else v) := by
    split
    · exact roused_wakeReason v b
    · exact .refl v
  unfold State.afterReport
  cases newcomer
  · exact hw s
  · exact (roused_joinRest (s.queueUnlessHeld b n) b n).1.trans (hw _)

theorem sameAllotment_afterReport (newcomer wakes : Bool) : s.SameAllotment (s.afterReport b n newcomer wakes) := by
  refine State.SameAllotment.trans ?_ (roused_afterReport s b n newcomer wakes).same
  split
  · exact sameAllotment_queueUnlessHeld s b n
  · exact (State.Roused.refl s).same

theorem faults_afterReport (newcomer wakes : Bool) : (s.afterReport b n newcomer wakes).faults = s.faults := by
  refine (roused_afterReport s b n newcomer wakes).faults.trans ?_
  split
  · exact faults_of_ungranted (ungranted_queueUnlessHeld s b n)
  · rfl

/-- A wake reason at the end of a report leaves a branch WAKING that was at rest (R148). -/
theorem waking_afterReport (h : (s.br b).rest = .offering ∨ (s.br b).rest = .resting) (newcomer : Bool) :
    ((s.afterReport b n newcomer true).br b).rest = .waking := by
  unfold State.afterReport
  cases newcomer
  · exact waking_wakeReason (h.imp_right .inl)
  · refine waking_wakeReason ?_
    have hq := rest_of_ungranted (ungranted_queueUnlessHeld s b n) b
    rcases (roused_joinRest (s.queueUnlessHeld b n) b n).2 with e | e
    · rw [if_pos rfl, e, hq]
      exact h.imp_right .inl
    · exact .inr (.inr e)

end

/-- A newcomer with no entry, or one with its figures, ends with one that carries them (R10). -/
theorem carriesNow_afterReport {s : State} {b : Fin 6} {n : Fin 48} {q : Nat} (hb : s.branchOf n = some b)
    (h : s.carriesNow b n q ∨ (s.clearOf b n ∧ (s.stn n).nextSeq = q)) (wakes : Bool) :
    (s.afterReport b n true wakes).carriesNow b n q := by
  refine (roused_afterReport s b n true wakes).carriesNow ?_
  rw [if_pos rfl]
  unfold State.queueUnlessHeld
  rcases h with h | ⟨h, hq⟩
  · have hh : holdsEntry (s.br b).queue n = true := List.any_eq_true.mpr ⟨_, h, decide_eq_true rfl⟩
    rw [if_pos hh]
    exact h
  · have hno : ¬ holdsEntry (s.br b).queue n = true := fun hh => by
      obtain ⟨e, he, hn⟩ := List.any_eq_true.mp hh
      exact h e he (by simpa using hn)
    rw [if_neg hno]
    refine carriesNow_handGrant hb (.inr ⟨?_, hq⟩)
    rw [Bool.eq_false_iff, ne_eq, holdsWaiting_iff]
    rintro ⟨e, he, hn, -⟩
    exact h e he hn

/-! ### The report as a whole -/

/-- The state after an accepted report: what follows the allocator, and the end of the event. -/
def State.heardOut (s : State) (b : Fin 6) (n : Fin 48) (e : Event) (newcomer wakes : Bool) : State :=
  ((allocate e).afterReport b n newcomer wakes).settle s (e.pass || e.st.shedCalled) false

section
variable {s : State} {b : Fin 6} {n : Fin 48} {e : Event} {newcomer wakes : Bool}

theorem kept_heardOut : (s.heardOut b n e newcomer wakes).kept = e.st.kept := by
  rw [State.heardOut, kept_settle, kept_afterReport, kept_allocate]

theorem waking_heardOut (h : (e.st.br b).rest = .offering ∨ (e.st.br b).rest = .resting) :
    ((s.heardOut b n e newcomer true).br b).rest = .waking := by
  have ha : ((allocate e).br b).rest = (e.st.br b).rest := (congrArg Branch.rest (br_allocate e b) :)
  exact rest_settle (waking_afterReport _ b n (by rw [ha]; exact h) newcomer) s _ _

theorem passEnded_heardOut (hp : e.pass = true) (hq : 0 < e.st.plant.quantum) :
    (s.heardOut b n e newcomer wakes).passEnded :=
  passEnded_settle ((sameAllotment_afterReport _ b n newcomer wakes).passEnded (passEnded_allocate hp hq)) s _ _

theorem within_heardOut (h : (e.st.stn n).grantKw ≤ (e.st.stn n).requestKw) :
    ((s.heardOut b n e newcomer wakes).stn n).grantKw ≤ ((s.heardOut b n e newcomer wakes).stn n).requestKw := by
  have hs := ((sameAllotment_afterReport (allocate e) b n newcomer wakes).trans (sameAllotment_settle _ s
    (e.pass || e.st.shedCalled) false)).stations n
  have ha := within_allocate h
  unfold State.heardOut
  generalize State.stn (State.settle _ s _ false) n = x at hs ⊢
  generalize (allocate e).stn n = y at hs ha
  have h1 : x.grantKw = y.grantKw := (congrArg Station.grantKw hs :)
  have h2 : x.requestKw = y.requestKw := (congrArg Station.requestKw hs :)
  omega

theorem queued_heardOut {q : Nat} (hb : e.st.branchOf n = some b) (h : e.st.queued b n q) :
    ∃ d ∈ ((s.heardOut b n e false wakes).br b).queue, d.station = n ∧ d.seq = q ∧
      d.targetGrant = ((s.heardOut b n e false wakes).stn n).grantKw ∧
      d.targetFlow = ((s.heardOut b n e false wakes).stn n).grantCap ∧
      (0 < ((s.heardOut b n e false wakes).stn n).grantKw → d.dtUsed = ((s.heardOut b n e false wakes).stn n).grantDt) := by
  have hr : (allocate e).Roused ((allocate e).afterReport b n false wakes) := roused_afterReport (allocate e) b n false wakes
  exact queued_settle (hr.queued (queued_allocate hb h)) s _ _

theorem carriesNow_heardOut (hb : e.st.branchOf n = some b) (h : e.st.clearOf b n) :
    ∃ d ∈ ((s.heardOut b n e true wakes).br b).queue, d.station = n ∧ d.seq = (e.st.stn n).nextSeq ∧
      d.targetGrant = ((s.heardOut b n e true wakes).stn n).grantKw ∧
      d.targetFlow = ((s.heardOut b n e true wakes).stn n).grantCap ∧
      d.dtUsed = ((s.heardOut b n e true wakes).stn n).grantDt := by
  have hb' : (allocate e).branchOf n = some b :=
    (branchOf_of_settings (fun d => (congrArg Branch.settings (br_allocate e d) :)) n).trans hb
  exact carriesNow_settle (carriesNow_afterReport hb' (carriesNow_or_clear_allocate hb h) wakes) s _ _

theorem quiet_heardOut (h : e.st.faults.quiet .stationLost n.val) :
    (s.heardOut b n e newcomer wakes).faults.quiet .stationLost n.val := by
  have hS := settled_quiet (k := .stationLost) (by decide) (by decide) n.val
  refine hS.settle ?_ s _ _
  rw [faults_afterReport]
  exact hS.allocate h

end

/-- An accepted report of an ACTIVE or ATTACHING station (R17). -/
theorem exec_report {s : State} {b : Fin 6} {n : Fin 48} (f : ReportFields) (hp : s.powered = true)
    (hx : (s.br b).txn = some ⟨n, .poll, false⟩) (ha : (s.stn n).state = .active ∨ (s.stn n).state = .attaching) :
    ∃ c, exec (.report b n.val f) s = .next (s.heardOut b n (Event.reporting s b n f c)
      (decide ((s.stn n).state ≠ .active) && decide (((Event.reporting s b n f c).st.stn n).state = .active))
      (decide (0 < f.requestKw) || (f.standalone && decide ((s.stn n).state = .active)))) := by
  have hacc : (s.stn n).state.accepts (.report f) = true := by
    rcases ha with h | h <;> simp [StationState.accepts, h]
  obtain ⟨c, hc⟩ := report_eq s b n f
  refine ⟨c, (exec_on (c := .report b n.val f) (·.fieldFrame b n.val (some (.report f))) rfl hp).trans ?_⟩
  rw [fieldFrame_replied hx rfl hacc]
  exact congrArg Host.Outcome.next hc

section
variable {s : State} {b : Fin 6} {n : Fin 48} (f : ReportFields) (hp : s.powered = true)
    (hx : (s.br b).txn = some ⟨n, .poll, false⟩)
include hp hx

theorem report_of_active (h : (s.stn n).state = .active) :
    ∃ c, exec (.report b n.val f) s =
      .next (s.heardOut b n ((Event.mk (s.heard b n f) c).reportActive b n f.standalone) false
        (decide (0 < f.requestKw) || f.standalone)) := by
  obtain ⟨c, hc⟩ := exec_report f hp hx (.inl h)
  have hE : Event.reporting s b n f c = (Event.mk (s.heard b n f) c).reportActive b n f.standalone := if_pos h
  refine ⟨c, hc.trans ?_⟩
  rw [hE]
  simp only [h, ne_eq, not_true_eq_false, decide_false, Bool.false_and, decide_true, Bool.and_true]

theorem report_of_attaching (h : (s.stn n).state = .attaching) :
    ∃ c, exec (.report b n.val f) s =
      .next (s.heardOut b n ((Event.mk (s.heard b n f) c).reportAttaching n)
        (decide ((((Event.mk (s.heard b n f) c).reportAttaching n).st.stn n).state = .active)) (decide (0 < f.requestKw))) := by
  obtain ⟨c, hc⟩ := exec_report f hp hx (.inr h)
  have hna : (s.stn n).state ≠ .active := by rw [h]; decide
  have hE : Event.reporting s b n f c = (Event.mk (s.heard b n f) c).reportAttaching n := if_neg hna
  refine ⟨c, hc.trans ?_⟩
  rw [hE]
  simp only [hna, ne_eq, not_false_eq_true, decide_true, Bool.true_and, decide_false, Bool.and_false, Bool.or_false]

/-- The report of an ACTIVE station (R18 to R21, R67, R77, R89, R148). -/
theorem report_active_ends (h : (s.stn n).state = .active) :
    let r := s.stn n
    let new := r.reported f
    let dt := new.effectiveDt s.plant.dtFloor
    ∃ t, exec (.report b n.val f) s = .next t ∧
      t.kept = s.kept.withStation n
        { new with grantDt := if r.grantDt + 5 ≤ dt ∨ dt + 5 ≤ r.grantDt then dt else r.grantDt } ∧
      (t.stn n).grantKw ≤ (t.stn n).requestKw ∧
      (0 < f.requestKw ∨ f.standalone = true → (s.br b).rest = .offering ∨ (s.br b).rest = .resting → (t.br b).rest = .waking) ∧
      (r.grantKw < new.requestKw → 10 ≤ s.plant.quantum → t.passEnded) ∧
      (f.standalone = true → s.branchOf n = some b → (∀ e ∈ (s.br b).queue, e.station = n → e.flight ≠ none) →
        ∃ e ∈ (t.br b).queue, e.station = n ∧ e.seq = r.nextSeq ∧ e.targetGrant = (t.stn n).grantKw ∧
          e.targetFlow = (t.stn n).grantCap ∧ (0 < (t.stn n).grantKw → e.dtUsed = (t.stn n).grantDt)) := by
  intro r new dt
  obtain ⟨c, hexec⟩ := report_of_active f hp hx h
  have hplant := plant_heard s b n f
  have hdt : (s.heard b n f).effectiveDt n = dt := effectiveDt_heard s b n f
  have hstn : (s.heard b n f).stn n = new := by rw [stn_heard, if_pos rfl]
  obtain ⟨hq, -, hr⟩ := br_heard s b n f b
  have hkept := kept_heard s b n f
  have hof := branchOf_heard s b n f n
  generalize s.heard b n f = w at hexec hplant hdt hstn hq hr hkept hof
  have hbr := br_reportActive w c b n f.standalone
  have hke := kept_reportActive w c b n f.standalone
  have hgr := grantKw_reportActive w c b n f.standalone
  have hreq := request_reportActive w c b n f.standalone
  have hpass := pass_reportActive w c b n f.standalone
  have hqd := queued_reportActive w c b n f.standalone
  generalize (Event.mk w c).reportActive b n f.standalone = e at hexec hbr hke hgr hreq hpass hqd
  rw [hstn] at hgr hreq hpass hqd
  have hpl : e.st.plant = s.plant := (plant_of_kept_with hke).trans hplant
  refine ⟨s.heardOut b n e false (decide (0 < f.requestKw) || f.standalone), hexec, ?_, ?_, fun hw hrest => ?_,
    fun hlt hquant => ?_, fun hf hb hfl => ?_⟩
  · rw [kept_heardOut, hke, hkept, withStation_withStation, hstn, hdt]
    rfl
  · refine within_heardOut ?_
    rw [hgr, hreq]
    exact Nat.min_le_right _ _
  · have hwakes : (decide (0 < f.requestKw) || f.standalone) = true := by simpa using hw
    rw [hwakes]
    exact waking_heardOut (by rw [rest_of_queueless (hbr b), hr]; exact hrest)
  · exact passEnded_heardOut (hpass hlt) (by rw [hpl]; omega)
  · have hwait : holdsWaiting (w.br b).queue n = false := by
      rw [Bool.eq_false_iff, ne_eq, holdsWaiting_iff, hq]
      rintro ⟨e, he, hn, hnone⟩
      exact hfl e he hn hnone
    exact queued_heardOut ((branchOf_of_settings (fun d => settings_of_queueless (hbr d)) n).trans (hof.trans hb))
      (hqd hf (hof.trans hb) hwait)

/-- The first report of an ATTACHING station (R9, R148). -/
theorem report_first_ends (h : (s.stn n).state = .attaching) (hd : (s.stn n).debounce = 0) :
    ∃ t, exec (.report b n.val f) s = .next t ∧
      t.kept = s.kept.withStation n { (s.stn n).reported f with debounce := 1 } ∧
      (0 < f.requestKw → (s.br b).rest = .offering ∨ (s.br b).rest = .resting → (t.br b).rest = .waking) := by
  obtain ⟨c, hexec⟩ := report_of_attaching f hp hx h
  have hstn : (s.heard b n f).stn n = (s.stn n).reported f := by rw [stn_heard, if_pos rfl]
  obtain ⟨-, -, hr⟩ := br_heard s b n f b
  have hkept := kept_heard s b n f
  generalize s.heard b n f = w at hexec hstn hr hkept
  have hE : (Event.mk w c).reportAttaching n = (Event.mk w c).map fun s => s.updStn n fun r => { r with debounce := r.debounce + 1 } := by
    have hdw : (w.stn n).debounce = 0 := by rw [hstn]; exact hd
    unfold Event.reportAttaching
    exact if_neg (by dsimp only; omega)
  have hke : ((Event.mk w c).reportAttaching n).st.kept = s.kept.withStation n { (s.stn n).reported f with debounce := 1 } := by
    rw [hE, map_st, kept_updStn_with, hkept, withStation_withStation, hstn]
    show s.kept.withStation n { (s.stn n).reported f with debounce := (s.stn n).debounce + 1 } = _
    rw [hd]
  have hre : (((Event.mk w c).reportAttaching n).st.br b).rest = (s.br b).rest := by rw [hE, map_st, br_updStn, hr]
  generalize (Event.mk w c).reportAttaching n = e at hexec hke hre
  refine ⟨_, hexec, kept_heardOut.trans hke, fun hw hrest => ?_⟩
  rw [decide_eq_true hw]
  exact waking_heardOut (by rw [hre]; exact hrest)

/-- The report at which an ATTACHING station enters ACTIVE (R9, R10, R70, R77, R148, R172). -/
theorem report_second_ends (h : (s.stn n).state = .attaching) (hd : 1 ≤ (s.stn n).debounce) :
    let r := s.stn n
    let new := r.reported f
    ∃ t, exec (.report b n.val f) s = .next t ∧
      t.kept = s.kept.withStation n
        { new with state := .active, debounce := 0, grantDt := new.effectiveDt s.plant.dtFloor } ∧
      t.faults.quiet .stationLost n.val ∧
      (0 < f.requestKw → (s.br b).rest = .offering ∨ (s.br b).rest = .resting → (t.br b).rest = .waking) ∧
      (10 ≤ s.plant.quantum → t.passEnded) ∧
      (s.branchOf n = some b → (∀ e ∈ (s.br b).queue, e.station ≠ n) →
        ∃ e ∈ (t.br b).queue, e.station = n ∧ e.seq = r.nextSeq ∧ e.targetGrant = (t.stn n).grantKw ∧
          e.targetFlow = (t.stn n).grantCap ∧ e.dtUsed = (t.stn n).grantDt) := by
  intro r new
  obtain ⟨c, hexec⟩ := report_of_attaching f hp hx h
  have hplant := plant_heard s b n f
  have hdt := effectiveDt_heard s b n f
  have hstn : (s.heard b n f).stn n = new := by rw [stn_heard, if_pos rfl]
  obtain ⟨hq, -, hr⟩ := br_heard s b n f b
  have hkept := kept_heard s b n f
  have hof := branchOf_heard s b n f n
  generalize s.heard b n f = w at hexec hplant hdt hstn hq hr hkept hof
  have hE : (Event.mk w c).reportAttaching n = (Event.mk w c).enterActive n := by
    have hdw : 1 ≤ (w.stn n).debounce := by rw [hstn]; exact hd
    unfold Event.reportAttaching
    exact if_pos (by dsimp only; omega)
  obtain ⟨hbr, hst, hpass, hquiet⟩ := enterActive_same w c n
  have hke := kept_enterActive w c n
  have hactive : decide ((((Event.mk w c).enterActive n).st.stn n).state = .active) = true := by
    rw [hst]
    exact decide_eq_true rfl
  rw [hE, hactive] at hexec
  generalize (Event.mk w c).enterActive n = e at hexec hbr hst hpass hquiet hke
  have hpl : e.st.plant = s.plant := (plant_of_kept_with hke).trans hplant
  refine ⟨_, hexec, ?_, quiet_heardOut hquiet, fun hw hrest => ?_, fun hquant => ?_, fun hb hfree => ?_⟩
  · rw [kept_heardOut, hke, hkept, withStation_withStation, hstn, hdt]
  · rw [decide_eq_true hw]
    exact waking_heardOut (by rw [hbr, hr]; exact hrest)
  · exact passEnded_heardOut hpass (by rw [hpl]; omega)
  · have hseq : (e.st.stn n).nextSeq = r.nextSeq := by rw [hst, hstn]; rfl
    rw [← hseq]
    refine carriesNow_heardOut ((branchOf_of_settings (fun d => by rw [hbr]) n).trans (hof.trans hb)) ?_
    unfold State.clearOf
    rw [hbr, hq]
    exact hfree

end

/-- Settles O56: the record taken, the event of an ACTIVE or ATTACHING station, the allocator, and what follows it. -/
theorem reportsFillTheRecord : Obligations.ReportsFillTheRecord := by
  intro s b n f hp hx
  exact ⟨fun h => report_active_ends f hp hx h, fun h hd => report_first_ends f hp hx h hd,
    fun h hd => report_second_ends f hp hx h hd⟩

end Sys2Proof.Machine
end

section
/-!
SUPPORT. The order of a shed (R101, R105 to R107, R109): what a stage cuts, that it stops at its stop condition or with nothing left to
cut, and so that a later stage cuts only where an earlier one has left nothing.
-/

namespace Sys2Proof.Machine

/-! ### A walk as a run of cuts -/

/-- One cut of a stage: the stop condition is not met, and a station in reach meets the stage's condition (R101, R103). -/
inductive WalkStep (c : ShedScope) (g : ShedStage) : ShedWork → ShedWork → Prop where
  | cut (w : ShedWork) (n : Fin 48) (hm : c.met w.st = false) (hr : c.reaches w.st n = true)
      (hg : 0 < g.cuttable (w.st.stn n)) : WalkStep c g w (w.cutAt c g n)

open Relation (ReflTransGen)

theorem mem_ascendFrom (p n : Fin 48) : n ∈ ascendFrom p := by
  rcases le_or_gt p n with h | h <;> simp [ascendFrom, allStations, h]

theorem mem_descendFrom (p n : Fin 48) : n ∈ descendFrom p := List.mem_reverse.mpr (mem_ascendFrom _ n)

theorem nextCut_none {c : ShedScope} {g : ShedStage} {s : State} {p : Fin 48} (h : nextCut c g s p = none) {n : Fin 48}
    (hr : c.reaches s n = true) : g.cuttable (s.stn n) = 0 := by
  have := List.find?_eq_none.mp h n (mem_descendFrom p n)
  simpa [hr] using this

theorem stn_cutAt (w : ShedWork) (c : ShedScope) (g : ShedStage) (n m : Fin 48) :
    (w.cutAt c g n).st.stn m =
      if m = n then { w.st.stn n with grantKw := (w.st.stn n).grantKw - c.cut g w.st n } else w.st.stn m := by
  unfold ShedWork.cutAt
  dsimp only
  split
  · rw [stn_raise, stn_updStn]
  · rw [stn_updStn]

theorem sumGrants_cutAt {w : ShedWork} {b : Fin 6} {g : ShedStage} {n : Fin 48} (hq : 0 < w.st.plant.quantum)
    (hg : 0 < g.cuttable (w.st.stn n)) : (w.cutAt (.branch b) g n).st.sumGrants < w.st.sumGrants := by
  have hsum := sumOver_change nodup_allStations (mem_allStations n) (f := fun m => (w.st.stn m).grantKw)
    (g := fun m => ((w.cutAt (.branch b) g n).st.stn m).grantKw) fun m hm => by rw [stn_cutAt, if_neg hm]
  rw [stn_cutAt, if_pos rfl] at hsum
  have hle := cuttable_le g (w.st.stn n)
  have hcut : (ShedScope.branch b).cut g w.st n = min w.st.plant.quantum (g.cuttable (w.st.stn n)) := rfl
  unfold State.sumGrants
  dsimp only at hsum
  omega

/-! ### What a stage cuts -/

/-- The class a stage cuts (R105 to R107). -/
def ShedStage.cls (g : ShedStage) : ContractClass :=
  match g with
  | .flex => .flex
  | .firmAboveFloor => .firm
  | .firm => .firm

theorem cls_of_cuttable {g : ShedStage} {r : Station} (h : 0 < g.cuttable r) : r.host.cls = g.cls := by
  unfold ShedStage.cuttable at h
  cases g <;> cases hc : r.host.cls <;> simp [hc, ShedStage.cls] at h ⊢

theorem cuttable_flex {r : Station} (h : r.host.cls = .flex) : ShedStage.flex.cuttable r = r.grantKw := by
  simp [ShedStage.cuttable, h]

theorem cuttable_aboveFloor {r : Station} (h : r.host.cls = .firm) :
    ShedStage.firmAboveFloor.cuttable r = r.grantKw - r.host.floorKw := by
  simp [ShedStage.cuttable, h]

theorem cuttable_firm {r : Station} (h : r.host.cls = .firm) : ShedStage.firm.cuttable r = r.grantKw := by
  simp [ShedStage.cuttable, h]

/-- FIRM_CUT of a station stands in its entry, or as an overflow of a full list (R107, R171). -/
def FaultList.reports (l : FaultList) (n : Fin 48) : Prop := l.shows .firmCut n.val ∨ l.overflowUnacked = true

theorem reports_raise_self (s : State) (n : Fin 48) : (s.raise .firmCut n.val).faults.reports n := shows_or_overflow_raise s _ _

theorem reports_raise {s : State} {n : Fin 48} (h : s.faults.reports n) (k : FaultKind) (x : Nat) :
    (s.raise k x).faults.reports n := h.imp shows_raise overflowUnacked_raise

/-- From `w` to `w'` a stage of a branch's shed has cut grants: of its class, inside the window, in stage 2 to no less than the floor;
and in stage 3 it has reported each station it cut. -/
structure StageCut (b : Fin 6) (g : ShedStage) (w w' : ShedWork) : Prop where
  br : ∀ d, w'.st.br d = w.st.br d
  plant : w'.st.plant = w.st.plant
  capacity : w'.st.capacity = w.st.capacity
  stn : ∀ n, ∃ k ≤ (w.st.stn n).grantKw, w'.st.stn n = { w.st.stn n with grantKw := k }
  reach : ∀ n, (w'.st.stn n).grantKw ≠ (w.st.stn n).grantKw → w.st.inWindow b n = true ∧ (w.st.stn n).host.cls = g.cls
  floor : g = .firmAboveFloor → ∀ n, (w'.st.stn n).grantKw ≠ (w.st.stn n).grantKw →
    (w.st.stn n).host.floorKw ≤ (w'.st.stn n).grantKw
  earlier : g ≠ .firm → w'.belowFloor = w.belowFloor
  listed : g = .firm → ∀ n, (w'.st.stn n).grantKw ≠ (w.st.stn n).grantKw → n ∈ w'.belowFloor
  reported : (∀ n ∈ w.belowFloor, w.st.faults.reports n) → ∀ n ∈ w'.belowFloor, w'.st.faults.reports n

theorem StageCut.refl (b : Fin 6) (g : ShedStage) (w : ShedWork) : StageCut b g w w where
  br _ := rfl
  plant := rfl
  capacity := rfl
  stn _ := ⟨_, le_rfl, rfl⟩
  reach _ h := absurd rfl h
  floor _ _ h := absurd rfl h
  earlier _ := rfl
  listed _ _ h := absurd rfl h
  reported h := h

theorem br_cutAt (w : ShedWork) (c : ShedScope) (g : ShedStage) (n : Fin 48) (d : Fin 6) :
    (w.cutAt c g n).st.br d = w.st.br d := by
  unfold ShedWork.cutAt
  dsimp only
  split
  · rw [br_raise, br_updStn]
  · rfl

theorem raise_same (s : State) (k : FaultKind) (x : Nat) :
    (s.raise k x).plant = s.plant ∧ (s.raise k x).capacity = s.capacity :=
  ⟨(congrArg Kept.plant (kept_raise s k x) :), (congrArg Kept.capacity (kept_raise s k x) :)⟩

theorem cutAt_same (w : ShedWork) (c : ShedScope) (g : ShedStage) (n : Fin 48) :
    (w.cutAt c g n).st.plant = w.st.plant ∧ (w.cutAt c g n).st.capacity = w.st.capacity := by
  unfold ShedWork.cutAt
  dsimp only
  split
  · exact raise_same (w.st.updStn n _) _ _
  · exact ⟨rfl, rfl⟩

/-- Only stage 3 reports, at the first cut of a station (R107). -/
theorem belowFloor_cutAt (w : ShedWork) (c : ShedScope) (g : ShedStage) (n : Fin 48) :
    (g ≠ .firm → (w.cutAt c g n).belowFloor = w.belowFloor ∧ (w.cutAt c g n).st.faults = w.st.faults) ∧
      (g = .firm → n ∈ (w.cutAt c g n).belowFloor ∧ (∀ m ∈ w.belowFloor, m ∈ (w.cutAt c g n).belowFloor) ∧
        ((∀ m ∈ w.belowFloor, w.st.faults.reports m) →
          ∀ m ∈ (w.cutAt c g n).belowFloor, (w.cutAt c g n).st.faults.reports m)) := by
  unfold ShedWork.cutAt
  refine ⟨fun hg => ?_, fun hg => ?_⟩
  · simp [hg, State.updStn, State.setStn]
  · by_cases hn : n ∈ w.belowFloor
    · have hc : w.belowFloor.contains n = true := by simpa using hn
      simp only [hg, hc, decide_true, Bool.not_true, Bool.and_false, Bool.false_eq_true, if_false]
      exact ⟨hn, fun _ h => h, fun h => h⟩
    · have hc : w.belowFloor.contains n = false := by simpa using hn
      simp only [hg, hc, decide_true, Bool.not_false, Bool.and_true, if_true]
      refine ⟨List.mem_cons_self, fun _ h => List.mem_cons_of_mem _ h, fun h m hm => ?_⟩
      rcases List.mem_cons.mp hm with rfl | hm
      · exact reports_raise_self _ _
      · exact reports_raise (s := w.st.updStn n _) (h m hm) _ _

/-- A cut more. -/
theorem StageCut.step {b : Fin 6} {g : ShedStage} {w v v' : ShedWork} (h : StageCut b g w v)
    (hs : WalkStep (.branch b) g v v') : StageCut b g w v' := by
  obtain ⟨n, -, hr, hg⟩ := hs
  have hcut : (ShedScope.branch b).cut g v.st n = min v.st.plant.quantum (g.cuttable (v.st.stn n)) := rfl
  obtain ⟨k, hk, hn⟩ := h.stn n
  have hwin : w.st.inWindow b n = true := by
    have : v.st.inWindow b n = true := hr
    rwa [State.inWindow, h.br] at this
  have hcls : (w.st.stn n).host.cls = g.cls := by
    have := cls_of_cuttable hg
    rw [hn] at this
    exact this
  obtain ⟨hnot, hfirm⟩ := belowFloor_cutAt v (.branch b) g n
  refine ⟨fun d => (br_cutAt v _ g n d).trans (h.br d), (cutAt_same v _ g n).1.trans h.plant,
    (cutAt_same v _ g n).2.trans h.capacity, fun m => ?_, fun m hm => ?_, fun hfl m hm => ?_,
    fun hne => (hnot hne).1.trans (h.earlier hne), fun he m hm => ?_, fun hrep => ?_⟩
  · rw [stn_cutAt]
    split
    · next e =>
      rw [e, hn]
      exact ⟨_, (Nat.sub_le _ _).trans hk, rfl⟩
    · exact h.stn m
  · rw [stn_cutAt] at hm
    split at hm
    · next e => rw [e]; exact ⟨hwin, hcls⟩
    · exact h.reach m hm
  · rw [stn_cutAt] at hm ⊢
    split
    · next e =>
      subst e
      subst hfl
      have hc := cuttable_aboveFloor (r := v.st.stn m) (by rw [hn]; exact hcls)
      have hfloor : (v.st.stn m).host.floorKw = (w.st.stn m).host.floorKw := by rw [hn]
      dsimp only
      omega
    · next e =>
      rw [if_neg e] at hm
      exact h.floor hfl m hm
  · obtain ⟨h1, h2, -⟩ := hfirm he
    rw [stn_cutAt] at hm
    split at hm
    · next e => rw [e]; exact h1
    · exact h2 m (h.listed he m hm)
  · by_cases he : g = .firm
    · exact (hfirm he).2.2 (h.reported hrep)
    · rw [(hnot he).1, (hnot he).2]
      exact h.reported hrep

/-! ### Where a stage stops (R101) -/

/-- Nothing in the window meets a stage's condition any more. -/
def State.spent (s : State) (b : Fin 6) (g : ShedStage) : Prop :=
  ∀ n, s.inWindow b n = true → g.cuttable (s.stn n) = 0

/-- A walk cuts until its stop condition is met or nothing is left to cut; its fuel is enough (R101). -/
theorem shedWalk_stops {b : Fin 6} {g : ShedStage} {w v : ShedWork} (h : StageCut b g w v) (hq : 0 < v.st.plant.quantum)
    {fuel : Nat} (hf : v.st.sumGrants < fuel) (p : Fin 48) :
    StageCut b g w (shedWalk fuel (.branch b) g p v) ∧
      ((ShedScope.branch b).met (shedWalk fuel (.branch b) g p v).st = true ∨
        (shedWalk fuel (.branch b) g p v).st.spent b g) := by
  induction fuel generalizing v p with
  | zero => omega
  | succ k ih =>
    unfold shedWalk
    split
    · next hm => exact ⟨h, .inl hm⟩
    · next hm =>
      split
      · next hnone => exact ⟨h, .inr fun n hn => nextCut_none hnone hn⟩
      · next n hsome =>
        obtain ⟨hr, hg⟩ := nextCut_some hsome
        refine ih (h.step (.cut v n (Bool.eq_false_iff.mpr hm) hr hg)) ?_ ?_ _
        · rw [(cutAt_same v _ g n).1]
          exact hq
        · have := sumGrants_cutAt (b := b) hq hg
          omega

theorem shedWalk_of_met {c : ShedScope} {g : ShedStage} {w : ShedWork} (h : c.met w.st = true) (fuel : Nat) (p : Fin 48) :
    shedWalk fuel c g p w = w := by
  cases fuel with
  | zero => rfl
  | succ k => rw [shedWalk, if_pos h]

/-- A stage of a branch's shed: what it cuts, where it stops, and that it cuts nothing where its stop condition is met before it. -/
theorem stage_cut (b : Fin 6) (g : ShedStage) (w : ShedWork) (hq : 0 < w.st.plant.quantum) :
    StageCut b g w (w.stage (.branch b) g) ∧
      ((ShedScope.branch b).met (w.stage (.branch b) g).st = true ∨ (w.stage (.branch b) g).st.spent b g) ∧
      ((ShedScope.branch b).met w.st = true → ∀ n, (w.stage (.branch b) g).st.stn n = w.st.stn n) := by
  have hstart : StageCut b g w { w with last := none } := by
    have := StageCut.refl b g w
    exact ⟨this.br, this.plant, this.capacity, this.stn, this.reach, this.floor, this.earlier, this.listed, this.reported⟩
  obtain ⟨h, hstop⟩ := shedWalk_stops hstart hq (Nat.lt_succ_self _) (g.pointer w.st.allocator)
  have hidle : (ShedScope.branch b).met w.st = true → ∀ n,
      (shedWalk (w.st.sumGrants + 1) (.branch b) g (g.pointer w.st.allocator) { w with last := none }).st.stn n = w.st.stn n :=
    fun hm n => by rw [shedWalk_of_met (w := { w with last := none }) hm]
  unfold ShedWork.stage
  dsimp only
  generalize shedWalk (w.st.sumGrants + 1) (.branch b) g (g.pointer w.st.allocator) { w with last := none } = v at h hstop hidle
  exact ⟨⟨h.br, h.plant, h.capacity, h.stn, h.reach, h.floor, h.earlier, h.listed, h.reported⟩, hstop, hidle⟩

/-! ### A branch's cap sum as its grants fall -/

theorem StageCut.inWindow {b : Fin 6} {g : ShedStage} {w v : ShedWork} (h : StageCut b g w v) (d : Fin 6) (n : Fin 48) :
    v.st.inWindow d n = w.st.inWindow d n := by
  rw [State.inWindow, State.inWindow, h.br]

theorem StageCut.cap_le {b : Fin 6} {g : ShedStage} {w v : ShedWork} (h : StageCut b g w v) (n : Fin 48) :
    (v.st.stn n).grantCap ≤ (w.st.stn n).grantCap := by
  obtain ⟨k, hk, hn⟩ := h.stn n
  rw [hn]
  exact flowCap_mono hk _

/-- A branch shed never raises a cap sum (R109). -/
theorem StageCut.capSum_le {b : Fin 6} {g : ShedStage} {w v : ShedWork} (h : StageCut b g w v) (d : Fin 6) :
    v.st.capSum d ≤ w.st.capSum d := by
  have hwin := branchWindow_of_settings (s := w.st) (t := v.st) (fun d => by rw [h.br]) d
  rw [State.capSum, State.capSum, hwin]
  exact sumOver_le _ h.cap_le

theorem StageCut.met {b : Fin 6} {g : ShedStage} {w v : ShedWork} (h : StageCut b g w v)
    (hm : (ShedScope.branch b).met w.st = true) : (ShedScope.branch b).met v.st = true := by
  have hle := h.capSum_le b
  have hlim : v.st.flowLimit b = w.st.flowLimit b := by rw [State.flowLimit, State.flowLimit, h.br]
  simp only [ShedScope.met, decide_eq_true_eq] at hm ⊢
  omega

theorem StageCut.trans_grant_le {b : Fin 6} {g : ShedStage} {w v : ShedWork} (h : StageCut b g w v) (n : Fin 48) :
    (v.st.stn n).grantKw ≤ (w.st.stn n).grantKw := by
  obtain ⟨k, hk, hn⟩ := h.stn n
  rw [hn]
  exact hk

theorem StageCut.host {b : Fin 6} {g : ShedStage} {w v : ShedWork} (h : StageCut b g w v) (n : Fin 48) :
    (v.st.stn n).host = (w.st.stn n).host := by
  obtain ⟨k, -, hn⟩ := h.stn n
  rw [hn]

theorem sumOver_eq_zero_of_mem {l : List (Fin 48)} {f : Fin 48 → Nat} (h : ∀ n ∈ l, f n = 0) : sumOver l f = 0 :=
  List.sum_eq_zero fun x hx => by
    obtain ⟨n, hn, rfl⟩ := List.mem_map.mp hx
    exact h n hn

/-! ### A branch shed as a whole (R101, R107, R109) -/

/-- From `s` to `t` a branch's shed has cut grants in the order of the stages, until the branch's caps fit its limit. -/
structure BranchShed (b : Fin 6) (s t : State) : Prop where
  br : ∀ d, t.br d = s.br d
  capacity : t.capacity = s.capacity
  stn : ∀ n, ∃ k ≤ (s.stn n).grantKw, t.stn n = { s.stn n with grantKw := k }
  outside : ∀ n, ¬ s.inWindow b n = true → (t.stn n).grantKw = (s.stn n).grantKw
  fits : t.capSum b ≤ t.flowLimit b
  flexFirst : ∀ n, (s.stn n).host.cls = .firm → (t.stn n).grantKw < (s.stn n).grantKw →
    ∀ m, s.inWindow b m = true → (s.stn m).host.cls = .flex → (t.stn m).grantKw = 0
  floorsLast : ∀ n, (s.stn n).host.cls = .firm → (t.stn n).grantKw < (s.stn n).grantKw →
    (t.stn n).grantKw < (s.stn n).host.floorKw →
      (∀ m, s.inWindow b m = true → (s.stn m).host.cls = .firm → (t.stn m).grantKw ≤ (s.stn m).host.floorKw) ∧
        t.faults.reports n

theorem shed_branch (b : Fin 6) (s : State) (l : List (Fin 48)) (hq : 0 < s.plant.quantum) :
    BranchShed b s (shed (.branch b) s l).st := by
  unfold shed
  obtain ⟨h1, stop1, idle1⟩ := stage_cut b .flex ⟨s, l, none, []⟩ hq
  generalize ShedWork.stage ⟨s, l, none, []⟩ (.branch b) .flex = w1 at h1 stop1 idle1
  obtain ⟨h2, stop2, idle2⟩ := stage_cut b .firmAboveFloor w1 (by rw [h1.plant]; exact hq)
  generalize w1.stage (.branch b) .firmAboveFloor = w2 at h2 stop2 idle2
  obtain ⟨h3, stop3, idle3⟩ := stage_cut b .firm w2 (by rw [h2.plant, h1.plant]; exact hq)
  generalize w2.stage (.branch b) .firm = w3 at h3 stop3 idle3
  have hin (n : Fin 48) : w1.st.inWindow b n = s.inWindow b n ∧ w2.st.inWindow b n = s.inWindow b n ∧
      w3.st.inWindow b n = s.inWindow b n :=
    ⟨h1.inWindow b n, (h2.inWindow b n).trans (h1.inWindow b n), (h3.inWindow b n).trans ((h2.inWindow b n).trans (h1.inWindow b n))⟩
  have hhost (n : Fin 48) : (w1.st.stn n).host = (s.stn n).host ∧ (w2.st.stn n).host = (s.stn n).host ∧
      (w3.st.stn n).host = (s.stn n).host :=
    ⟨h1.host n, (h2.host n).trans (h1.host n), (h3.host n).trans ((h2.host n).trans (h1.host n))⟩
  have hle (n : Fin 48) : (w3.st.stn n).grantKw ≤ (w2.st.stn n).grantKw ∧ (w2.st.stn n).grantKw ≤ (w1.st.stn n).grantKw :=
    ⟨h3.trans_grant_le n, h2.trans_grant_le n⟩
  have hflexOnly (n : Fin 48) (hc : (s.stn n).host.cls = .firm) : (w1.st.stn n).grantKw = (s.stn n).grantKw := by
    by_contra hne
    have := (h1.reach n hne).2
    rw [hc] at this
    cases this
  -- A stage later than the first has cut, so the first had not met the limit.
  have hflex (hm : ¬ (ShedScope.branch b).met w1.st = true) (m : Fin 48) (hw : s.inWindow b m = true)
      (hc : (s.stn m).host.cls = .flex) : (w3.st.stn m).grantKw = 0 := by
    have hz := stop1.resolve_left hm m ((hin m).1.trans hw)
    rw [cuttable_flex (by rw [(hhost m).1]; exact hc)] at hz
    have := hle m
    omega
  refine ⟨fun d => (h3.br d).trans ((h2.br d).trans (h1.br d)), h3.capacity.trans (h2.capacity.trans h1.capacity), fun n => ?_,
    fun n hn => ?_, ?_, fun n hc hlt => ?_, fun n hc hlt hfl => ?_⟩
  · obtain ⟨k1, hk1, e1⟩ := h1.stn n
    obtain ⟨k2, hk2, e2⟩ := h2.stn n
    obtain ⟨k3, hk3, e3⟩ := h3.stn n
    rw [e1] at hk2 e2
    rw [e2] at hk3 e3
    exact ⟨k3, hk3.trans (hk2.trans hk1), e3⟩
  · by_contra hne
    by_cases e3 : (w3.st.stn n).grantKw = (w2.st.stn n).grantKw
    · by_cases e2 : (w2.st.stn n).grantKw = (w1.st.stn n).grantKw
      · exact hn (h1.reach n fun e1 => hne (e3.trans (e2.trans e1))).1
      · exact hn ((hin n).1.symm.trans (h2.reach n e2).1)
    · exact hn ((hin n).2.1.symm.trans (h3.reach n e3).1)
  · by_contra hfit
    have hm3 : ¬ (ShedScope.branch b).met w3.st = true := by simpa [ShedScope.met] using hfit
    have hm2 : ¬ (ShedScope.branch b).met w2.st = true := fun h => hm3 (h3.met h)
    have hm1 : ¬ (ShedScope.branch b).met w1.st = true := fun h => hm2 (h2.met h)
    refine hfit ?_
    have hzero : w3.st.capSum b = 0 := sumOver_eq_zero_of_mem fun m hmem => by
      have hw : w3.st.inWindow b m = true := (List.mem_filter.mp hmem).2
      have hg : (w3.st.stn m).grantKw = 0 := by
        cases hc : (s.stn m).host.cls with
        | flex => exact hflex hm1 m ((hin m).2.2.symm.trans hw) hc
        | firm =>
          have hz := stop3.resolve_left hm3 m hw
          rwa [cuttable_firm (by rw [(hhost m).2.2]; exact hc)] at hz
      rw [Station.grantCap, hg, flowCap_zero]
    rw [hzero]
    exact Nat.zero_le _
  · refine hflex fun hm => ?_
    have e2 := congrArg Station.grantKw (idle2 hm n)
    have e3 := congrArg Station.grantKw (idle3 (h2.met hm) n)
    have e1 := hflexOnly n hc
    omega
  · have e1 := hflexOnly n hc
    have hcut3 : (w3.st.stn n).grantKw ≠ (w2.st.stn n).grantKw := by
      intro e3
      have hge := h2.floor rfl n (by omega)
      rw [(hhost n).1] at hge
      omega
    have hm2 : ¬ (ShedScope.branch b).met w2.st = true := fun hm => hcut3 (congrArg Station.grantKw (idle3 hm n))
    refine ⟨fun m hw hcm => ?_, ?_⟩
    · have hz := stop2.resolve_left hm2 m ((hin m).2.1.trans hw)
      rw [cuttable_aboveFloor (by rw [(hhost m).2.1]; exact hcm), (hhost m).2.1] at hz
      have := (hle m).1
      omega
    · have hnil : w2.belowFloor = [] := (h2.earlier (by decide)).trans (h1.earlier (by decide))
      exact h3.reported (by rw [hnil]; exact nofun) n (h3.listed rfl n hcut3)

end Sys2Proof.Machine
end

section
/-!
BR-DEF (R6, R117 to R119): its checks, the stations a change of windows moves, and the pass or the shed that a change of the limit
brings.
-/

namespace Sys2Proof.Machine

/-! ### The checks (R117) -/

theorem flagOfCode_above {n : Nat} (h : 1 < n) : flagOfCode n = none := by
  unfold flagOfCode
  split
  · omega
  · omega
  · rfl

/-- The settings a BR-DEF carries are its fields, the base and limit disregarded while it disables the branch. -/
theorem branchSettingsOf_asFrame {b : Fin 6} {c : BranchSettings} {f : BrDefFields} (hr : c.inRange = true)
    (hf : f = { c.asFrame b with base := f.base, limit := f.limit }) (hw : c.window ≠ none → f = c.asFrame b) :
    branchOfNumber f.branch = some b ∧ branchSettingsOf f = some c := by
  obtain ⟨w, fl, rs, rt, wt, rp⟩ := c
  cases w with
  | none =>
    rw [hf]
    refine ⟨branchOfNumber_val b, ?_⟩
    simp only [branchSettingsOf, BranchSettings.asFrame, flagOfCode, Bool.false_eq_true, if_false]
    exact if_pos hr
  | some w =>
    rw [hw nofun]
    refine ⟨branchOfNumber_val b, ?_⟩
    simp only [branchSettingsOf, BranchSettings.asFrame, flagOfCode, if_true]
    exact if_pos hr

/-- A BR-DEF out of range carries no settings, or names no branch (R117, check 1). -/
theorem branchSettingsOf_none {f : BrDefFields}
    (h : 1 < f.enabled ∨ (f.enabled = 1 ∧ (f.limit < f.base ∨ 47 < f.limit ∨ 12 < f.limit - f.base + 1)) ∨ 60000 < f.flowLimit ∨
      5000 < f.rampStep ∨ 255 < f.restThreshold ∨ f.wakeTime < 5 ∨ 600 < f.wakeTime ∨ f.restPoll < 5 ∨ 120 < f.restPoll) :
    branchSettingsOf f = none := by
  rcases Nat.lt_or_ge 1 f.enabled with he | he
  · simp [branchSettingsOf, flagOfCode_above he]
  · obtain ⟨e, hflag, henabled⟩ : ∃ e, flagOfCode f.enabled = some e ∧ (e = true ↔ f.enabled = 1) := by
      have : f.enabled = 0 ∨ f.enabled = 1 := by omega
      rcases this with h0 | h1
      · exact ⟨false, by rw [h0]; rfl, by simp [h0]⟩
      · exact ⟨true, by rw [h1]; rfl, by simp [h1]⟩
    simp only [branchSettingsOf, hflag]
    refine if_neg fun hr => ?_
    simp only [BranchSettings.inRange, within, Bool.and_eq_true, decide_eq_true_eq] at hr
    obtain ⟨⟨⟨⟨⟨hwin, h1⟩, h2⟩, h3⟩, h4, h5⟩, h6, h7⟩ := hr
    rcases h with h | ⟨hen, h⟩ | h
    · omega
    · rw [henabled.mpr hen] at hwin
      simp only [if_true, Range.isWindow, Bool.and_eq_true, decide_eq_true_eq] at hwin
      omega
    · omega

theorem windowTaken_iff (s : State) (b : Fin 6) (w : Option Range) :
    s.windowTaken b w = true ↔ ∃ d : Fin 6, d ≠ b ∧ windowsOverlap w (s.br d).settings.window = true := by
  simp [State.windowTaken, allBranches]

/-- The state that an accepted BR-DEF leaves to the reply (R117). -/
def State.withBranch (s : State) (b : Fin 6) (c : BranchSettings) : State :=
  if (s.br b).settings = c then s else (s.event.applyBranch b c).finish s

section
variable {s : State} {b : Fin 6} {c : BranchSettings} {f : BrDefFields} (hb : branchOfNumber f.branch = some b)
  (hc : branchSettingsOf f = some c)
include hb hc

theorem onBrDef_overlap (h : s.windowTaken b c.window = true) : s.onBrDef f = s.refuse .overlap := by
  simp only [State.onBrDef, hb, hc]
  exact if_pos h

theorem onBrDef_busy (h : s.windowTaken b c.window = false) (hw : (s.br b).settings.window ≠ c.window)
    (hbusy : s.branchBusy b c.window = true) : s.onBrDef f = s.refuse .busy := by
  simp only [State.onBrDef, hb, hc]
  rw [if_neg (by rw [h]; exact nofun), if_pos ⟨hw, hbusy⟩]

theorem onBrDef_accepted (h : s.windowTaken b c.window = false)
    (hbusy : (s.br b).settings.window ≠ c.window → s.branchBusy b c.window = false) :
    s.onBrDef f = (s.withBranch b c, .done []) := by
  simp only [State.onBrDef, hb, hc, State.withBranch]
  rw [if_neg (by rw [h]; exact nofun), if_neg fun k => by rw [hbusy k.1] at k; cases k.2]
  split <;> rfl

end

/-! ### The stations a change of windows moves (R6, R118) -/

/-- The record of a station whose branch has changed. -/
def Station.rewindow (r : Station) (lostHold : Nat) : Station :=
  if r.state = .attaching ∨ r.state = .active then
    ({ r.detached with state := .seeking, missCount := 0, debounce := 0 } : Station).startHold lostHold
  else r

theorem moveWindow_same (e : Event) (n : Fin 48) :
    (∀ m, (e.moveWindow n).st.stn m = if m = n then (e.st.stn n).rewindow e.st.plant.lostHold else e.st.stn m) ∧
      (e.moveWindow n).st.kept = e.st.kept.withStation n ((e.st.stn n).rewindow e.st.plant.lostHold) := by
  unfold Event.moveWindow Station.rewindow
  split
  · have hd : (e.st.detach n).stn n = (e.st.stn n).detached := by rw [stn_detach, if_pos rfl]
    refine ⟨fun m => ?_, ?_⟩
    · rw [returnToSeeking_st, map_st, stn_setStn, hd]
      split
      · rfl
      · next hm => rw [stn_detach, if_neg hm]
    · rw [returnToSeeking_st, map_st, kept_setStn_with, kept_detach, hd]
      rfl
  · refine ⟨fun m => ?_, ?_⟩
    · rw [map_st, stn_mapBr]
      split
      · next hm => rw [hm]
      · rfl
    · rw [map_st, kept_mapBr, withStation_self rfl] <;> intro <;> rfl

/-- The stations of a list moved in turn. -/
theorem moveWindows_same {l : List (Fin 48)} (hl : l.Nodup) (e : Event) :
    (∀ m, (l.foldl Event.moveWindow e).st.stn m =
        if m ∈ l then (e.st.stn m).rewindow e.st.plant.lostHold else e.st.stn m) ∧
      (l.foldl Event.moveWindow e).st.kept = e.st.kept.withStations fun m =>
        if m ∈ l then ((e.st.stn m).rewindow e.st.plant.lostHold).stable else (e.st.stn m).stable := by
  induction l generalizing e with
  | nil => exact ⟨fun _ => rfl, rfl⟩
  | cons n l ih =>
    obtain ⟨hn, hl⟩ := List.nodup_cons.mp hl
    obtain ⟨hs, hk⟩ := moveWindow_same e n
    obtain ⟨ihs, ihk⟩ := ih hl (e.moveWindow n)
    rw [List.foldl_cons]
    generalize e.moveWindow n = v at hs hk ihs ihk
    have hp : v.st.plant = e.st.plant := plant_of_kept_with hk
    have hstn (m : Fin 48) : (if m ∈ l then (v.st.stn m).rewindow v.st.plant.lostHold else v.st.stn m) =
        if m ∈ n :: l then (e.st.stn m).rewindow e.st.plant.lostHold else e.st.stn m := by
      rw [hp, hs]
      by_cases hm : m = n
      · subst hm
        simp [hn]
      · simp [hm]
    refine ⟨fun m => (ihs m).trans (hstn m), ihk.trans ?_⟩
    rw [hk]
    refine congrArg e.st.kept.withStations (funext fun m => ?_)
    rw [← apply_ite Station.stable, hstn m, apply_ite Station.stable]

/-! ### An accepted BR-DEF (R118, R119) -/

section
variable (s : State) (b : Fin 6) (c : BranchSettings)

/-- The kept part with one branch's settings replaced. -/
def State.keptWithBranch : Kept :=
  { s.kept with
    branches := fun d => if d = b then (c, (s.br b).badFrames, (s.br b).protocolErrors) else s.kept.branches d }

/-- A write of a branch's record that puts new settings in place and keeps its counts. -/
theorem kept_resettings {f : Branch → Branch} (h : (f (s.br b)).settings = c) (h1 : (f (s.br b)).badFrames = (s.br b).badFrames)
    (h2 : (f (s.br b)).protocolErrors = (s.br b).protocolErrors) : (s.updBr b f).kept = s.keptWithBranch b c := by
  have hb : (fun d => (((s.updBr b f).br d).settings, ((s.updBr b f).br d).badFrames, ((s.updBr b f).br d).protocolErrors)) =
      fun d => if d = b then (c, (s.br b).badFrames, (s.br b).protocolErrors) else s.kept.branches d := funext fun d => by
    rw [br_updBr]
    split
    · rw [h, h1, h2]
    · rfl
  unfold State.keptWithBranch State.kept at *
  rw [hb]
  rfl

theorem settings_updBr {f : Branch → Branch} (h : (f (s.br b)).settings = c) (d : Fin 6) :
    ((s.updBr b f).br d).settings = if d = b then c else (s.br d).settings := by
  rw [br_updBr]
  split
  · exact h
  · rfl

/-- With its window as it was, a branch's new settings are put in place and nothing moves (R119). -/
theorem applyBranch_same (hw : (s.br b).settings.window = c.window) :
    (s.event.applyBranch b c).st = s.updBr b (fun r => { r with settings := c }) := by
  unfold Event.applyBranch
  dsimp only
  rw [callPass_st, if_pos (by rw [event_st]; exact hw)]
  rfl

/-- With a new window the branch starts afresh, and the stations whose branch has changed move (R6, R118). -/
theorem applyBranch_moves (hw : (s.br b).settings.window ≠ c.window) :
    (s.event.applyBranch b c).st =
      ((movedStations s (s.updBr b fun r => r.reopen c)).foldl Event.moveWindow ⟨s.updBr b fun r => r.reopen c, false⟩).st := by
  unfold Event.applyBranch
  dsimp only
  rw [callPass_st, if_neg (by rw [event_st]; exact hw)]
  rfl

/-- A limit raised calls for a pass (R119). -/
theorem pass_applyBranch (h : (s.br b).settings.flowLimit < c.flowLimit) : (s.event.applyBranch b c).pass = true := by
  unfold Event.applyBranch
  dsimp only
  rw [callPass_pass, event_st, decide_eq_true h, Bool.or_true]

theorem pass_applyBranch_same (hw : (s.br b).settings.window = c.window) (h : c.flowLimit ≤ (s.br b).settings.flowLimit) :
    (s.event.applyBranch b c).pass = false := by
  unfold Event.applyBranch
  dsimp only
  rw [callPass_pass, event_st, if_pos hw, decide_eq_false (by omega)]
  rfl

/-- The stations as a BR-DEF leaves them, in the stable part of their records. -/
theorem kept_applyBranch :
    (s.event.applyBranch b c).st.kept = (s.keptWithBranch b c).withStations fun n =>
      if s.branchOf n ≠ (s.updBr b fun r => { r with settings := c }).branchOf n ∧
          ((s.stn n).state = .attaching ∨ (s.stn n).state = .active) then
        (({ s.stn n with state := .seeking, missCount := 0, debounce := 0 } : Station).startHold s.plant.lostHold).stable
      else (s.stn n).stable := by
  by_cases hw : (s.br b).settings.window = c.window
  · have hsame (n : Fin 48) : s.branchOf n = (s.updBr b fun r => { r with settings := c }).branchOf n := by
      have hwin (d : Fin 6) : ((s.updBr b fun r => { r with settings := c }).br d).settings.window = (s.br d).settings.window := by
        rw [settings_updBr s b c rfl]
        split
        · next e => rw [e, hw]
        · rfl
      simp only [State.branchOf, State.inWindow, hwin]
    rw [applyBranch_same s b c hw, kept_resettings s b c rfl rfl rfl]
    simp only [hsame, ne_eq, not_true_eq_false, false_and, if_false]
    rfl
  · obtain ⟨-, hk⟩ := moveWindows_same (l := movedStations s (s.updBr b fun r => r.reopen c)) (nodup_allStations.filter _)
      ⟨s.updBr b fun r => r.reopen c, false⟩
    have hof (n : Fin 48) : (s.updBr b fun r => { r with settings := c }).branchOf n = (s.updBr b fun r => r.reopen c).branchOf n :=
      branchOf_of_settings (fun d => by rw [settings_updBr s b c rfl, settings_updBr s b c rfl]) n
    rw [applyBranch_moves s b c hw, hk]
    dsimp only
    rw [kept_resettings s b c rfl rfl rfl]
    refine congrArg (s.keptWithBranch b c).withStations (funext fun n => ?_)
    have hmem : n ∈ movedStations s (s.updBr b fun r => r.reopen c) ↔
        (s.stn n).state ≠ .vacant ∧ s.branchOf n ≠ (s.updBr b fun r => { r with settings := c }).branchOf n := by
      rw [hof]
      simp only [movedStations, List.mem_filter, mem_allStations, true_and, Bool.and_eq_true, decide_eq_true_eq]
      rfl
    by_cases hp : (s.stn n).state = .attaching ∨ (s.stn n).state = .active
    · have hv : (s.stn n).state ≠ .vacant := by rcases hp with h | h <;> rw [h] <;> decide
      simp only [hmem, hv, hp, ne_eq, not_false_eq_true, true_and, and_true, stn_updBr]
      split
      · rw [Station.rewindow, if_pos hp]
        show (Station.startHold _ s.plant.lostHold).stable = _
        unfold Station.startHold
        split <;> rfl
      · rfl
    · rw [if_neg fun h : _ ∧ (_ ∨ _) => hp h.2]
      split
      · rw [stn_updBr, Station.rewindow, if_neg hp]
      · rfl

end

end Sys2Proof.Machine
end

section
/-!
BR-DEF, concluded: the shed that a lowered limit calls for (R101, R108, R109, R119), and the statement of its family.
-/

namespace Sys2Proof.Machine

/-! ### The one shed of a lowered limit -/

section
variable {b : Fin 6} {s t : State} (h : BranchShed b s t)
include h

theorem BranchShed.settings (d : Fin 6) : (t.br d).settings = (s.br d).settings := by rw [h.br]

theorem BranchShed.cap_le (n : Fin 48) : (t.stn n).grantCap ≤ (s.stn n).grantCap := by
  obtain ⟨k, hk, hn⟩ := h.stn n
  rw [hn]
  exact flowCap_mono hk _

theorem BranchShed.grant_le (n : Fin 48) : (t.stn n).grantKw ≤ (s.stn n).grantKw := by
  obtain ⟨k, hk, hn⟩ := h.stn n
  rw [hn]
  exact hk

theorem BranchShed.overLimit {d : Fin 6} (hd : d ≠ b → s.overLimit d = false) : t.overLimit d = false := by
  by_cases e : d = b
  · subst e
    have := h.fits
    simp [State.overLimit, this]
  · have hs := hd e
    have hle : t.capSum d ≤ s.capSum d := by
      rw [State.capSum, State.capSum, branchWindow_of_settings h.settings]
      exact sumOver_le _ h.cap_le
    simp only [State.overLimit, State.flowLimit, h.settings, Bool.and_eq_false_iff, decide_eq_false_iff_not] at hs ⊢
    rcases hs with hs | hs
    · exact .inl hs
    · have := of_decide_eq_false hs
      exact .inr (by omega)

end

/-- With one branch over its limit, its shed is the only branch shed (R108, R110). -/
theorem branchSheds_one {b : Fin 6} {l : List (Fin 6)} {w : State × List (Fin 48)} (hq : 0 < w.1.plant.quantum)
    (ho : ∀ d, d ≠ b → w.1.overLimit d = false) (hb : b ∈ l) :
    branchSheds l w =
      if w.1.overLimit b then ((shed (.branch b) w.1 w.2).st, (shed (.branch b) w.1 w.2).changed) else w := by
  have cons (d : Fin 6) (l : List (Fin 6)) (w : State × List (Fin 48)) : branchSheds (d :: l) w =
      branchSheds l (if w.1.overLimit d then ((shed (.branch d) w.1 w.2).st, (shed (.branch d) w.1 w.2).changed) else w) := rfl
  induction l with
  | nil => cases hb
  | cons d l ih =>
    rw [cons]
    by_cases hd : d = b
    · subst hd
      split
      · have hs := shed_branch d w.1 w.2 hq
        exact branchSheds_of_met fun e _ => hs.overLimit (ho e)
      · next hn =>
        refine branchSheds_of_met fun e _ => ?_
        by_cases he : e = d
        · rw [he]; exact Bool.eq_false_iff.mpr hn
        · exact ho e he
    · rw [if_neg (by rw [ho d hd]; exact nofun)]
      exact ih ((List.mem_cons.mp hb).resolve_left fun e => hd e.symm)

/-- With one branch over its limit and the grants within A, the sheds are that branch's (R108, R110). -/
theorem sheds_one {b : Fin 6} {s : State} (hq : 0 < s.plant.quantum) (ho : ∀ d, d ≠ b → s.overLimit d = false)
    (hg : s.sumGrants ≤ s.capacity) :
    (s.overLimit b = true ∧ BranchShed b s (sheds s).1) ∨ (s.overLimit b = false ∧ sheds s = (s, [])) := by
  have hone := branchSheds_one (w := (s, [])) hq ho (show b ∈ allBranches by simp [allBranches])
  rw [sheds_eq]
  dsimp only at hone ⊢
  cases hov : s.overLimit b with
  | true =>
    left
    refine ⟨rfl, ?_⟩
    have hs := shed_branch b s [] hq
    rw [hone, hov, if_pos rfl]
    generalize shed (.branch b) s [] = w at hs
    have hle : w.st.sumGrants ≤ w.st.capacity := by
      rw [hs.capacity]
      exact (sumOver_le _ hs.grant_le).trans hg
    rw [if_neg (by dsimp only; omega)]
    exact hs
  | false =>
    right
    refine ⟨rfl, ?_⟩
    have hw : branchSheds allBranches (s, []) = (s, []) := hone.trans (if_neg (by rw [hov]; exact nofun))
    rw [hw]
    exact if_neg (by dsimp only; omega)

theorem settled_reports (n : Fin 48) : FaultList.Settled fun l => l.reports n where
  raised _ _ _ _ h := reports_raise h _ _
  ended s h := h.imp (fun h => (settled_shows (k := .firmCut) (by decide) n.val).ended s h) id
  relay _ _ h := h

/-- Where no pass comes with an event, it ends with the grants of its sheds, and with what they reported. -/
theorem finish_of_sheds {e : Event} (hp : e.pass = false) (before : State) :
    (sheds e.st).1.SameAllotment (e.finish before) ∧
      ∀ n, (sheds e.st).1.faults.reports n → (e.finish before).faults.reports n := by
  have ha : allocate e = handChanges e.st (sheds e.st).2 (sheds e.st).1 := by
    unfold allocate
    simp only [hp, Bool.false_eq_true, if_false]
  unfold Event.finish
  rw [ha]
  generalize sheds e.st = w
  refine ⟨(sameAllotment_handChanges e.st w.2 w.1).trans (sameAllotment_settle _ before _ _), fun n h => ?_⟩
  refine (settled_reports n).settle ?_ before _ _
  rw [faults_of_ungranted (ungranted_handChanges e.st w.2 w.1)]
  exact h

/-! #### What is the same to a pass and to a shed -/

section
variable {s t : State} (h : s.SameAllotment t)
include h

theorem State.SameAllotment.grantKw (n : Fin 48) : (t.stn n).grantKw = (s.stn n).grantKw :=
  (congrArg Station.grantKw (h.stations n) :)

theorem State.SameAllotment.grantCap (n : Fin 48) : (t.stn n).grantCap = (s.stn n).grantCap := by
  rw [← grantCap_allotted, h.stations, grantCap_allotted]

theorem State.SameAllotment.capSum (b : Fin 6) : t.capSum b = s.capSum b := by
  rw [State.capSum, State.capSum, branchWindow_of_settings h.settings, funext h.grantCap]

end

/-- An answer changes no grant and no fault. -/
theorem answeredOnly_same (t : State) (tag : Nat) (r : Reply) :
    t.SameAllotment (State.answeredOnly { t with session := none } tag r) ∧
      (State.answeredOnly { t with session := none } tag r).faults = t.faults :=
  ⟨⟨rfl, fun _ => rfl, fun _ => rfl, fun _ => id⟩, rfl⟩

/-- Where a state's grants are those of a branch's shed, and its faults report what the shed did, it is a shed in order (R101). -/
theorem shedInOrder_of_branchShed {b : Fin 6} {s u t : State} (h : BranchShed b s u) (hg : ∀ n, (t.stn n).grantKw = (u.stn n).grantKw)
    (hf : ∀ n, u.faults.reports n → t.faults.reports n) : s.shedInOrder t fun n => s.inWindow b n = true := by
  refine ⟨fun n => ?_, fun n hn => ?_, fun n hc hlt => ⟨fun m hm hcm => ?_, fun hfl => ?_⟩⟩
  · rw [hg]; exact h.grant_le n
  · rw [hg]; exact h.outside n hn
  · rw [hg] at hlt ⊢
    exact h.flexFirst n hc hlt m hm hcm
  · rw [hg] at hlt hfl
    obtain ⟨h1, h2⟩ := h.floorsLast n hc hlt hfl
    exact ⟨fun m hm hcm => by rw [hg]; exact h1 m hm hcm, hf n h2⟩

theorem shedInOrder_of_unchanged {s t : State} (hg : ∀ n, (t.stn n).grantKw = (s.stn n).grantKw) (scope : Fin 48 → Prop) :
    s.shedInOrder t scope :=
  ⟨fun n => (hg n).le, fun n _ => hg n, fun n _ hlt => by rw [hg] at hlt; omega⟩

/-! ### A BR-DEF as a whole -/

section
variable (s : State) (b : Fin 6) (c : BranchSettings)

theorem kept_withBranch :
    (s.withBranch b c).kept = (s.keptWithBranch b c).withStations fun n =>
      if s.branchOf n ≠ (s.updBr b fun r => { r with settings := c }).branchOf n ∧
          ((s.stn n).state = .attaching ∨ (s.stn n).state = .active) then
        (({ s.stn n with state := .seeking, missCount := 0, debounce := 0 } : Station).startHold s.plant.lostHold).stable
      else (s.stn n).stable := by
  unfold State.withBranch
  split
  · next h =>
    have hself : (s.updBr b fun r => { r with settings := c }) = s := by
      subst h
      show s.setBr b (s.br b) = s
      simp [State.setBr, State.br]
    have hk := kept_resettings s b c (f := fun r => { r with settings := c }) rfl rfl rfl
    rw [hself] at hk
    rw [hself, ← hk]
    simp only [ne_eq, not_true_eq_false, false_and, if_false]
    rfl
  · rw [kept_finish, kept_applyBranch]

/-- A limit raised brings a grant pass to its end (R77, R119). -/
theorem passEnded_withBranch (h : (s.br b).settings.flowLimit < c.flowLimit) (hq : 10 ≤ s.plant.quantum) :
    (s.withBranch b c).passEnded := by
  have hp : (s.event.applyBranch b c).st.plant = s.plant := (congrArg Kept.plant (kept_applyBranch s b c) :)
  unfold State.withBranch Event.finish
  rw [if_neg fun e => by rw [e] at h; omega]
  exact passEnded_settle (passEnded_allocate (pass_applyBranch s b c h) (by rw [hp]; omega)) s _ _

/-- With the window as it was, every branch keeps its window and its cap sum (R119). -/
theorem window_resettle (hw : (s.br b).settings.window = c.window) (d : Fin 6) :
    ((s.updBr b fun r => { r with settings := c }).br d).settings.window = (s.br d).settings.window := by
  rw [settings_updBr s b c rfl]
  split
  · next e => rw [e, hw]
  · rfl

theorem capSum_resettle (hw : (s.br b).settings.window = c.window) (d : Fin 6) :
    (s.updBr b fun r => { r with settings := c }).capSum d = s.capSum d := by
  have hwin : (s.updBr b fun r => { r with settings := c }).inWindow d = s.inWindow d := funext fun n => by
    rw [State.inWindow, State.inWindow, window_resettle s b c hw]
  simp only [State.capSum, State.windowStations, hwin, stn_updBr]

/-- With lawful caps, no branch but the one whose limit a BR-DEF lowers can be over its limit (R108). -/
theorem overLimit_resettle (hw : (s.br b).settings.window = c.window) (hl : s.capsLawful) {d : Fin 6} (hd : d ≠ b) :
    (s.updBr b fun r => { r with settings := c }).overLimit d = false := by
  have hs : ((s.updBr b fun r => { r with settings := c }).br d).settings = (s.br d).settings := by
    rw [settings_updBr s b c rfl, if_neg hd]
  rw [State.overLimit, State.flowLimit, hs, capSum_resettle s b c hw]
  cases hsome : (s.br d).settings.window.isSome with
  | false => rfl
  | true =>
    have : s.capSum d ≤ (s.br d).settings.flowLimit := hl d hsome
    rw [Bool.true_and, decide_eq_false (by omega)]

/-- With the window as it was and the limit no higher, a BR-DEF brings that branch's shed, or none (R108, R119). -/
theorem sheds_applyBranch (hw : (s.br b).settings.window = c.window) (hle : c.flowLimit ≤ (s.br b).settings.flowLimit)
    (hl : s.capsLawful) (hg : s.sumGrants ≤ s.capacity) (hq : 10 ≤ s.plant.quantum) :
    let v := s.updBr b fun r => { r with settings := c }
    let t := (s.event.applyBranch b c).finish s
    ∃ u : State, u.SameAllotment t ∧ (∀ n, u.faults.reports n → t.faults.reports n) ∧
      ((v.overLimit b = true ∧ BranchShed b v u) ∨ (v.overLimit b = false ∧ u = v)) := by
  obtain ⟨hsame, hrep⟩ := finish_of_sheds (pass_applyBranch_same s b c hw hle) s
  rw [applyBranch_same s b c hw] at hsame hrep
  have hsheds := sheds_one (b := b) (s := s.updBr b fun r => { r with settings := c }) (by show 0 < s.plant.quantum; omega)
    (fun d hd => overLimit_resettle s b c hw hl hd) hg
  exact ⟨_, hsame, hrep, hsheds.imp_right fun ⟨h1, h2⟩ => ⟨h1, congrArg Prod.fst h2⟩⟩

/-- What a limit that does not rise does to the grants (R101, R109, R119). -/
theorem limit_withBranch (hw : (s.br b).settings.window = c.window) (hle : c.flowLimit ≤ (s.br b).settings.flowLimit)
    (hl : s.capsLawful) (hg : s.sumGrants ≤ s.capacity) (hq : 10 ≤ s.plant.quantum) :
    s.shedInOrder (s.withBranch b c) (fun n => s.inWindow b n = true) ∧
      (c.window ≠ none → (s.withBranch b c).capSum b ≤ c.flowLimit) ∧
      (s.capSum b ≤ c.flowLimit → ∀ n, ((s.withBranch b c).stn n).grantKw = (s.stn n).grantKw) := by
  by_cases hc : (s.br b).settings = c
  · have hself : s.withBranch b c = s := if_pos hc
    rw [hself]
    refine ⟨shedInOrder_of_unchanged (fun _ => rfl) _, fun hsome => ?_, fun _ _ => rfl⟩
    have hlaw := hl b
    rw [State.flowLimit, hc] at hlaw
    exact hlaw (Option.isSome_iff_ne_none.mpr hsome)
  · have hfin : s.withBranch b c = (s.event.applyBranch b c).finish s := if_neg hc
    have hu := sheds_applyBranch s b c hw hle hl hg hq
    have hcap := capSum_resettle s b c hw b
    have hset : ((s.updBr b fun r => { r with settings := c }).br b).settings = c := by
      rw [settings_updBr s b c rfl, if_pos rfl]
    have hwin (n : Fin 48) : (s.updBr b fun r => { r with settings := c }).inWindow b n = s.inWindow b n := by
      rw [State.inWindow, State.inWindow, window_resettle s b c hw]
    have hstn (n : Fin 48) : (s.updBr b fun r => { r with settings := c }).stn n = s.stn n := stn_updBr s b _ n
    rw [← hfin] at hu
    dsimp only at hu
    generalize (s.updBr b fun r => { r with settings := c }) = v at hu hcap hset hwin hstn
    generalize s.withBranch b c = t at hu
    obtain ⟨u, hsame, hrep, hshed⟩ := hu
    rw [hsame.capSum]
    rcases hshed with ⟨hover, h⟩ | ⟨hover, rfl⟩
    · have hord := shedInOrder_of_branchShed h hsame.grantKw hrep
      have hfits := h.fits
      simp only [State.overLimit, State.flowLimit, h.br, hset, hcap, Bool.and_eq_true, decide_eq_true_eq] at hover hfits
      simp only [State.shedInOrder, hwin, hstn] at hord
      exact ⟨hord, fun _ => hfits, fun hle => absurd hle (by omega)⟩
    · have hgrant (n : Fin 48) : (t.stn n).grantKw = (s.stn n).grantKw := (hsame.grantKw n).trans (by rw [hstn])
      refine ⟨shedInOrder_of_unchanged hgrant _, fun hsome => ?_, fun _ => hgrant⟩
      have : c.window.isSome = true := Option.isSome_iff_ne_none.mpr hsome
      simp only [State.overLimit, State.flowLimit, hset, this, Bool.true_and, decide_eq_false_iff_not] at hover
      omega

end

/-- An accepted BR-DEF, in its parts: what it keeps and replaces, the pass, the shed. -/
theorem brDef_accepted {s : State} {tag : Nat} {b : Fin 6} {c : BranchSettings} {f : BrDefFields} (hs : s.ready)
    (hb : branchOfNumber f.branch = some b) (hc : branchSettingsOf f = some c) (hfree : s.windowTaken b c.window = false)
    (hbusy : (s.br b).settings.window ≠ c.window → s.branchBusy b c.window = false) :
    let after := s.updBr b fun r => { r with settings := c }
    ∃ t, exec (.brDef tag f) s = .next t ∧
      t.kept = { s.afterRequest tag (.done []) with
        branches := fun d => if d = b then (c, (s.br b).badFrames, (s.br b).protocolErrors) else s.kept.branches d
        stations := fun n =>
          if s.branchOf n ≠ after.branchOf n ∧ ((s.stn n).state = .attaching ∨ (s.stn n).state = .active) then
            ({ s.stn n with state := .seeking, missCount := 0, debounce := 0 }.startHold s.plant.lostHold).stable
          else (s.stn n).stable } ∧
      ((s.br b).settings.flowLimit < c.flowLimit → 10 ≤ s.plant.quantum → t.passEnded) ∧
      (c.window = (s.br b).settings.window → c.flowLimit ≤ (s.br b).settings.flowLimit → s.capsLawful →
        s.sumGrants ≤ s.capacity → 10 ≤ s.plant.quantum →
        s.shedInOrder t (fun n => s.inWindow b n = true) ∧ (c.window ≠ none → t.capSum b ≤ c.flowLimit) ∧
        (s.capSum b ≤ c.flowLimit → ∀ n : Fin 48, (t.stn n).grantKw = (s.stn n).grantKw)) := by
  intro after
  have hk := kept_withBranch s b c
  obtain ⟨hexec, hkept⟩ := exec_request (c := .brDef tag f) rfl hs (onBrDef_accepted hb hc hfree hbusy) nofun nofun rfl rfl
    (congrArg Kept.link hk)
  obtain ⟨hsame, hfaults⟩ := answeredOnly_same (s.withBranch b c) tag (.done [])
  have hpass := passEnded_withBranch s b c
  have hlimit := limit_withBranch s b c
  generalize State.answeredOnly { s.withBranch b c with session := none } tag (.done []) = t at hexec hkept hsame hfaults
  generalize s.withBranch b c = w at hk hkept hsame hfaults hpass hlimit
  refine ⟨t, hexec, ?_, fun h hq => hsame.passEnded (hpass h hq), fun hw hle hl hg hq => ?_⟩
  · rw [hkept, hk]
    rfl
  · simpa only [State.shedInOrder, hsame.capSum, hsame.grantKw, hfaults] using hlimit hw.symm hle hl hg hq

/-- Settles O31: the checks in their order (R117), and an accepted BR-DEF in its parts (R118, R119). -/
theorem branchesAreDefined : Obligations.BranchesAreDefined := by
  refine ⟨fun s tag f hs h => exec_refused rfl hs ?_, fun s tag b c f hs hr hf hw => ?_⟩
  · show s.onBrDef f = _
    rcases h with h | h
    · rw [State.onBrDef, branchOfNumber_above h]
      rfl
    · rw [State.onBrDef, branchSettingsOf_none h]
      cases branchOfNumber f.branch <;> rfl
  · obtain ⟨hb, hc⟩ := branchSettingsOf_asFrame hr hf hw
    refine ⟨fun h => exec_refused rfl hs (onBrDef_overlap hb hc ((windowTaken_iff s b _).mpr h)), fun h => ?_⟩
    have hfree : s.windowTaken b c.window = false := Bool.eq_false_iff.mpr fun ht => by
      obtain ⟨d, hd, ho⟩ := (windowTaken_iff s b _).mp ht
      rw [h d hd] at ho
      cases ho
    exact ⟨fun hne hbusy => exec_refused rfl hs (onBrDef_busy hb hc hfree hne hbusy), brDef_accepted hs hb hc hfree⟩

end Sys2Proof.Machine
end

section
/-!
SUPPORT. The plant's records (Section 2): what a write to a chiller, to a watch and to the plant bus does to the kept part, what the fault
list keeps where a condition ends, and the end of an event in which A has been worked out again (R26, R27, R39, R172).
-/

namespace Sys2Proof.Machine

/-! ### One record of the plant written -/

theorem kept_setChiller (s : State) (u : Fin 8) (c : Chiller) :
    (s.setChiller u c).kept = { s.kept with chillers := s.chillers.set u.val c } := rfl

theorem kept_endSilence (s : State) (a : Fin 11) :
    (s.endSilence a).kept = { s.kept with watches := s.watches.set a.val ⟨false, 0⟩ } := rfl

@[simp] theorem kept_bus (s : State) (c : BusCommand) : (s.bus c).kept = s.kept := rfl

/-- Of two writes to a chiller's record the later one counts. -/
@[simp] theorem setChiller_setChiller (s : State) (u : Fin 8) (c d : Chiller) :
    (s.setChiller u c).setChiller u d = s.setChiller u d := by
  simp [State.setChiller]

/-! ### The fault list where a condition ends (R172) -/

/-- What is quiet stays quiet where conditions end. -/
theorem quiet_endActive {l : FaultList} {k : FaultKind} {x : Nat} (h : l.quiet k x) (p : FaultEntry → Bool) :
    (l.endActive p).quiet k x := by
  intro e he hk hx
  obtain ⟨d, hd, hde⟩ := List.mem_filterMap.mp he
  split at hde
  · split at hde
    · cases hde
    · rw [← Option.some.inj hde]
  · obtain rfl := Option.some.inj hde
    exact h d hd hk hx

theorem quiet_endSilence (s : State) (a : Fin 11) : (s.endSilence a).faults.quiet .deviceSilent a.val :=
  quiet_endCondition (s.setWatch a ⟨false, 0⟩) _ _

/-- Where conditions of other kinds end, a raise finds its entry or its place as before. -/
theorem records_endActive {l : FaultList} {k : FaultKind} {x : Nat} (h : l.records k x) {p : FaultEntry → Bool}
    (hp : ∀ e : FaultEntry, e.kind = k → p e = false) : (l.endActive p).records k x := by
  rcases h with h | h
  · obtain ⟨e, he, hk, hx⟩ := (holds_iff _ _ _).mp h
    exact .inl ((holds_iff _ _ _).mpr ⟨e, List.mem_filterMap.mpr ⟨e, he, by simp [hp e hk]⟩, hk, hx⟩)
  · exact .inr ((List.length_filterMap_le _ _).trans_lt h)

/-- The entries of one kind, in the order of the list. -/
def FaultList.ofKind (l : FaultList) (k : FaultKind) : List FaultEntry := l.entries.filter fun e => e.kind = k

/-- A raise leaves the entries of every other kind alone. -/
theorem ofKind_raise {k k' : FaultKind} (hk : k' ≠ k) (s : State) (x : Nat) :
    (s.raise k' x).faults.ofKind k = s.faults.ofKind k := by
  have hsub (l : List FaultEntry) :
      (l.filter fun e => !e.names k' x).filter (fun e => e.kind = k) = l.filter fun e => e.kind = k := by
    rw [List.filter_filter]
    refine List.filter_congr fun e _ => ?_
    by_cases he : e.kind = k
    · simp [he, FaultEntry.names, hk.symm]
    · simp [he]
  unfold FaultList.ofKind
  rw [← hsub, others_raise, hsub]

/-- Where conditions of other kinds end, the entries of a kind stay as they are. -/
theorem ofKind_endActive (l : FaultList) {k : FaultKind} {p : FaultEntry → Bool}
    (hp : ∀ e : FaultEntry, e.kind = k → p e = false) : (l.endActive p).ofKind k = l.ofKind k := by
  unfold FaultList.ofKind FaultList.endActive
  dsimp only
  induction l.entries with
  | nil => rfl
  | cons e l ih =>
    by_cases he : e.kind = k
    · simpa [hp e he, he] using ih
    · rw [List.filterMap_cons, List.filter_cons_of_neg (by simpa using he), ← ih]
      split
      · rfl
      · next d hd =>
        refine List.filter_cons_of_neg ?_
        split at hd
        · split at hd
          · cases hd
          · rw [← Option.some.inj hd]
            simpa using he
        · rw [← Option.some.inj hd]
          simpa using he

/-- The end of an event leaves the entries of every kind alone but those of FIRM_CUT and INDEX_LOST. -/
theorem settled_ofKind {k : FaultKind} (hc : k ≠ .firmCut) (hi : k ≠ .indexLost) (es : List FaultEntry) :
    FaultList.Settled fun l => l.ofKind k = es where
  raised s k' x hk h := (ofKind_raise (by rcases hk with rfl | rfl <;> [exact hc.symm; exact hi.symm]) s x).trans h
  ended s h := (ofKind_endActive s.faults fun e he => by simp [he, hi]).trans h
  relay _ _ h := h

/-! ### The end of an event in which A is worked out again (R39) -/

theorem busSent_evalTank (s : State) (r : Bool) : ∃ l, (s.evalTank r).busSent = s.busSent ++ l := by
  have hnone : ∃ l, s.busSent = s.busSent ++ l := ⟨[], (List.append_nil _).symm⟩
  unfold State.evalTank
  split
  · exact hnone
  · split <;> split
    · exact ⟨_, rfl⟩
    · exact hnone
    · exact ⟨_, rfl⟩
    · exact hnone

/-- The end of an event puts no more than a tank command on the plant bus, behind what the event has put there (R27, R49). -/
theorem busSent_settle (s before : State) (t r : Bool) : ∃ l, (s.settle before t r).busSent = s.busSent ++ l := by
  rw [(busSent_of_unjudged (unjudged_settle s before t r)).1, ← (last_of_unsent (unsent_arbitrateAll s)).2]
  generalize s.arbitrateAll = v
  unfold State.settleStorage
  split
  · exact busSent_evalTank _ r
  · exact ⟨[], (List.append_nil _).symm⟩

/-- The kept part after A and S_dis have been worked out again: both are those of the state it belongs to. -/
theorem kept_capacityNow {v t : State}
    (h : t.kept = { v.kept with capacity := v.capacityNow, storageDischarge := v.dischargeNow }) :
    t.kept = { v.kept with capacity := t.capacityNow, storageDischarge := t.dischargeNow } := by
  obtain ⟨hd, hc⟩ := capacityNow_of_recapacity h
  rw [h, hd, hc]

/-- From `v`, an event has ended in `t` with A and S_dis worked out again: `k` is what it has kept but for those two, what the end of an
event keeps of a fault list is as it was, and nothing has gone from the plant bus. -/
structure Recapped (k : Kept) (v t : State) : Prop where
  kept : t.kept = { k with capacity := t.capacityNow, storageDischarge := t.dischargeNow }
  faults : ∀ P, FaultList.Settled P → P v.faults → P t.faults
  bus : ∃ l, t.busSent = v.busSent ++ l

theorem recapped_settle (v before : State) (t r : Bool) :
    Recapped v.kept v ((allocate v.event.recapacity).settle before t r) where
  kept := kept_capacityNow ((kept_settle _ _ _ _).trans (kept_allocate _))
  faults _ hP h := hP.settle (hP.allocate (e := v.event.recapacity) h) before t r
  bus := by
    obtain ⟨l, h⟩ := busSent_settle (allocate v.event.recapacity) before t r
    exact ⟨l, h.trans (by rw [(pressure_allocate v.event.recapacity).2.2.1]; rfl)⟩

theorem recapped_finish (v before : State) : Recapped v.kept v (v.event.recapacity.finish before) :=
  recapped_settle v before _ false

/-- A request that ends with A and S_dis worked out again (R39, R179). -/
theorem exec_recapped {c : Instr} {tag : Nat} {r : Request} {s v : State} (hc : c.asRequest = some (tag, r)) (hs : s.ready)
    (h : s.carryOut tag r = (v.event.recapacity.finish s, .done [])) (h1 : r ≠ .save) (h2 : r ≠ .restart)
    (hk : r.keepsSession = false) (hl : v.link.kept = s.link.kept) :
    ∃ t, exec c s = .next t ∧
      Recapped { v.kept with
        session := none
        link := { s.link.kept with phase := .replying false, replies := [(tag, .done [])] } } v t := by
  have hr := recapped_finish v s
  obtain ⟨he, hkept⟩ := exec_request hc hs h h1 h2 rfl hk ((congrArg Kept.link hr.kept :).trans hl)
  generalize v.event.recapacity.finish s = w at hr he hkept
  refine ⟨_, he, ?_, hr.faults, hr.bus⟩
  rw [hkept, hr.kept]
  rfl

end Sys2Proof.Machine
end

section
/-!
CH-CMD and CH-DEF (R28 to R31, R39): the unit's record as each state of the unit has it written, and the end of the event where A is worked
out again.
-/

namespace Sys2Proof.Machine

@[simp] theorem unitOf_val (u : Fin 8) : unitOf u.val = some u := by simp [unitOf]

theorem unitOf_above {n : Nat} (h : 7 < n) : unitOf n = none := dif_neg (by omega)

/-! ### CH-CMD (R30, R31) -/

theorem onChCmd_above (s : State) {unit : Nat} (h : 7 < unit) (command : Nat) : s.onChCmd unit command = s.refuse .range := by
  unfold State.onChCmd
  rw [unitOf_above h]

/-- A command code that names neither START nor STOP. -/
theorem onChCmd_unnamed (s : State) (unit : Nat) {command : Nat} (h : 2 ≤ command) :
    s.onChCmd unit command = s.refuse .range := by
  obtain ⟨k, rfl⟩ := Nat.exists_eq_add_of_le' h
  unfold State.onChCmd
  cases unitOf unit <;> rfl

theorem onChCmd_start (s : State) (u : Fin 8) : s.onChCmd u.val 0 = s.chillerStart u := by simp [State.onChCmd]

theorem onChCmd_stop (s : State) (u : Fin 8) : s.onChCmd u.val 1 = s.chillerStop u := by simp [State.onChCmd]

/-- A CH-CMD frame of two bytes is a request with those for its unit and its command code (R30). -/
theorem parseRequest_chCmd (u c : Byte) : parseRequest 0x07 [u, c] = .chCmd u.toNat c.toNat := by
  simp [parseRequest, splitBody, ofBytes]

section
variable {s : State} (tag : Nat) {u : Fin 8} (hs : s.ready)
include hs

/-- A START or STOP with no more than its own effect, answered DONE. -/
theorem exec_start_done {s' : State} (h : s.chillerStart u = (s', .done [])) :
    exec (.chCmdStart tag u.val) s = .next (State.answeredOnly { s' with session := none } tag (.done [])) := by
  rw [exec_ready (c := .chCmdStart tag u.val) rfl hs,
    handle_done (r := .chCmd u.val 0) nofun nofun ((onChCmd_start s u).trans h) rfl rfl]

theorem exec_stop_done {s' : State} (h : s.chillerStop u = (s', .done [])) :
    exec (.chCmdStop tag u.val) s = .next (State.answeredOnly { s' with session := none } tag (.done [])) := by
  rw [exec_ready (c := .chCmdStop tag u.val) rfl hs,
    handle_done (r := .chCmd u.val 1) nofun nofun ((onChCmd_stop s u).trans h) rfl rfl]

end

/-- A unit without a min-off timer is commanded to run with its confirm timer started alone (R30). -/
theorem start_of_free {c : Chiller} (h : c.minOffTimer = none) :
    c.start = { c with state := .starting, confirmTimer := some c.settings.startConfirm } := by
  rw [Chiller.start, ← h]

/-- A unit without a min-run timer is commanded to stop with its confirm timer started alone (R31). -/
theorem stop_of_free {c : Chiller} (h : c.minRunTimer = none) :
    c.stop = { c with state := .stopping, confirmTimer := some c.settings.stopConfirm } := by
  rw [Chiller.stop, ← h]

/-- Settles O34, by the state of the unit. -/
theorem chillersStart : Obligations.ChillersStart := by
  refine ⟨fun s tag unit hs h => ⟨exec_refused rfl hs (onChCmd_above s h 0), exec_refused rfl hs (onChCmd_above s h 1)⟩,
    fun s tag u c hs h => ?_, fun s tag u hs => ?_⟩
  · rw [exec_frame_ready hs, parseRequest_chCmd, handle_refused (r := .chCmd u.toNat c.toNat) (onChCmd_unnamed s u.toNat h)]
  intro c s'
  refine ⟨fun hc hm => ?_, fun hc hm => ?_, fun hc => ?_, fun hc => ?_, fun hc => ?_⟩
  · rw [← start_of_free hm]
    refine exec_start_done tag hs (s' := s.runChiller u) ?_
    simp [State.chillerStart, hc, c, hm, State.doneEmpty]
  · refine exec_start_done tag hs (s' := s.setChiller u { c with state := .startHeld }) ?_
    simp [State.chillerStart, hc, c, hm, State.doneEmpty]
  · refine exec_start_done tag hs (s' := s.setChiller u { c with state := .run }) ?_
    simp [State.chillerStart, hc, c, State.doneEmpty]
  · refine exec_start_done tag hs (s' := s) ?_
    rcases hc with hc | hc | hc <;> simp [State.chillerStart, hc, c, State.doneEmpty]
  · refine exec_refused rfl hs ((onChCmd_start s u).trans ?_)
    rcases hc with hc | hc | hc <;> simp [State.chillerStart, hc, c, State.refuse]

/-- Settles O35, by the state of the unit. -/
theorem chillersStop : Obligations.ChillersStop := by
  refine ⟨fun s tag unit hs h => exec_refused rfl hs (onChCmd_above s h 1), fun s tag u hs => ?_⟩
  intro c s'
  refine ⟨fun hc hm => ?_, fun hc hm => ?_, fun hc => ?_, fun hc => ?_, fun hc => ?_⟩
  · have hstop : s.onChCmd u.val 1 = ((s.stopChiller u).event.recapacity.finish s, .done []) := by
      rw [onChCmd_stop]
      simp [State.chillerStop, hc, c, hm, State.doneEmpty]
    obtain ⟨t, he, ht⟩ := exec_recapped (c := .chCmdStop tag u.val) rfl hs hstop nofun nofun rfl rfl
    obtain ⟨l, hl⟩ := ht.bus
    refine ⟨t, he, ?_, l, hl.trans (List.append_assoc _ _ _)⟩
    rw [ht.kept, ← stop_of_free hm]
    rfl
  · refine exec_stop_done tag hs (s' := s.setChiller u { c with state := .stopHeld }) ?_
    simp [State.chillerStop, hc, c, hm, State.doneEmpty]
  · refine exec_stop_done tag hs (s' := s.setChiller u { c with state := .off }) ?_
    simp [State.chillerStop, hc, c, State.doneEmpty]
  · refine exec_refused rfl hs ((onChCmd_stop s u).trans ?_)
    simp [State.chillerStop, hc, c, State.refuse]
  · refine exec_stop_done tag hs (s' := s) ?_
    rcases hc with hc | hc | hc | hc | hc <;> simp [State.chillerStop, hc, c, State.doneEmpty]

/-! ### CH-DEF (R28, R29) -/

/-- The settings of a chiller that lie in range (Table 2-2). -/
theorem inRange_chiller_iff (c : ChillerSettings) :
    c.inRange = true ↔ c.ratedKw ≤ 20000 ∧ (60 ≤ c.minRun ∧ c.minRun ≤ 3600) ∧ (60 ≤ c.minOff ∧ c.minOff ≤ 3600) ∧
      (60 ≤ c.startConfirm ∧ c.startConfirm ≤ 900) ∧ (60 ≤ c.stopConfirm ∧ c.stopConfirm ≤ 1800) := by
  simp [ChillerSettings.inRange, within, and_assoc]

theorem onChDef_refused (s : State) {f : ChDefFields} (h : 7 < f.unit ∨ f.settings.inRange = false) :
    s.onChDef f = s.refuse .range := by
  unfold State.onChDef
  rcases h with h | h
  · rw [unitOf_above h]
  · cases unitOf f.unit with
    | none => rfl
    | some u => simp [h]

theorem onChDef_accepted (s : State) (u : Fin 8) {c : ChillerSettings} (h : c.inRange = true) :
    s.onChDef ⟨u.val, c⟩ = ((s.defineChiller u c).event.recapacity.finish s, .done []) := by
  simp [State.onChDef, h, State.doneEmpty]

/-- The unit's record and its watch under new settings: a unit no longer fitted is forgotten, and a change of fitting begins or ends the
watch (R26, R29). -/
theorem kept_defineChiller (s : State) (u : Fin 8) (c : ChillerSettings) :
    let old := s.chiller u
    let fitted := decide (0 < old.settings.ratedKw)
    (s.defineChiller u c).kept = { s.kept with
      chillers := s.chillers.set u.val
        (if fitted = true ∧ c.ratedKw = 0 then ⟨c, .unknown, none, none, none, none⟩ else { old with settings := c })
      watches := if fitted = decide (0 < c.ratedKw) then s.watches else s.watches.set u.val ⟨false, 0⟩ } := by
  intro old fitted
  unfold State.defineChiller
  dsimp only
  split
  · next h =>
    have hf : fitted = true := decide_eq_true h.1
    simp only [hf, h.2, setChiller_setChiller, lt_irrefl, decide_false, true_and, if_true, Bool.true_eq_false, if_false]
    rfl
  · next h =>
    have hkeep : ¬ (fitted = true ∧ c.ratedKw = 0) := fun ⟨hf, hc⟩ => h ⟨of_decide_eq_true hf, hc⟩
    rw [if_neg hkeep]
    split
    · next hb =>
      have hne : ¬ fitted = decide (0 < c.ratedKw) := by simp [fitted, old, hb.1, hb.2]
      rw [if_neg hne]
      rfl
    · next hb =>
      have heq : fitted = decide (0 < c.ratedKw) := by
        rw [Bool.eq_iff_iff]
        simp only [fitted, old, decide_eq_true_eq]
        omega
      rw [if_pos heq]
      rfl

theorem quiet_defineChiller {s : State} {u : Fin 8} {c : ChillerSettings} (hf : 0 < (s.chiller u).settings.ratedKw)
    (hc : c.ratedKw = 0) : (s.defineChiller u c).faults.quiet .deviceSilent u.val := by
  unfold State.defineChiller
  rw [if_pos ⟨hf, hc⟩]
  exact quiet_endSilence _ (chillerAddress u)

/-- Settles O33: the range of Table 2-2, and the unit's record and watch under the settings of an accepted CH-DEF. -/
theorem chillersAreDefined : Obligations.ChillersAreDefined := by
  refine ⟨fun s tag f hs h => exec_refused rfl hs (onChDef_refused s ?_), fun s tag u c hs hr => ?_⟩
  · rcases h with h | h
    · exact .inl h
    · refine .inr (Bool.eq_false_iff.mpr fun hr => ?_)
      have := (inRange_chiller_iff _).mp hr
      omega
  · intro old fitted
    have hk := kept_defineChiller s u c
    obtain ⟨t, he, ht⟩ := exec_recapped (c := .chDef tag ⟨u.val, c⟩) rfl hs (onChDef_accepted s u hr) nofun nofun rfl
      (congrArg Kept.link hk :)
    refine ⟨t, he, ?_, fun hf hc => ?_⟩
    · rw [ht.kept, hk]
      rfl
    · exact ht.faults _ (settled_quiet (by decide) (by decide) _) (quiet_defineChiller (of_decide_eq_true hf) hc)

end Sys2Proof.Machine
end

section
/-!
The devices of the plant bus that fall silent (R26, R34, R37, R38), the timers of a chiller that run out (R32), and the reports of the pump
group and of the plant differential pressure transmitter (R25, R38, R167).
-/

namespace Sys2Proof.Machine

/-! ### A device falls silent (R26) -/

/-- The kept part once a device of the plant bus is silent: its own record is forgotten (R34, R37, R38). -/
def Kept.withoutDevice (k : Kept) (a : Fin 11) : Kept :=
  { k with
    chillers := if h : a.val < 8 then k.chillers.set a.val ⟨k.chillers[a.val].settings, .unknown, none, none, none, none⟩
      else k.chillers
    tank := if a = 8 then ⟨none, none, none, false⟩ else k.tank
    pumpGroup := if a = 9 then ⟨false, none⟩ else k.pumpGroup
    plantDp := if a = 10 then none else k.plantDp }

theorem kept_deviceSilent (s : State) (a : Fin 11) : (s.deviceSilent a).kept = s.kept.withoutDevice a := by
  unfold State.deviceSilent Kept.withoutDevice
  by_cases h : a.val < 8
  · have h8 : a ≠ 8 := fun e => by subst e; simp at h
    have h9 : a ≠ 9 := fun e => by subst e; simp at h
    have h10 : a ≠ 10 := fun e => by subst e; simp at h
    simp only [h, h8, h9, h10, dif_pos, if_false, kept_setChiller]
    rfl
  · rw [dif_neg h]
    by_cases h8 : a = 8
    · subst h8; rfl
    · rw [if_neg h8]
      by_cases h9 : a = 9
      · subst h9; rfl
      · have h10 : a = 10 := by omega
        subst h10; rfl

theorem kept_fallSilent (s : State) (a : Fin 11) :
    (s.fallSilent a).kept = { s.kept with watches := s.watches.set a.val ⟨true, 15⟩ }.withoutDevice a := by
  rw [State.fallSilent, kept_deviceSilent, kept_raise]
  rfl

/-- What a device's silence does to its own record touches no fault. -/
theorem faults_deviceSilent (s : State) (a : Fin 11) : (s.deviceSilent a).faults = s.faults := by
  unfold State.deviceSilent
  split
  · rfl
  · split
    · rfl
    · split <;> rfl

theorem shows_fallSilent {s : State} {a : Fin 11} (h : s.faults.records .deviceSilent a.val) :
    (s.fallSilent a).faults.shows .deviceSilent a.val := by
  rw [State.fallSilent, faults_deviceSilent]
  exact shows_raise_self (s := s.setWatch a ⟨true, 15⟩) h

/-- Settles O48: the device's record and its fault, and the end of the event with A worked out again. -/
theorem devicesFallSilent : Obligations.DevicesFallSilent := by
  intro s a hp hw hs
  have hexec : exec (.deviceSilent a) s = .next ((s.fallSilent a).event.recapacity.finish s) :=
    (exec_on (·.silence a) rfl hp).trans (by rw [State.silence, if_pos ⟨hw, hs⟩])
  have ht := recapped_finish (s.fallSilent a) s
  generalize (s.fallSilent a).event.recapacity.finish s = t at hexec ht
  refine ⟨t, hexec, ?_, fun hr => ht.faults _ (settled_shows (by decide) _) (shows_fallSilent hr)⟩
  rw [ht.kept, kept_fallSilent]
  rfl

/-! ### The timers of a chiller run out (R32) -/

section
variable (s : State) (u : Fin 8)

theorem minRunOut_eq :
    s.minRunOut u =
      if (s.chiller u).state = .stopHeld then
        (s.setChiller u { s.chiller u with
          state := .stopping
          minRunTimer := none
          confirmTimer := some (s.chiller u).settings.stopConfirm }).bus (.chillerStop u)
      else s.setChiller u { s.chiller u with minRunTimer := none } := by
  simp [State.minRunOut, State.stopChiller, Chiller.stop]

theorem minOffOut_eq :
    s.minOffOut u =
      if (s.chiller u).state = .startHeld then
        (s.setChiller u { s.chiller u with
          state := .starting
          minOffTimer := none
          confirmTimer := some (s.chiller u).settings.startConfirm }).bus (.chillerRun u)
      else s.setChiller u { s.chiller u with minOffTimer := none } := by
  simp [State.minOffOut, State.runChiller, Chiller.start]

/-- The unit's record once its confirm timer has run out: OFF where a start has failed, and otherwise with the timer stopped. -/
def Chiller.unconfirmed (c : Chiller) : Chiller :=
  if c.state = .starting then
    { c with state := .off, minRunTimer := none, minOffTimer := some c.settings.minOff, confirmTimer := none }
  else { c with confirmTimer := none }

theorem confirmOut_starting (h : (s.chiller u).state = .starting) :
    s.confirmOut u = (s.setChiller u (s.chiller u).unconfirmed).raise .startFailed u.val := by
  simp only [State.confirmOut, Chiller.unconfirmed, h, if_true]
  rfl

theorem confirmOut_stopping (h : (s.chiller u).state = .stopping) :
    s.confirmOut u = (s.setChiller u (s.chiller u).unconfirmed).raise .stopFailed u.val := by
  simp only [State.confirmOut, Chiller.unconfirmed, h, reduceCtorEq, if_false]

theorem confirmOut_other (h : (s.chiller u).state ≠ .starting) (h' : (s.chiller u).state ≠ .stopping) :
    s.confirmOut u = s.setChiller u (s.chiller u).unconfirmed := by
  rw [Chiller.unconfirmed, if_neg h]
  cases hc : (s.chiller u).state <;> simp_all [State.confirmOut]

/-- A confirm timer that runs out writes the unit's record and raises a fault at most. -/
theorem confirmOut_cases :
    s.confirmOut u = s.setChiller u (s.chiller u).unconfirmed ∨
      ∃ k, s.confirmOut u = (s.setChiller u (s.chiller u).unconfirmed).raise k u.val := by
  by_cases h : (s.chiller u).state = .starting
  · exact .inr ⟨_, confirmOut_starting s u h⟩
  · by_cases h' : (s.chiller u).state = .stopping
    · exact .inr ⟨_, confirmOut_stopping s u h'⟩
    · exact .inl (confirmOut_other s u h h')

theorem confirmOut_same :
    (s.confirmOut u).kept = { s.kept with chillers := s.chillers.set u.val (s.chiller u).unconfirmed } ∧
      (s.confirmOut u).busSent = s.busSent ∧ (s.confirmOut u).stations = s.stations ∧
      (s.confirmOut u).branches = s.branches := by
  rcases confirmOut_cases s u with h | ⟨k, h⟩
  · rw [h]
    exact ⟨rfl, rfl, rfl, rfl⟩
  · have hu := unraised_raise (s.setChiller u (s.chiller u).unconfirmed) k u.val
    rw [h]
    exact ⟨kept_raise _ _ _, (congrArg State.busSent hu :), stations_raise _ _ _, branches_raise _ _ _⟩

end

/-- Settles O49: each of the three timers by the state of its unit. -/
theorem chillerTimersRunOut : Obligations.ChillerTimersRunOut := by
  intro s u hp c
  refine ⟨fun hm => ?_, fun hm => ?_, fun hm => ?_⟩
  · have hexec : exec (.minRunExpiry u) s = .next ((s.minRunOut u).event.recapacity.finish s) :=
      (exec_on (·.minRunExpiry u) rfl hp).trans (by rw [State.minRunExpiry, if_pos (Option.isSome_iff_ne_none.mpr hm)])
    have ht := recapped_finish (s.minRunOut u) s
    generalize (s.minRunOut u).event.recapacity.finish s = t at hexec ht
    rw [minRunOut_eq] at ht
    obtain ⟨l, hl⟩ := ht.bus
    refine ⟨t, hexec, ?_, fun hc => ⟨l, ?_⟩⟩
    · rw [ht.kept]
      simp only [c]
      split <;> rfl
    · rw [hl, if_pos hc]
      exact List.append_assoc _ _ _
  · have hexec : exec (.minOffExpiry u) s = .next (s.minOffOut u) :=
      (exec_on (·.minOffExpiry u) rfl hp).trans (by rw [State.minOffExpiry, if_pos (Option.isSome_iff_ne_none.mpr hm)])
    rw [hexec, minOffOut_eq]
    rfl
  · have hexec : exec (.confirmExpiry u) s = .next (s.confirmOut u).judgeRelay :=
      (exec_on (·.confirmExpiry u) rfl hp).trans (by rw [State.confirmExpiry, if_pos (Option.isSome_iff_ne_none.mpr hm)])
    obtain ⟨hk, hbus, hstn, hbr⟩ := confirmOut_same s u
    refine ⟨_, hexec, (kept_judgeRelay _).trans hk, hbus, hstn, hbr, fun hc hr => ?_, fun hc hr => ?_⟩
    · rw [confirmOut_starting s u hc]
      exact shows_raise_self (s := s.setChiller u (s.chiller u).unconfirmed) hr
    · rw [confirmOut_stopping s u hc]
      exact shows_raise_self (s := s.setChiller u (s.chiller u).unconfirmed) hr

/-! ### The pump group and the plant DP (R38, R167) -/

/-- A speed clamped into the range of the pump settings, in whole numbers (R167). -/
theorem clamp_natCast (p : PumpSettings) (v : Nat) : p.clamp v = max p.minSpeed (min v p.maxSpeed) := by
  unfold PumpSettings.clamp
  omega

/-- The state with a pump report recorded, before its speed is looked at. -/
def State.pumpHeard (s : State) (running : Bool) (speed : Option Nat) : State :=
  { s.endSilence pumpAddress with pumpGroup := ⟨running, speed⟩ }

/-- The state with a speed command, and commands put on the plant bus. -/
def State.drivePumps (s : State) (speed : Option Nat) (l : List BusCommand) : State :=
  { s with
    pressure := { s.pressure with speed := speed }
    busSent := s.busSent ++ l }

theorem kept_pumpHeard (s : State) (running : Bool) (speed : Option Nat) :
    (s.pumpHeard running speed).kept = { s.kept with
      pumpGroup := ⟨running, speed⟩
      watches := s.watches.set 9 ⟨false, 0⟩ } := rfl

theorem kept_drivePumps (s : State) (v : Option Nat) (l : List BusCommand) :
    (s.drivePumps v l).kept = { s.kept with speed := v } := rfl

theorem drivePumps_self {s : State} {v : Option Nat} (h : s.pressure.speed = v) : s.drivePumps v [] = s := by
  subst h
  simp [State.drivePumps]

theorem drivePumps_bus {s : State} {v : Option Nat} (h : s.pressure.speed = v) (c : BusCommand) :
    s.drivePumps v [c] = s.bus c := by
  subst h
  rfl

theorem drivePumps_setSpeed (s : State) (v : Nat) : s.drivePumps (some v) [] = s.setSpeed v := by
  simp [State.drivePumps, State.setSpeed]

/-- The speed command after a pump report: the reported speed is adopted, clamped, while the command is none (R167). -/
def State.speedAfter (s : State) (present : Option Nat) : Option Nat :=
  match s.pressure.speed with
  | some c => some c
  | none => present.map fun v => max s.pressure.pump.minSpeed (min v s.pressure.pump.maxSpeed)

/-- What a pump report has sent: the command again after a silence, or the clamp of an adopted speed (R167). -/
def State.pumpSets (s : State) (present : Option Nat) : List BusCommand :=
  match s.pressure.speed, present with
  | some c, _ => if (s.watch pumpAddress).silent then [.pumpSet c] else []
  | none, some v =>
    if max s.pressure.pump.minSpeed (min v s.pressure.pump.maxSpeed) = v then []
    else [.pumpSet (max s.pressure.pump.minSpeed (min v s.pressure.pump.maxSpeed))]
  | none, none => []

/-- The cases of R167 over a report recorded. -/
theorem pumpReport_heard (s : State) (running : Bool) (speed : Nat) :
    s.pumpReport running speed =
      let v := s.pumpHeard running (pumpSpeedOf speed)
      match s.pressure.speed, pumpSpeedOf speed with
      | none, none => v
      | none, some x =>
        if s.pressure.pump.clamp x = x then v.setSpeed (s.pressure.pump.clamp x)
        else (v.setSpeed (s.pressure.pump.clamp x)).bus (.pumpSet (s.pressure.pump.clamp x))
      | some c, _ => if (s.watch pumpAddress).silent then v.bus (.pumpSet c) else v := rfl

/-- A pump report writes the record, the watch and the speed command, and puts no more than a PUMP-SET on the plant bus. -/
theorem pumpReport_eq (s : State) (running : Bool) (speed : Nat) :
    s.pumpReport running speed =
      (s.pumpHeard running (pumpSpeedOf speed)).drivePumps (s.speedAfter (pumpSpeedOf speed)) (s.pumpSets (pumpSpeedOf speed)) := by
  rw [pumpReport_heard]
  unfold State.speedAfter State.pumpSets
  generalize pumpSpeedOf speed = present
  have hv : (s.pumpHeard running present).pressure.speed = s.pressure.speed := rfl
  generalize s.pumpHeard running present = v at hv
  cases hs : s.pressure.speed with
  | some c =>
    rw [hs] at hv
    dsimp only
    split
    · exact (drivePumps_bus hv _).symm
    · exact (drivePumps_self hv).symm
  | none =>
    rw [hs] at hv
    cases present with
    | none => exact (drivePumps_self hv).symm
    | some x =>
      dsimp only
      rw [clamp_natCast, Option.map_some]
      split
      · exact (drivePumps_setSpeed v _).symm
      · exact (drivePumps_bus (s := v.setSpeed _) rfl _).symm

theorem kept_plantDpReport (s : State) (dp : Nat) :
    (s.plantDpReport dp).kept = { s.kept with
      plantDp := if dp ≤ 6000 then some ⟨dp, 0⟩ else s.plantDp
      watches := s.watches.set 10 ⟨false, 0⟩ } := by
  unfold State.plantDpReport measured
  by_cases h : dp ≤ 6000
  · simp only [h, if_true]
    rfl
  · simp only [h, if_false]
    rfl

/-- A plant DP report writes the plant DP and the watch alone. -/
theorem plantDpReport_same (s : State) (dp : Nat) :
    (s.plantDpReport dp).stations = s.stations ∧ (s.plantDpReport dp).branches = s.branches ∧
      (s.plantDpReport dp).busSent = s.busSent ∧
      (s.plantDpReport dp).faults = (s.endSilence transmitterAddress).faults := by
  unfold State.plantDpReport
  dsimp only
  split <;> exact ⟨rfl, rfl, rfl, rfl⟩

/-- The judging of the pressures keeps of a fault list what the end of an event keeps of it. -/
theorem FaultList.Settled.finishPressure {P : FaultList → Prop} (hP : FaultList.Settled P) {s : State} (h : P s.faults)
    (before : State) : P (s.finishPressure before).faults := by
  have hp := hP.judgePressure h before.pressure.ref
  unfold State.finishPressure
  generalize s.judgePressure before.pressure.ref = v at hp
  exact hP.relay v.faults _ hp

/-- Settles O52: each report by what it writes, before the relay or the pressures are judged. -/
theorem pumpsAndTransmitterReport : Obligations.PumpsAndTransmitterReport := by
  intro s hp
  refine ⟨fun running speed => ?_, fun dp => ?_, exec_on (fun s => s) rfl hp⟩
  · intro present clamp
    have hexec : exec (.pumpReport running speed) s = .next (s.pumpReport running speed).judgeRelay :=
      exec_on (fun s => (s.pumpReport running speed).judgeRelay) rfl hp
    have hk : (s.pumpReport running speed).judgeRelay.kept = { s.kept with
        pumpGroup := ⟨running, pumpSpeedOf speed⟩
        watches := s.watches.set 9 ⟨false, 0⟩
        speed := s.speedAfter (pumpSpeedOf speed) } := by
      rw [kept_judgeRelay, pumpReport_eq, kept_drivePumps, kept_pumpHeard]
    have hbus : (s.pumpReport running speed).busSent = s.busSent ++ s.pumpSets (pumpSpeedOf speed) := by
      rw [pumpReport_eq]
      rfl
    have hq : (s.pumpReport running speed).faults.quiet .deviceSilent 9 := by
      rw [pumpReport_eq]
      exact quiet_endSilence s pumpAddress
    have hsame : (s.pumpReport running speed).stations = s.stations ∧ (s.pumpReport running speed).branches = s.branches := by
      rw [pumpReport_eq]
      exact ⟨rfl, rfl⟩
    exact ⟨_, hexec, hk, hbus, hsame.1, hsame.2, hq⟩
  · have hexec : exec (.plantDpReport dp) s = .next ((s.plantDpReport dp).finishPressure s) :=
      exec_on (fun s => (s.plantDpReport dp).finishPressure s) rfl hp
    obtain ⟨hstn, hbr, hbus, hf⟩ := plantDpReport_same s dp
    have hq := quiet_endSilence s transmitterAddress
    rw [← hf] at hq
    have hk := (kept_finishPressure (s.plantDpReport dp) s).trans (kept_plantDpReport s dp)
    have hu := unjudged_finishPressure (s.plantDpReport dp) s
    have hquiet := (settled_quiet (by decide) (by decide) _).finishPressure hq s
    generalize (s.plantDpReport dp).finishPressure s = t at hexec hk hu hquiet
    obtain ⟨ubus, ubr⟩ := busSent_of_unjudged hu
    exact ⟨t, hexec, hk, (congrArg State.stations hu :).trans hstn, ubr.trans hbr, ubus.trans hbus, hquiet⟩

end Sys2Proof.Machine
end

section
/-!
The tank's reports (R25, R26, R35, R36): the record, storage_enabled with STORAGE_RESERVE, and the tank command of the event's end (R48 to
R50).
-/

namespace Sys2Proof.Machine

/-! ### The storage command at the end of an event (R48, R49) -/

/-- Where the end of an event works the storage command out again, the allowance is R47's and the tank command is settled. -/
theorem storage_settle {e : Event} {before : State} {t r : Bool}
    (h : t = true ∨ (allocate e).arbitrateAll.storageInputs ≠ before.storageInputs)
    (hl : e.st.lastTankCommand = before.lastTankCommand) (hb : e.st.busSent = before.busSent) :
    ((allocate e).settle before t r).chargeAllowance = ((allocate e).settle before t r).chargeNow ∧
      before.tankSettled ((allocate e).settle before t r) r := by
  obtain ⟨-, al, ab, -⟩ := pressure_allocate e
  obtain ⟨ul, ub⟩ := last_of_unsent (unsent_arbitrateAll (allocate e))
  have hu := unjudged_settle (allocate e) before t r
  generalize (allocate e).settle before t r = w at hu
  exact storage_of_touched rfl h (ul.trans (al.trans hl)) (ub.trans (ab.trans hb)) hu

/-! ### storage_enabled and its fault (R36) -/

/-- Writes storage_enabled, its fault left alone. -/
def State.withStorage (s : State) (on : Bool) : State := { s with tank := { s.tank with enabled := on } }

/-- From `s` to `t` storage_enabled has been judged to be `on`: nothing else but STORAGE_RESERVE has moved. -/
structure StorageJudged (on : Bool) (s t : State) : Prop where
  kept : t.kept = { s.kept with tank := { s.tank with enabled := on } }
  last : t.lastTankCommand = s.lastTankCommand
  bus : t.busSent = s.busSent
  silence : ∀ x, s.faults.quiet .deviceSilent x → t.faults.quiet .deviceSilent x

theorem withStorage_judged (s : State) (on : Bool) : StorageJudged on s (s.withStorage on) := ⟨rfl, rfl, rfl, fun _ => id⟩

section
variable {on : Bool} {s t : State} (h : StorageJudged on s t)
include h

theorem StorageJudged.raise : StorageJudged on s (t.raise .storageReserve storageSubject) where
  kept := (kept_raise _ _ _).trans h.kept
  last := (congrArg State.lastTankCommand (unraised_raise t _ _) :).trans h.last
  bus := (congrArg State.busSent (unraised_raise t _ _) :).trans h.bus
  silence x hx := quiet_raise (by decide) (h.silence x hx)

theorem StorageJudged.endCondition : StorageJudged on s (t.endCondition .storageReserve storageSubject) where
  kept := (kept_endCondition _ _ _).trans h.kept
  last := h.last
  bus := h.bus
  silence x hx := quiet_endActive (h.silence x hx) _

end

theorem enableStorage_judged (s : State) (on : Bool) : StorageJudged on s (s.enableStorage on) := by
  have h := withStorage_judged s on
  unfold State.enableStorage
  dsimp only
  split
  · exact h.raise
  · exact h.endCondition
  · exact h
  · exact h

theorem firstStorage_judged (s : State) (soc : Nat) :
    StorageJudged (decide (s.plant.reserveHigh ≤ soc)) s (s.firstStorage soc) := by
  have h := withStorage_judged s (decide (s.plant.reserveHigh ≤ soc))
  unfold State.firstStorage
  dsimp only
  split <;> split
  · exact h.endCondition.raise
  · exact h.raise
  · exact h.endCondition
  · exact h

/-- storage_enabled turns to no: STORAGE_RESERVE is raised. -/
theorem shows_enableStorage {s : State} (h : s.tank.enabled = true) (hr : s.faults.records .storageReserve 8) :
    (s.enableStorage false).faults.shows .storageReserve 8 := by
  unfold State.enableStorage
  rw [h]
  exact shows_raise_self (s := s.withStorage false) hr

/-- storage_enabled turns to yes: STORAGE_RESERVE ends. -/
theorem quiet_enableStorage {s : State} (h : s.tank.enabled = false) :
    (s.enableStorage true).faults.quiet .storageReserve 8 := by
  unfold State.enableStorage
  rw [h]
  exact quiet_endCondition (s.withStorage true) _ _

/-- storage_enabled stays: no fault is touched. -/
theorem faults_enableStorage {s : State} {on : Bool} (h : on = s.tank.enabled) : (s.enableStorage on).faults = s.faults := by
  unfold State.enableStorage
  rw [h]
  cases s.tank.enabled <;> rfl

/-- A first report at or below reserve_low, the storage not enabled by it, raises STORAGE_RESERVE. -/
theorem shows_firstStorage {s : State} {soc : Nat} (hlow : soc ≤ s.plant.reserveLow) (hhigh : soc < s.plant.reserveHigh)
    (hr : s.faults.records .storageReserve 8) : (s.firstStorage soc).faults.shows .storageReserve 8 := by
  have hn : ¬ decide (s.plant.reserveHigh ≤ soc) = true := by simpa using hhigh
  unfold State.firstStorage
  dsimp only
  rw [if_pos hlow, if_neg hn]
  exact shows_raise_self (s := s.withStorage (decide (s.plant.reserveHigh ≤ soc))) hr

/-- A first report that enables the storage, above reserve_low, ends STORAGE_RESERVE. -/
theorem quiet_firstStorage {s : State} {soc : Nat} (hhigh : s.plant.reserveHigh ≤ soc) (hlow : s.plant.reserveLow < soc) :
    (s.firstStorage soc).faults.quiet .storageReserve 8 := by
  unfold State.firstStorage
  dsimp only
  rw [if_neg (by omega), if_pos (decide_eq_true hhigh)]
  exact quiet_endCondition (s.withStorage (decide (s.plant.reserveHigh ≤ soc))) _ _

/-! ### A tank report (R36) -/

section
variable (s : State) (soc : Nat) (mode : TankMode) (rate : Nat)

/-- storage_enabled after a report of the state of charge `v`: from reserve_high alone at the first report, and by hysteresis after it. -/
def State.storageAfter (s : State) (v : Nat) : Bool :=
  if s.tank.soc = none then decide (s.plant.reserveHigh ≤ v)
  else if s.plant.reserveHigh ≤ v then true
  else if v ≤ s.plant.reserveLow then false else s.tank.enabled

/-- The state with a tank report recorded, before storage_enabled is judged. -/
def State.tankHeard : State :=
  { s.endSilence tankAddress with
    tank := ⟨some (min soc s.plant.tankCapacity), some mode, presentKw rate, s.tank.enabled⟩ }

/-- A report after the state of charge was absent. -/
theorem tankReport_first (h : s.tank.soc = none) :
    s.tankReport soc mode rate = (s.tankHeard soc mode rate).firstStorage (min soc s.plant.tankCapacity) := by
  have hf : s.tank.soc.isNone = true := by rw [h]; rfl
  unfold State.tankReport
  dsimp only
  rw [if_pos hf]
  rfl

/-- A report after another: storage_enabled by hysteresis. -/
theorem tankReport_next (h : s.tank.soc ≠ none) :
    s.tankReport soc mode rate =
      (s.tankHeard soc mode rate).enableStorage (s.storageAfter (min soc s.plant.tankCapacity)) := by
  have hf : ¬ s.tank.soc.isNone = true := by simpa using h
  unfold State.tankReport State.storageAfter
  dsimp only
  rw [if_neg hf, if_neg h]
  rfl

theorem tankReport_judged :
    StorageJudged (s.storageAfter (min soc s.plant.tankCapacity)) (s.tankHeard soc mode rate)
      (s.tankReport soc mode rate) := by
  by_cases h : s.tank.soc = none
  · rw [tankReport_first s soc mode rate h, State.storageAfter, if_pos h]
    exact firstStorage_judged (s.tankHeard soc mode rate) _
  · rw [tankReport_next s soc mode rate h]
    exact enableStorage_judged _ _

theorem records_tankHeard (h : s.faults.records .storageReserve 8) :
    (s.tankHeard soc mode rate).faults.records .storageReserve 8 :=
  records_endActive h fun e he => by simp [FaultEntry.names, he]

theorem ofKind_tankHeard :
    (s.tankHeard soc mode rate).faults.ofKind .storageReserve = s.faults.ofKind .storageReserve :=
  ofKind_endActive s.faults fun e he => by simp [FaultEntry.names, he]

variable {s soc}

/-- A report at or below reserve_low raises STORAGE_RESERVE, the first one or one that turns storage_enabled to no. -/
theorem shows_tankReport (hlow : min soc s.plant.tankCapacity ≤ s.plant.reserveLow)
    (hhigh : min soc s.plant.tankCapacity < s.plant.reserveHigh) (h : s.tank.soc = none ∨ s.tank.enabled = true)
    (hr : s.faults.records .storageReserve 8) : (s.tankReport soc mode rate).faults.shows .storageReserve 8 := by
  have hh := records_tankHeard s soc mode rate hr
  by_cases hs : s.tank.soc = none
  · rw [tankReport_first s soc mode rate hs]
    exact shows_firstStorage hlow hhigh hh
  · have hon : s.storageAfter (min soc s.plant.tankCapacity) = false := by
      rw [State.storageAfter, if_neg hs, if_neg (by omega), if_pos hlow]
    rw [tankReport_next s soc mode rate hs, hon]
    exact shows_enableStorage (h.resolve_left hs) hh

/-- A report at or above reserve_high ends STORAGE_RESERVE, the first one or one that turns storage_enabled to yes. -/
theorem quiet_tankReport (hhigh : s.plant.reserveHigh ≤ min soc s.plant.tankCapacity)
    (h : (s.tank.soc = none ∧ s.plant.reserveLow < min soc s.plant.tankCapacity) ∨
      (s.tank.soc ≠ none ∧ s.tank.enabled = false)) :
    (s.tankReport soc mode rate).faults.quiet .storageReserve 8 := by
  rcases h with ⟨hs, hlow⟩ | ⟨hs, hoff⟩
  · rw [tankReport_first s soc mode rate hs]
    exact quiet_firstStorage hhigh hlow
  · have hon : s.storageAfter (min soc s.plant.tankCapacity) = true := by
      rw [State.storageAfter, if_neg hs, if_pos hhigh]
    rw [tankReport_next s soc mode rate hs, hon]
    exact quiet_enableStorage hoff

/-- A report that leaves storage_enabled as it was leaves STORAGE_RESERVE alone. -/
theorem ofKind_tankReport (hs : s.tank.soc ≠ none) (h : s.storageAfter (min soc s.plant.tankCapacity) = s.tank.enabled) :
    (s.tankReport soc mode rate).faults.ofKind .storageReserve = s.faults.ofKind .storageReserve := by
  rw [tankReport_next s soc mode rate hs, faults_enableStorage (s := s.tankHeard soc mode rate) h, ofKind_tankHeard]

end

theorem watched_tank (s : State) : s.watched tankAddress = decide (0 < s.plant.tankCapacity) := rfl

/-- Settles O51: the report by what it records and judges, then the end of the event with the storage command worked out again. -/
theorem theTankReports : Obligations.TheTankReports := by
  intro s soc mode rate hp
  have hon : exec (.tankReport soc mode rate) s = .next (if s.watched tankAddress then
      (allocate (s.tankReport soc mode rate).event.recapacity).settle s true true else s) :=
    exec_on (fun s => if s.watched tankAddress then
      (allocate (s.tankReport soc mode rate).event.recapacity).settle s true true else s) rfl hp
  rw [watched_tank] at hon
  refine ⟨fun hc => by rw [hon, hc]; rfl, fun hc => ?_⟩
  intro v
  rw [if_pos (decide_eq_true hc)] at hon
  have hj := tankReport_judged s soc mode rate
  have hshows := shows_tankReport (s := s) (soc := soc) mode rate
  have hquiet := quiet_tankReport (s := s) (soc := soc) mode rate
  have hkind := ofKind_tankReport (s := s) (soc := soc) mode rate
  generalize s.tankReport soc mode rate = w at hon hj hshows hquiet hkind
  have ht := recapped_settle w s true true
  have hstore := storage_settle (e := w.event.recapacity) (before := s) (t := true) (r := true) (.inl rfl) hj.last hj.bus
  generalize (allocate w.event.recapacity).settle s true true = t at hon ht hstore
  obtain ⟨hcharge, htank⟩ := hstore
  have henabled : t.tank.enabled = s.storageAfter v :=
    (congrArg (fun k => k.tank.enabled) ht.kept :).trans (congrArg (fun k => k.tank.enabled) hj.kept :)
  refine ⟨t, hon, ?_, hcharge, ?_, htank, fun hlow hhigh h hr => ?_, fun hhigh h => ?_, fun hs h => ?_⟩
  · rw [ht.kept, hj.kept]
    rfl
  · exact ht.faults _ (settled_quiet (by decide) (by decide) _) (hj.silence _ (quiet_endSilence s tankAddress))
  · exact ht.faults _ (settled_shows (by decide) _) (hshows hlow hhigh h hr)
  · exact ht.faults _ (settled_quiet (by decide) (by decide) _) (hquiet hhigh h)
  · exact ht.faults _ (settled_ofKind (by decide) (by decide) _) (hkind hs (henabled.symm.trans h))

end Sys2Proof.Machine
end

section
/-!
PLANT-DEF (R35, R36, R39, R57, R69, R76, R77): the tank refitted and judged under the settings in place, A worked out again, the recomputes of
a changed dt_floor, the pass and the tank command.
-/

namespace Sys2Proof.Machine

/-! ### The checks -/

/-- The settings of PLANT-DEF that lie in range (R13, R35, R39, R49, R57, R76). -/
theorem inRange_plant_iff (p : PlantSettings) :
    p.inRange = true ↔ p.margin ≤ 20000 ∧ (10 ≤ p.quantum ∧ p.quantum ≤ 2000) ∧ (10 ≤ p.dtFloor ∧ p.dtFloor ≤ 100) ∧
      p.lostHold ≤ 3600 ∧ p.tankCapacity ≤ 400000 ∧ p.maxDischarge ≤ 60000 ∧
      (p.tankCapacity = 0 ∨ p.reserveLow < p.reserveHigh ∧ p.reserveHigh ≤ p.tankCapacity) ∧
      (10 ≤ p.chargeStep ∧ p.chargeStep ≤ 2000) := by
  simp [PlantSettings.inRange, within, and_assoc]

/-! ### The tank under new settings (R35, R36) -/

/-- The tank's condition under a capacity, with the capacity before it: forgotten where the tank is fitted or removed, and otherwise with
the state of charge clamped and storage_enabled judged. -/
def Tank.refitted (k : Tank) (old : Nat) (p : PlantSettings) : Tank :=
  if old = 0 ∧ p.tankCapacity = 0 then k
  else if old = 0 ∨ p.tankCapacity = 0 then ⟨none, none, none, false⟩
  else match k.soc with
    | none => k
    | some v =>
      let v := min v p.tankCapacity
      { k with
        soc := some v
        enabled := if p.reserveHigh ≤ v then true else if v ≤ p.reserveLow then false else k.enabled }

theorem kept_refitTank (s : State) (old : Nat) :
    (s.refitTank old).kept = { s.kept with
      tank := s.tank.refitted old s.plant
      watches := if decide (old = 0) = decide (s.plant.tankCapacity = 0) then s.watches else s.watches.set 8 ⟨false, 0⟩ } := by
  unfold State.refitTank Tank.refitted
  by_cases hc : s.plant.tankCapacity = 0 <;> by_cases ho : old = 0
  · simp only [hc, ho, if_true, and_self]
    rfl
  · simp only [hc, ho, if_true, if_false, false_and, or_true, decide_true, decide_false, Bool.false_eq_true]
    rfl
  · simp only [hc, ho, if_true, if_false, and_false, or_false, decide_true, decide_false, Bool.true_eq_false]
    rfl
  · simp only [hc, ho, if_true, if_false, and_self, or_self, decide_false]
    cases hs : s.tank.soc with
    | none => rfl
    | some v => exact (enableStorage_judged _ _).kept

/-- Where the tank stays fitted or unfitted, and where it is removed, the last tank command stays (R50). -/
theorem storage_refitTank {s : State} {old : Nat} (h : old ≠ 0) :
    (s.refitTank old).lastTankCommand = s.lastTankCommand ∧ (s.refitTank old).busSent = s.busSent := by
  unfold State.refitTank
  rw [if_neg h, if_neg h]
  split
  · exact ⟨rfl, rfl⟩
  · cases s.tank.soc with
    | none => exact ⟨rfl, rfl⟩
    | some v => exact ⟨(enableStorage_judged _ _).last, (enableStorage_judged _ _).bus⟩

/-! ### The recomputes (R69) -/

/-- A recompute touches neither the tank command nor the plant bus, and takes back no pass called for. -/
theorem recompute_same (e : Event) (n : Fin 48) :
    (e.recompute n).st.lastTankCommand = e.st.lastTankCommand ∧ (e.recompute n).st.busSent = e.st.busSent ∧
      (e.pass = true → (e.recompute n).pass = true) := by
  unfold Event.recompute
  simp only [callPass_st, callPass_pass]
  refine ⟨?_, ?_, fun h => by rw [h]; rfl⟩
  · split
    · exact (congrArg State.lastTankCommand (ungranted_handGrant _ n) :)
    · rfl
  · split
    · exact (congrArg State.busSent (ungranted_handGrant _ n) :)
    · rfl

theorem recomputeAll_same (e : Event) :
    e.recomputeAll.st.lastTankCommand = e.st.lastTankCommand ∧ e.recomputeAll.st.busSent = e.st.busSent ∧
      (e.pass = true → e.recomputeAll.pass = true) := by
  unfold Event.recomputeAll
  induction allStations generalizing e with
  | nil => exact ⟨rfl, rfl, id⟩
  | cons n l ih =>
    obtain ⟨h1, h2, h3⟩ := ih (e.recomputeExact n)
    have hn : (e.recomputeExact n).st.lastTankCommand = e.st.lastTankCommand ∧
        (e.recomputeExact n).st.busSent = e.st.busSent ∧ (e.pass = true → (e.recomputeExact n).pass = true) := by
      unfold Event.recomputeExact
      split
      · exact recompute_same e n
      · exact ⟨rfl, rfl, id⟩
    rw [List.foldl_cons]
    exact ⟨h1.trans hn.1, h2.trans hn.2.1, fun h => h3 (hn.2.2 h)⟩

/-! ### An accepted PLANT-DEF -/

theorem maxDischarge_of_inputs {s t : State} (h : t.storageInputs = s.storageInputs) :
    t.plant.maxDischarge = s.plant.maxDischarge := (congrArg StorageInputs.maxDischarge h :)

/-- An event that changes max discharge has the tank command worked out again (R46, R49). -/
theorem tankSettled_finish {e : Event} {before : State} (hd : e.st.plant.maxDischarge ≠ before.plant.maxDischarge)
    (hl : e.st.lastTankCommand = before.lastTankCommand) (hb : e.st.busSent = before.busSent) :
    before.tankSettled (e.finish before) false := by
  have hplant : (allocate e).arbitrateAll.plant = e.st.plant :=
    plant_of_kept ((kept_arbitrateAll _).trans (kept_allocate e))
  have hin : (allocate e).arbitrateAll.storageInputs ≠ before.storageInputs := fun he =>
    hd (by rw [← hplant, maxDischarge_of_inputs he])
  have h := storage_settle (t := e.pass || e.st.shedCalled) (r := false) (.inr hin) hl hb
  rw [← Event.finish] at h
  exact h.2

section
variable (s : State) (p : PlantSettings)

/-- The state with the settings in place and the tank refitted to them. -/
def State.replanted : State := { s with plant := p }.refitTank s.plant.tankCapacity

theorem kept_replanted :
    (s.replanted p).kept = { s.kept with
      plant := p
      tank := s.tank.refitted s.plant.tankCapacity p
      watches := if decide (s.plant.tankCapacity = 0) = decide (p.tankCapacity = 0) then s.watches
        else s.watches.set 8 ⟨false, 0⟩ } := kept_refitTank { s with plant := p } _

/-- The event with the settings and A in place, and the recomputes of a changed dt_floor made. -/
def State.recomputedPlant : Event :=
  if s.plant.dtFloor = p.dtFloor then (s.replanted p).event.recapacity else (s.replanted p).event.recapacity.recomputeAll

theorem applyPlant_eq :
    s.event.applyPlant p = (s.recomputedPlant p).callPass (decide (s.plant.quantum ≠ p.quantum)) := rfl

theorem kept_recomputedPlant :
    (s.recomputedPlant p).st.kept = { (s.replanted p).kept with
      capacity := (s.replanted p).capacityNow
      storageDischarge := (s.replanted p).dischargeNow
      stations := fun n =>
        if s.plant.dtFloor ≠ p.dtFloor ∧ (s.stn n).state = .active then
          { s.stn n with grantDt := (s.stn n).effectiveDt p.dtFloor : Station }.stable
        else (s.stn n).stable } := by
  have hk := kept_replanted s p
  have hst (n : Fin 48) : ((s.replanted p).stn n).stable = (s.stn n).stable := (congrFun (congrArg Kept.stations hk) n :)
  have hp : (s.replanted p).plant = p := (congrArg Kept.plant hk :)
  unfold State.recomputedPlant
  split
  · next h =>
    rw [kept_recapacity, event_st]
    simp only [h, ne_eq, not_true_eq_false, false_and, if_false, ← hst]
    rfl
  · next h =>
    have hr := kept_recomputeAll (s.replanted p).event.recapacity
    rw [hr, kept_recapacity, event_st]
    refine congrArg (Kept.withStations _) (funext fun n => ?_)
    show ((s.replanted p).stn n).stable.recomputed (s.replanted p).plant.dtFloor = _
    rw [hst, hp, ← stable_recomputed, Station.recomputed]
    simp only [ne_eq, h, not_false_eq_true, true_and]
    exact apply_ite Station.stable _ _ _

/-- A raised A calls for a pass, which the recomputes leave called for (R77). -/
theorem pass_recomputedPlant (h : s.capacity < (s.replanted p).capacityNow) : (s.recomputedPlant p).pass = true := by
  have hc : (s.replanted p).capacity = s.capacity := (congrArg Kept.capacity (kept_replanted s p) :)
  have hpass : (s.replanted p).event.recapacity.pass = true := by
    simp [Event.recapacity, hc, h]
  unfold State.recomputedPlant
  split
  · exact hpass
  · exact (recomputeAll_same _).2.2 hpass

theorem storage_recomputedPlant (h : s.plant.tankCapacity ≠ 0) :
    (s.recomputedPlant p).st.lastTankCommand = s.lastTankCommand ∧ (s.recomputedPlant p).st.busSent = s.busSent := by
  have hr : (s.replanted p).lastTankCommand = s.lastTankCommand ∧ (s.replanted p).busSent = s.busSent := storage_refitTank h
  unfold State.recomputedPlant
  split
  · exact hr
  · obtain ⟨h1, h2, -⟩ := recomputeAll_same (s.replanted p).event.recapacity
    exact ⟨h1.trans hr.1, h2.trans hr.2⟩

end

theorem onPlantDef_accepted (s : State) {p : PlantSettings} (h : p.inRange = true) :
    s.onPlantDef p = ((s.event.applyPlant p).finish s, .done []) := by
  simp [State.onPlantDef, h, State.doneEmpty]

theorem onPlantDef_refused (s : State) {p : PlantSettings} (h : p.inRange = false) : s.onPlantDef p = s.refuse .range := by
  simp [State.onPlantDef, h]

/-- An accepted PLANT-DEF up to its end: what it keeps and replaces, the pass, and the tank command of a changed max discharge. -/
theorem applyPlant_finish (s : State) (p : PlantSettings) :
    let t := (s.event.applyPlant p).finish s
    t.kept = { (s.replanted p).kept with
      capacity := t.capacityNow
      storageDischarge := t.dischargeNow
      stations := fun n =>
        if s.plant.dtFloor ≠ p.dtFloor ∧ (s.stn n).state = .active then
          { s.stn n with grantDt := (s.stn n).effectiveDt p.dtFloor : Station }.stable
        else (s.stn n).stable } ∧
    (10 ≤ p.quantum → s.plant.quantum ≠ p.quantum ∨ s.capacity < t.capacity → t.passEnded) ∧
    (s.plant.tankCapacity ≠ 0 → s.plant.maxDischarge ≠ p.maxDischarge → s.tankSettled t false) := by
  intro t
  have ht : t = ((s.recomputedPlant p).callPass (decide (s.plant.quantum ≠ p.quantum))).finish s := rfl
  have hk : t.kept = (s.recomputedPlant p).st.kept := by rw [ht, kept_finish, callPass_st]
  have hrec := kept_recomputedPlant s p
  have hplant : (s.recomputedPlant p).st.plant = p := (congrArg Kept.plant (hrec.trans (by rw [kept_replanted])) :)
  have hnow := capacityNow_of_kept (s := s.replanted p) (t := t) (congrArg Kept.chillers (hk.trans hrec) :)
    (congrArg Kept.clock (hk.trans hrec) :) (congrArg Kept.schedule (hk.trans hrec) :) (congrArg Kept.tank (hk.trans hrec) :)
    (congrArg Kept.plant (hk.trans hrec) :)
  refine ⟨by rw [hk, hrec, hnow.1, hnow.2], fun hq h => ?_, fun hcap hd => ?_⟩
  · have hpass : ((s.recomputedPlant p).callPass (decide (s.plant.quantum ≠ p.quantum))).pass = true := by
      rw [callPass_pass, Bool.or_eq_true]
      refine h.symm.imp (fun h => pass_recomputedPlant s p ?_) decide_eq_true
      rwa [show t.capacity = (s.replanted p).capacityNow from (congrArg Kept.capacity (hk.trans hrec) :)] at h
    rw [ht]
    exact passEnded_settle (passEnded_allocate hpass (by rw [callPass_st, hplant]; omega)) s _ _
  · obtain ⟨hl, hb⟩ := storage_recomputedPlant s p hcap
    rw [ht]
    exact tankSettled_finish (by rw [callPass_st, hplant]; exact hd.symm) (by rw [callPass_st]; exact hl)
      (by rw [callPass_st]; exact hb)

/-- An answer neither sends a tank command nor changes what it is worked out from. -/
theorem tankSettled_answeredOnly {s w : State} {r : Bool} (h : s.tankSettled w r) (tag : Nat) (a : Reply) :
    s.tankSettled (State.answeredOnly { w with session := none } tag a) r := by
  have hslot : (State.answeredOnly { w with session := none } tag a).slotNow = w.slotNow := rfl
  unfold State.tankSettled at h ⊢
  rw [hslot]
  exact h

/-- Settles O36: the range, and an accepted PLANT-DEF by the end of its event. -/
theorem plantIsDefined : Obligations.PlantIsDefined := by
  refine fun s tag p hs => ⟨fun h => exec_refused rfl hs (onPlantDef_refused s ?_), fun hr => ?_⟩
  · refine Bool.eq_false_iff.mpr fun hr => ?_
    have := (inRange_plant_iff p).mp hr
    omega
  · intro old
    have hfin := applyPlant_finish s p
    have hon := onPlantDef_accepted s hr
    dsimp only at hfin
    generalize (s.event.applyPlant p).finish s = w at hfin hon
    obtain ⟨hk, hpass, htank⟩ := hfin
    have hrep := kept_replanted s p
    have hlink : w.link.kept = s.link.kept := (congrArg Kept.link (hk.trans (by rw [hrep])) :)
    obtain ⟨hexec, hkept⟩ := exec_request (c := .plantDef tag p) rfl hs hon nofun nofun rfl rfl hlink
    obtain ⟨hsame, -⟩ := answeredOnly_same w tag (.done [])
    have hq := (inRange_plant_iff p).mp hr
    refine ⟨_, hexec, ?_, fun h => hsame.passEnded (hpass hq.2.1.1 h), fun hcap hd => tankSettled_answeredOnly (htank hcap hd) tag _⟩
    rw [hkept, hk, hrep]
    rfl

end Sys2Proof.Machine
end

section
/-!
A capacity shed as a whole (R100 to R107): it cuts the grants to exactly A in the order of its stages, and it moves no pointer of the passes,
as a pass moves no pointer of the sheds (R84, R100).
-/

namespace Sys2Proof.Machine

/-! ### The pointers -/

/-- The pointers of the sheds (Table 6-1). -/
def Allocator.shedPointers (a : Allocator) : Fin 48 × Fin 48 := (a.flexShedPtr, a.firmShedPtr)

/-- The pointers of the passes and the FLEX snapshot (Table 5-1). -/
def Allocator.passPointers (a : Allocator) : Fin 48 × Fin 48 × List (Fin 48) := (a.firmPtr, a.flexPtr, a.flexSnapshot)

theorem allocator_raise (s : State) (k : FaultKind) (x : Nat) : (s.raise k x).allocator = s.allocator :=
  (congrArg State.allocator (unraised_raise s k x) :)

theorem allocator_offer (w : PassWork) (n : Fin 48) : (w.offer n).1.st.allocator = w.st.allocator := by
  unfold PassWork.offer
  split
  · rfl
  · dsimp only
    split <;> rfl

theorem allocator_firmOffers (l : List (Fin 48)) (w : PassWork) (g : Option (Fin 48)) :
    (firmOffers l w g).1.st.allocator = w.st.allocator := by
  induction l generalizing w g with
  | nil => rfl
  | cons n l ih =>
    unfold firmOffers
    split
    · rfl
    · split
      · exact (ih _ _).trans (allocator_offer w n)
      · exact ih w g

theorem shedPointers_firmPart (w : PassWork) : w.firmPart.st.allocator.shedPointers = w.st.allocator.shedPointers := by
  have h := congrArg Allocator.shedPointers (allocator_firmOffers (w.snapshot .firm w.st.allocator.firmPtr) w none)
  unfold PassWork.firmPart
  dsimp only
  split <;> exact h

theorem shedPointers_takeFlex (w : PassWork) : w.takeFlex.st.allocator.shedPointers = w.st.allocator.shedPointers := by
  rw [takeFlex_eq]
  rfl

theorem shedPointers_flexStep (w : PassWork) : w.flexStep.st.allocator.shedPointers = w.st.allocator.shedPointers := by
  have hready : w.takeFlex.dropFlex.takeFlex.st.allocator.shedPointers = w.st.allocator.shedPointers := by
    rw [flexReady_eq]
    rfl
  unfold PassWork.flexStep
  dsimp only
  split
  · exact hready
  · next n rest _ =>
    exact (congrArg Allocator.shedPointers (allocator_offer (w.takeFlex.dropFlex.takeFlex.setFlex rest) n) :).trans hready

theorem shedPointers_rounds (fuel : Nat) (w : PassWork) :
    (rounds fuel w).st.allocator.shedPointers = w.st.allocator.shedPointers := by
  have hround (v : PassWork) : v.round.st.allocator.shedPointers = v.st.allocator.shedPointers := by
    unfold PassWork.round
    dsimp only
    split
    · exact (shedPointers_flexStep _).trans (shedPointers_firmPart v)
    · exact shedPointers_firmPart v
  induction fuel generalizing w with
  | zero => rfl
  | succ k ih =>
    unfold rounds
    split
    · exact (ih _).trans (hround w)
    · rfl

/-- A grant pass leaves the pointers of the sheds (R100). -/
theorem shedPointers_grantPass (s : State) (l : List (Fin 48)) :
    (grantPass s l).st.allocator.shedPointers = s.allocator.shedPointers := by
  rw [grantPass, shedPointers_rounds]

theorem allocator_cutAt (w : ShedWork) (c : ShedScope) (g : ShedStage) (n : Fin 48) :
    (w.cutAt c g n).st.allocator = w.st.allocator := by
  unfold ShedWork.cutAt
  dsimp only
  split
  · exact allocator_raise _ _ _
  · rfl

theorem allocator_shedWalk (fuel : Nat) (c : ShedScope) (g : ShedStage) (p : Fin 48) (w : ShedWork) :
    (shedWalk fuel c g p w).st.allocator = w.st.allocator := by
  induction fuel generalizing p w with
  | zero => rfl
  | succ k ih =>
    unfold shedWalk
    split
    · rfl
    · split
      · rfl
      · exact (ih _ _).trans (allocator_cutAt w c g _)

theorem passPointers_stage (w : ShedWork) (c : ShedScope) (g : ShedStage) :
    (w.stage c g).st.allocator.passPointers = w.st.allocator.passPointers := by
  have hleave (a : Allocator) (last : Option (Fin 48)) : (g.leave a last).passPointers = a.passPointers := by
    cases g <;> cases last <;> rfl
  exact (hleave _ _).trans (congrArg Allocator.passPointers (allocator_shedWalk _ c g _ { w with last := none }))

/-- A shed leaves the pointers of the passes and the FLEX snapshot (R84). -/
theorem passPointers_shed (c : ShedScope) (s : State) (l : List (Fin 48)) :
    (shed c s l).st.allocator.passPointers = s.allocator.passPointers :=
  (passPointers_stage _ c .firm).trans ((passPointers_stage _ c .firmAboveFloor).trans (passPointers_stage _ c .flex))

/-- The changes handed on, the arbiters and the judging at the end of an event leave the allocator's own record. -/
theorem allocator_handChanges (before : State) (l : List (Fin 48)) (s : State) :
    (handChanges before l s).allocator = s.allocator := by
  refine foldl_keeps State.allocator _ (fun s n => ?_) l s
  split
  · rfl
  · unfold State.handGrant
    split
    · unfold State.queueChange
      split <;> rfl
    · rfl

theorem allocator_settle (s before : State) (t r : Bool) : (s.settle before t r).allocator = s.allocator := by
  have h := allocator_of_unjudged (unjudged_settle s before t r)
  have hs : (s.arbitrateAll.settleStorage before t r).unstored.unsent = s.unstored.unsent :=
    (congrArg State.unsent (unstored_settleStorage _ _ _ _)).trans (unstored_unsent_of_eq (unsent_arbitrateAll s))
  exact h.trans (same_of_unsent_unstored hs).2.2.2.1

/-! ### What a stage cuts of the plant's grants -/

/-- From `w` to `w'` a stage of a capacity shed has cut grants: of its class, in stage 2 to no less than the floor, in stage 3 each reported,
and together no more than the excess over A (R104 to R107). -/
structure PlantCut (g : ShedStage) (w w' : ShedWork) : Prop where
  kept : w'.st.kept = w.st.kept
  stn : ∀ n, ∃ k ≤ (w.st.stn n).grantKw, w'.st.stn n = { w.st.stn n with grantKw := k }
  cut : ∀ n, (w'.st.stn n).grantKw ≠ (w.st.stn n).grantKw →
    (w.st.stn n).host.cls = g.cls ∧ (g = .firmAboveFloor → (w.st.stn n).host.floorKw ≤ (w'.st.stn n).grantKw) ∧
      (g = .firm → n ∈ w'.belowFloor)
  earlier : g ≠ .firm → w'.belowFloor = w.belowFloor
  reported : (∀ n ∈ w.belowFloor, w.st.faults.reports n) → ∀ n ∈ w'.belowFloor, w'.st.faults.reports n
  enough : w.st.capacity ≤ w.st.sumGrants → w'.st.capacity ≤ w'.st.sumGrants

theorem PlantCut.refl (g : ShedStage) (w : ShedWork) : PlantCut g w w where
  kept := rfl
  stn _ := ⟨_, le_rfl, rfl⟩
  cut _ h := absurd rfl h
  earlier _ := rfl
  reported h := h
  enough h := h

section
variable {g : ShedStage} {w w' : ShedWork} (h : PlantCut g w w')
include h

theorem PlantCut.capacity : w'.st.capacity = w.st.capacity := (congrArg Kept.capacity h.kept :)

theorem PlantCut.grant_le (n : Fin 48) : (w'.st.stn n).grantKw ≤ (w.st.stn n).grantKw := by
  obtain ⟨k, hk, hn⟩ := h.stn n
  rw [hn]
  exact hk

theorem PlantCut.host (n : Fin 48) : (w'.st.stn n).host = (w.st.stn n).host := by
  obtain ⟨k, -, hn⟩ := h.stn n
  rw [hn]

/-- Where the grants add up to no more than A, they do so after any cut. -/
theorem PlantCut.met (hm : ShedScope.plant.met w.st = true) : ShedScope.plant.met w'.st = true := by
  have hle : w'.st.sumGrants ≤ w.st.sumGrants := sumOver_le _ h.grant_le
  have hcap := h.capacity
  simp only [ShedScope.met, decide_eq_true_eq] at hm ⊢
  omega

end

/-- A cut takes as much from the sum of the grants as from its station. -/
theorem sumGrants_cutAt_plant (w : ShedWork) (g : ShedStage) (n : Fin 48) :
    (w.cutAt .plant g n).st.sumGrants + ShedScope.plant.cut g w.st n = w.st.sumGrants := by
  have hsum := sumOver_change nodup_allStations (mem_allStations n) (f := fun m => (w.st.stn m).grantKw)
    (g := fun m => ((w.cutAt .plant g n).st.stn m).grantKw) fun m hm => by rw [stn_cutAt, if_neg hm]
  rw [stn_cutAt, if_pos rfl] at hsum
  have hcut : ShedScope.plant.cut g w.st n =
      min (min w.st.plant.quantum (g.cuttable (w.st.stn n))) (w.st.sumGrants - w.st.capacity) := rfl
  have hle := cuttable_le g (w.st.stn n)
  unfold State.sumGrants at hcut ⊢
  dsimp only at hsum
  omega

/-- A cut more. -/
theorem PlantCut.step {g : ShedStage} {w v v' : ShedWork} (h : PlantCut g w v) (hs : WalkStep .plant g v v') :
    PlantCut g w v' := by
  obtain ⟨n, hm, -, hg⟩ := hs
  have hcut : ShedScope.plant.cut g v.st n =
      min (min v.st.plant.quantum (g.cuttable (v.st.stn n))) (v.st.sumGrants - v.st.capacity) := rfl
  obtain ⟨k, hk, hn⟩ := h.stn n
  have hhost := h.host n
  have hcls : (w.st.stn n).host.cls = g.cls := hhost ▸ cls_of_cuttable hg
  obtain ⟨hnot, hfirm⟩ := belowFloor_cutAt v .plant g n
  refine ⟨(kept_cutAt v _ g n).trans h.kept, fun m => ?_, fun m hne => ?_,
    fun hne => (hnot hne).1.trans (h.earlier hne), fun hrep => ?_, fun hle => ?_⟩
  · rw [stn_cutAt]
    split
    · next e =>
      rw [e, hn]
      exact ⟨_, (Nat.sub_le _ _).trans hk, rfl⟩
    · exact h.stn m
  · rw [stn_cutAt] at hne ⊢
    split
    · next e =>
      subst e
      refine ⟨hcls, fun hfl => ?_, fun he => (hfirm he).1⟩
      subst hfl
      have hc := cuttable_aboveFloor (r := v.st.stn m) (by rw [hhost]; exact hcls)
      rw [hhost] at hc
      dsimp only
      omega
    · next e =>
      rw [if_neg e] at hne
      obtain ⟨h1, h2, h3⟩ := h.cut m hne
      exact ⟨h1, h2, fun he => (hfirm he).2.1 m (h3 he)⟩
  · by_cases he : g = .firm
    · exact (hfirm he).2.2 (h.reported hrep)
    · rw [(hnot he).1, (hnot he).2]
      exact h.reported hrep
  · have hv := h.enough hle
    have hsum := sumGrants_cutAt_plant v g n
    rw [(cutAt_same v _ g n).2]
    omega

/-- A walk cuts until the grants add up to no more than A or nothing is left to cut; its fuel is enough (R101). -/
theorem shedWalk_plant {g : ShedStage} {w v : ShedWork} (h : PlantCut g w v) (hq : 0 < v.st.plant.quantum) {fuel : Nat}
    (hf : v.st.sumGrants < fuel) (p : Fin 48) :
    PlantCut g w (shedWalk fuel .plant g p v) ∧
      (ShedScope.plant.met (shedWalk fuel .plant g p v).st = true ∨
        ∀ n, g.cuttable ((shedWalk fuel .plant g p v).st.stn n) = 0) := by
  induction fuel generalizing v p with
  | zero => omega
  | succ k ih =>
    unfold shedWalk
    split
    · next hm => exact ⟨h, .inl hm⟩
    · next hm =>
      split
      · next hnone => exact ⟨h, .inr fun n => nextCut_none hnone rfl⟩
      · next n hsome =>
        obtain ⟨hr, hg⟩ := nextCut_some hsome
        refine ih (h.step (.cut v n (Bool.eq_false_iff.mpr hm) hr hg)) ?_ ?_ _
        · rw [(cutAt_same v _ g n).1]
          exact hq
        · have hsum := sumGrants_cutAt_plant v g n
          have hcut : ShedScope.plant.cut g v.st n =
              min (min v.st.plant.quantum (g.cuttable (v.st.stn n))) (v.st.sumGrants - v.st.capacity) := rfl
          have hover : ¬ v.st.sumGrants ≤ v.st.capacity := by simpa [ShedScope.met] using hm
          omega

/-- A stage of a capacity shed: what it cuts, where it stops, and that it cuts nothing where A is met before it. -/
theorem stage_plant (g : ShedStage) (w : ShedWork) (hq : 0 < w.st.plant.quantum) :
    PlantCut g w (w.stage .plant g) ∧
      (ShedScope.plant.met (w.stage .plant g).st = true ∨ ∀ n, g.cuttable ((w.stage .plant g).st.stn n) = 0) ∧
      (ShedScope.plant.met w.st = true → ∀ n, (w.stage .plant g).st.stn n = w.st.stn n) := by
  have hstart : PlantCut g w { w with last := none } := by
    have := PlantCut.refl g w
    exact ⟨this.kept, this.stn, this.cut, this.earlier, this.reported, this.enough⟩
  obtain ⟨h, hstop⟩ := shedWalk_plant hstart hq (Nat.lt_succ_self _) (g.pointer w.st.allocator)
  have hidle : ShedScope.plant.met w.st = true → ∀ n,
      (shedWalk (w.st.sumGrants + 1) .plant g (g.pointer w.st.allocator) { w with last := none }).st.stn n = w.st.stn n :=
    fun hm n => by rw [shedWalk_of_met (w := { w with last := none }) hm]
  unfold ShedWork.stage
  dsimp only
  generalize shedWalk (w.st.sumGrants + 1) .plant g (g.pointer w.st.allocator) { w with last := none } = v at h hstop hidle
  exact ⟨⟨h.kept, h.stn, h.cut, h.earlier, h.reported, h.enough⟩, hstop, hidle⟩

/-! ### A capacity shed as a whole -/

/-- From `s` to `t` a capacity shed has cut the grants to A in the order of the stages. -/
structure PlantShed (s t : State) : Prop where
  grant_le : ∀ n, (t.stn n).grantKw ≤ (s.stn n).grantKw
  total : t.sumGrants = s.capacity
  flexFirst : ∀ n, (s.stn n).host.cls = .firm → (t.stn n).grantKw < (s.stn n).grantKw →
    ∀ m, (s.stn m).host.cls = .flex → (t.stn m).grantKw = 0
  floorsLast : ∀ n, (s.stn n).host.cls = .firm → (t.stn n).grantKw < (s.stn n).host.floorKw →
    (t.stn n).grantKw < (s.stn n).grantKw →
      (∀ m, (s.stn m).host.cls = .firm → (t.stn m).grantKw ≤ (s.stn m).host.floorKw) ∧ t.faults.reports n

theorem shed_plant {s : State} (l : List (Fin 48)) (hq : 0 < s.plant.quantum) (hg : s.capacity < s.sumGrants) :
    PlantShed s (shed .plant s l).st := by
  unfold shed
  obtain ⟨h1, stop1, -⟩ := stage_plant .flex ⟨s, l, none, []⟩ hq
  generalize ShedWork.stage ⟨s, l, none, []⟩ .plant .flex = w1 at h1 stop1
  obtain ⟨h2, stop2, idle2⟩ := stage_plant .firmAboveFloor w1 (by rw [plant_of_kept h1.kept]; exact hq)
  generalize w1.stage .plant .firmAboveFloor = w2 at h2 stop2 idle2
  obtain ⟨h3, stop3, idle3⟩ := stage_plant .firm w2 (by rw [plant_of_kept (h2.kept.trans h1.kept)]; exact hq)
  generalize w2.stage .plant .firm = w3 at h3 stop3 idle3
  have hhost1 : ∀ n, (w1.st.stn n).host = (s.stn n).host := h1.host
  have hhost2 (n : Fin 48) : (w2.st.stn n).host = (s.stn n).host := (h2.host n).trans (hhost1 n)
  have hhost3 (n : Fin 48) : (w3.st.stn n).host = (s.stn n).host := (h3.host n).trans (hhost2 n)
  have hle1 : ∀ n, (w1.st.stn n).grantKw ≤ (s.stn n).grantKw := h1.grant_le
  have hfirm1 (n : Fin 48) (hc : (s.stn n).host.cls = .firm) : (w1.st.stn n).grantKw = (s.stn n).grantKw := by
    by_contra hne
    exact absurd (hc.symm.trans (h1.cut n hne).1) (by decide)
  -- Where a stage later than the first has cut, the first had not met A.
  have hflex (hm : ¬ ShedScope.plant.met w1.st = true) (m : Fin 48) (hc : (s.stn m).host.cls = .flex) :
      (w3.st.stn m).grantKw = 0 := by
    have hz := stop1.resolve_left hm m
    rw [cuttable_flex (by rw [hhost1]; exact hc)] at hz
    have := h2.grant_le m
    have := h3.grant_le m
    omega
  have hmet : ShedScope.plant.met w3.st = true := by
    by_contra hm3
    have hm1 : ¬ ShedScope.plant.met w1.st = true := fun h => hm3 (h3.met (h2.met h))
    have hzero : w3.st.sumGrants = 0 := sumOver_eq_zero fun m => by
      cases hc : (s.stn m).host.cls with
      | flex => exact hflex hm1 m hc
      | firm =>
        have hz := stop3.resolve_left hm3 m
        rwa [cuttable_firm (by rw [hhost3]; exact hc)] at hz
    simp [ShedScope.met, hzero] at hm3
  refine ⟨fun n => (h3.grant_le n).trans ((h2.grant_le n).trans (hle1 n)), ?_, fun n hc hlt => hflex fun hm => ?_,
    fun n hc hfl hlt => ?_⟩
  · have henough := h3.enough (h2.enough (h1.enough hg.le))
    have hcap : w3.st.capacity = s.capacity := h3.capacity.trans (h2.capacity.trans h1.capacity)
    have hfits : w3.st.sumGrants ≤ w3.st.capacity := by simpa [ShedScope.met] using hmet
    omega
  · have e2 := congrArg Station.grantKw (idle2 hm n)
    have e3 := congrArg Station.grantKw (idle3 (h2.met hm) n)
    have e1 := hfirm1 n hc
    omega
  · have e1 := hfirm1 n hc
    have hcut3 : (w3.st.stn n).grantKw ≠ (w2.st.stn n).grantKw := fun e3 => by
      have hge := (h2.cut n (by omega)).2.1 rfl
      rw [hhost1] at hge
      omega
    have hm2 : ¬ ShedScope.plant.met w2.st = true := fun hm => hcut3 (congrArg Station.grantKw (idle3 hm n))
    refine ⟨fun m hcm => ?_, ?_⟩
    · have hz := stop2.resolve_left hm2 m
      rw [cuttable_aboveFloor (by rw [hhost2]; exact hcm), hhost2] at hz
      have := h3.grant_le m
      omega
    · have hnil : w2.belowFloor = [] := (h2.earlier (by decide)).trans (h1.earlier (by decide))
      exact h3.reported (by rw [hnil]; exact nofun) n ((h3.cut n hcut3).2.2 rfl)

/-- Where a state's grants are those of a capacity shed, and its faults report what the shed did, it is a shed in order (R101). -/
theorem shedInOrder_of_plantShed {s u t : State} (h : PlantShed s u) (hg : ∀ n, (t.stn n).grantKw = (u.stn n).grantKw)
    (hf : ∀ n, u.faults.reports n → t.faults.reports n) : s.shedInOrder t fun _ => True := by
  refine ⟨fun n => ?_, fun n hn => absurd trivial hn, fun n hc hlt => ⟨fun m _ hcm => ?_, fun hfl => ?_⟩⟩
  · rw [hg]; exact h.grant_le n
  · rw [hg] at hlt ⊢
    exact h.flexFirst n hc hlt m hcm
  · rw [hg] at hlt hfl
    obtain ⟨h1, h2⟩ := h.floorsLast n hc hfl hlt
    exact ⟨fun m _ hcm => by rw [hg]; exact h1 m hcm, hf n h2⟩

/-! ### The capacity shed of an event -/

theorem overLimit_of_lawful {s : State} (h : s.capsLawful) (b : Fin 6) : s.overLimit b = false := by
  cases hw : (s.br b).settings.window.isSome with
  | false => simp [State.overLimit, hw]
  | true =>
    have := h b hw
    simp [State.overLimit, hw, this]

/-- With every branch within its limit and the grants above A, the capacity shed is the only shed (R103, R110). -/
theorem sheds_plant {s : State} (hb : ∀ b, s.overLimit b = false) (hg : s.capacity < s.sumGrants) :
    sheds s = ((shed .plant s []).st, (shed .plant s []).changed) := by
  rw [sheds_eq, branchSheds_of_met fun b _ => hb b]
  exact if_pos hg

/-- Where no pass comes with an event, the allocator's pointers are those its sheds leave. -/
theorem allocator_finish_of_sheds {e : Event} (hp : e.pass = false) (before : State) :
    (e.finish before).allocator = (sheds e.st).1.allocator := by
  have ha : allocate e = handChanges e.st (sheds e.st).2 (sheds e.st).1 := by
    unfold allocate
    simp only [hp, Bool.false_eq_true, if_false]
  rw [Event.finish, allocator_settle, ha, allocator_handChanges]

/-- Where no shed is called for, an event leaves the pointers of the sheds (R100). -/
theorem shedPointers_finish {e : Event} (h : e.st.shedCalled = false) (before : State) :
    (e.finish before).allocator.shedPointers = e.st.allocator.shedPointers := by
  rw [Event.finish, allocator_settle]
  unfold allocate
  simp only [sheds_of_not_called h]
  split
  · rw [allocator_handChanges, shedPointers_grantPass]
  · rw [allocator_handChanges]

end Sys2Proof.Machine
end

section
/-!
A chiller report (R25, R26, R33, R34): the unit moved by Table 2-4, and the pass of a raised A or the capacity shed of a fallen one (R77, R103).
-/

namespace Sys2Proof.Machine

/-! ### Table 2-4, by the run condition reported -/

section
variable (c : Chiller)

theorem report_run :
    c.report .run =
      if c.state = .run ∨ c.state = .stopHeld ∨ c.state = .stopping then c
      else { c with
        state := .run
        minRunTimer := if c.state = .unknown then none else some c.settings.minRun
        minOffTimer := none
        confirmTimer := none } := by
  cases h : c.state <;> simp [Chiller.report, Chiller.seenRunning, h]

theorem report_stopped :
    c.report .stopped =
      if c.state = .off ∨ c.state = .startHeld ∨ c.state = .starting then c
      else if c.state = .tripped then { c with state := .off }
      else { c with state := .off, minRunTimer := none, minOffTimer := some c.settings.minOff, confirmTimer := none } := by
  cases h : c.state <;> simp [Chiller.report, Chiller.seenStopped, h]

theorem report_tripped :
    c.report .tripped =
      if c.state = .tripped then c
      else { c with state := .tripped, minRunTimer := none, minOffTimer := some c.settings.minOff, confirmTimer := none } := by
  cases h : c.state <;> simp [Chiller.report, Chiller.trip, h]

/-- Table 2-4 does not look at available kW, which the report replaces. -/
theorem report_available (condition : RunCondition) (a : Option Nat) :
    { c.report condition with available := a } = ({ c with available := a } : Chiller).report condition := by
  cases condition with
  | run =>
    simp only [report_run]
    split <;> rfl
  | stopped =>
    simp only [report_stopped]
    split
    · rfl
    · split <;> rfl
  | tripped =>
    simp only [report_tripped]
    split <;> rfl

end

/-! ### The report before the end of its event -/

theorem watched_chiller (s : State) (u : Fin 8) :
    s.watched (chillerAddress u) = decide (0 < (s.chiller u).settings.ratedKw) := by
  have h : (chillerAddress u).val < 8 := u.isLt
  rw [State.watched, dif_pos h]
  rfl

section
variable (s : State) (u : Fin 8) (condition : RunCondition) (available : Nat)

/-- The unit's record after a report. -/
def State.reportedUnit : Chiller := ({ s.chiller u with available := presentKw available } : Chiller).report condition

/-- The state with the report recorded and the silence ended, before CHILLER_TRIP is raised. -/
def State.unitHeard : State := (s.endSilence (chillerAddress u)).setChiller u (s.reportedUnit u condition available)

theorem chillerReport_eq :
    s.chillerReport u condition available =
      if (s.reportedUnit u condition available).state = .tripped ∧ (s.chiller u).state ≠ .tripped then
        (s.unitHeard u condition available).raise .chillerTrip u.val
      else s.unitHeard u condition available := by
  unfold State.unitHeard State.reportedUnit
  rw [← report_available]
  rfl

/-- A report writes the unit's record and its watch, and of the faults DEVICE_SILENT and CHILLER_TRIP alone. -/
theorem chillerReport_same :
    (s.chillerReport u condition available).kept = { s.kept with
      chillers := s.chillers.set u.val (s.reportedUnit u condition available)
      watches := s.watches.set u.val ⟨false, 0⟩ } ∧
    (s.chillerReport u condition available).stations = s.stations ∧
    (s.chillerReport u condition available).branches = s.branches ∧
    (s.chillerReport u condition available).allocator = s.allocator ∧
    (s.chillerReport u condition available).faults.quiet .deviceSilent u.val := by
  have hq : (s.unitHeard u condition available).faults.quiet .deviceSilent u.val := quiet_endSilence s (chillerAddress u)
  rw [chillerReport_eq]
  split
  · exact ⟨kept_raise _ _ _, stations_raise _ _ _, branches_raise _ _ _, allocator_raise _ _ _, quiet_raise (by decide) hq⟩
  · exact ⟨rfl, rfl, rfl, rfl, hq⟩

variable {s u condition available}

theorem shows_chillerReport (hn : (s.reportedUnit u condition available).state = .tripped)
    (ho : (s.chiller u).state ≠ .tripped) (hr : s.faults.records .chillerTrip u.val) :
    (s.chillerReport u condition available).faults.shows .chillerTrip u.val := by
  rw [chillerReport_eq, if_pos ⟨hn, ho⟩]
  exact shows_raise_self (s := s.unitHeard u condition available) (records_endActive hr fun e he => by simp [FaultEntry.names, he])

end

/-! ### A raised A, and a fallen one -/

section
variable {v before t : State} (ht : t = v.event.recapacity.finish before)
include ht

theorem capacity_recapped : t.capacity = v.capacityNow := by
  have hk := (recapped_finish v before).kept
  have hc : (v.event.recapacity.finish before).capacity = v.capacityNow :=
    (congrArg Kept.capacity (kept_finish v.event.recapacity before) :)
  rw [ht, hc]

/-- A raised A brings a grant pass to its end (R77, R87). -/
theorem passEnded_recapped (h : v.capacity < t.capacity) (hq : 10 ≤ v.plant.quantum) : t.passEnded := by
  rw [capacity_recapped ht] at h
  have hp : v.event.recapacity.pass = true := by simp [Event.recapacity, h]
  rw [ht, Event.finish]
  exact passEnded_settle (passEnded_allocate hp (by show 0 < v.plant.quantum; omega)) before _ _

/-- A raised A with lawful grants and caps leaves the pointers of the sheds (R100). -/
theorem shedPointers_recapped (h : v.capacity < t.capacity) (hg : v.sumGrants ≤ v.capacity) (hl : v.capsLawful) :
    t.allocator.shedPointers = v.allocator.shedPointers := by
  rw [capacity_recapped ht] at h
  have hquiet : v.event.recapacity.st.shedCalled = false :=
    shedCalled_of_lawful (s := v.event.recapacity.st) hl (hg.trans h.le)
  rw [ht]
  exact shedPointers_finish hquiet before

/-- An A that has fallen below the grants brings a capacity shed to its end (R103 to R107). -/
theorem shed_recapped (hle : t.capacity ≤ v.capacity) (hg : t.capacity < v.sumGrants) (hl : v.capsLawful)
    (hq : 10 ≤ v.plant.quantum) :
    t.sumGrants = t.capacity ∧ v.shedInOrder t (fun _ => True) ∧ t.allocator.passPointers = v.allocator.passPointers := by
  have hcap := capacity_recapped ht
  rw [hcap] at hle hg
  have hp : v.event.recapacity.pass = false := decide_eq_false (p := v.capacity < v.capacityNow) hle.not_gt
  obtain ⟨hsame, hrep⟩ := finish_of_sheds hp before
  have halloc := allocator_finish_of_sheds hp before
  rw [← ht] at hsame hrep halloc
  have hsheds := sheds_plant (s := v.event.recapacity.st) (overLimit_of_lawful hl) hg
  have hshed := shed_plant (s := v.event.recapacity.st) [] (by show 0 < v.plant.quantum; omega) hg
  have hptr := passPointers_shed .plant v.event.recapacity.st []
  rw [hsheds] at hsame hrep halloc
  generalize shed .plant v.event.recapacity.st [] = w at hsame hrep halloc hshed hptr
  have horder : v.event.recapacity.st.shedInOrder t fun _ => True := shedInOrder_of_plantShed hshed hsame.grantKw hrep
  refine ⟨?_, horder, (congrArg _ halloc).trans hptr⟩
  rw [hcap, State.sumGrants, funext hsame.grantKw]
  exact hshed.total

end

/-- Settles O50: the report by what it records, then the end of the event by what it does to A. -/
theorem chillersReport : Obligations.ChillersReport := by
  intro s u condition available hp
  have hon : exec (.chillerReport u condition available) s = .next (if s.watched (chillerAddress u) then
      (s.chillerReport u condition available).event.recapacity.finish s else s) :=
    exec_on (fun s => if s.watched (chillerAddress u) then
      (s.chillerReport u condition available).event.recapacity.finish s else s) rfl hp
  rw [watched_chiller] at hon
  refine ⟨fun hc => by rw [hon, hc]; rfl, fun hc => ?_⟩
  rw [if_pos (decide_eq_true hc)] at hon
  intro c new
  have hnew : new = s.reportedUnit u condition available := by
    cases condition with
    | run => exact (report_run c).symm
    | stopped => exact (report_stopped c).symm
    | tripped => exact (report_tripped c).symm
  clear_value new
  subst hnew
  obtain ⟨hk, hstn, hbr, halloc, hquiet⟩ := chillerReport_same s u condition available
  have hshows := shows_chillerReport (s := s) (u := u) (condition := condition) (available := available)
  generalize s.chillerReport u condition available = v at hon hk hstn hbr halloc hquiet hshows
  have hrec := recapped_finish v s
  obtain ⟨t, ht⟩ : ∃ t, t = v.event.recapacity.finish s := ⟨_, rfl⟩
  rw [← ht] at hon hrec
  have hcapacity : v.capacity = s.capacity := (congrArg Kept.capacity hk :)
  have hplant : v.plant = s.plant := (congrArg Kept.plant hk :)
  have hgrants (n : Fin 48) : v.stn n = s.stn n := by rw [State.stn, hstn]; rfl
  have hbranches (b : Fin 6) : v.br b = s.br b := by rw [State.br, hbr]; rfl
  have hsum : v.sumGrants = s.sumGrants := by simp only [State.sumGrants, hgrants]
  have hcaps (hl : s.capsLawful) : v.capsLawful := fun b hb => by
    rw [hbranches] at hb
    have hwin := branchWindow_of_settings (s := s) (t := v) (fun d => by rw [hbranches]) b
    simpa only [State.capSum, hwin, State.flowLimit, hbranches, hgrants] using hl b hb
  have hpass := passEnded_recapped ht
  have hptr := shedPointers_recapped ht
  have hshed := shed_recapped ht
  rw [hcapacity] at hpass hptr hshed
  rw [hplant] at hpass hshed
  rw [hsum] at hptr hshed
  rw [halloc] at hptr hshed
  refine ⟨t, hon, ?_, hrec.faults _ (settled_quiet (by decide) (by decide) _) hquiet,
    fun hn ho hr => hrec.faults _ (settled_shows (by decide) _) (hshows hn ho hr), hpass, fun h hg hl => ?_,
    fun hle hg hl hq => ?_⟩
  · rw [hrec.kept, hk]
  · exact Prod.ext_iff.mp (hptr h hg (hcaps hl))
  · obtain ⟨htotal, horder, hpointers⟩ := hshed hle hg (hcaps hl) hq
    obtain ⟨hfirm, hrest⟩ := Prod.ext_iff.mp hpointers
    obtain ⟨hflex, hsnap⟩ := Prod.ext_iff.mp hrest
    refine ⟨htotal, ?_, hfirm, hflex, hsnap⟩
    simpa only [State.shedInOrder, hgrants] using horder

end Sys2Proof.Machine
end

section
/-!
POWER_LOSS, SAVE, CLOCK and the load session of the schedule (R43 to R55, R175, R184).
-/

namespace Sys2Proof.Machine

/-! ### Loss of power (R44, R175) -/

/-- Every command but COLD_START acts while the card has power alone. -/
theorem exec_whilePowered {c : Instr} (h : c ≠ .coldStart) : ∃ f, exec c = whilePowered f := by
  cases c with
  | coldStart => exact absurd rfl h
  | _ => exact ⟨_, rfl⟩

/-- Settles O3, by whether a SAVE is cut short. -/
theorem powerIsLost : Obligations.PowerIsLost := by
  refine ⟨fun s hp => ?_, fun c s hp hc => ?_⟩
  · rw [exec_on (c := .powerLoss) (·.powerLoss) rfl hp, State.powerLoss, State.cutSave]
    cases s.link.phase.saves <;> rfl
  · obtain ⟨f, hf⟩ := exec_whilePowered hc
    rw [hf, whilePowered_off f s hp]

/-! ### SAVE (R52, R184) -/

/-- Settles O24: the image of the settings, and the read-back by whether it agrees. -/
theorem saveWritesTheSettings : Obligations.SaveWritesTheSettings := by
  refine ⟨fun s tag hs => ⟨s.image, exec_ready (r := .save) rfl hs, ?_⟩, fun s tag i hp hphase => ?_⟩
  · simp [State.image]
  · have hback (agrees : Bool) : exec (.saveReadBack agrees) s = .next (s.saveReadBack agrees) :=
      exec_on (·.saveReadBack agrees) rfl hp
    rw [hback, hback]
    simp only [State.saveReadBack, hphase]
    exact ⟨rfl, rfl⟩

/-! ### CLOCK (R43, R44) -/

/-- The current slot of a set clock, by the times of day (R44). -/
theorem map_slotOf_eq {c : Option Nat} {tod : Nat} :
    c.map slotOf = some (slotOf tod) ↔ c.map (fun c => c / 900 % 96) = some (tod / 900 % 96) := by
  cases c <;> simp [slotOf, Fin.ext_iff]

theorem onClock_range (s : State) {tod : Nat} (h : 86399 < tod) : s.onClock tod = s.refuse .range := if_pos h

/-- A time of day in the current slot is set, and nothing else is done (R43). -/
theorem onClock_within {s : State} {tod : Nat} (h : tod ≤ 86399) (hs : s.currentSlot = some (slotOf tod)) :
    s.onClock tod = ({ s with clock := some tod }, .done []) := by
  have hset : s.setClock tod = { s with clock := some tod } := if_pos hs.symm
  rw [State.onClock, if_neg (by omega), hset, State.doneEmpty]

/-- A time of day in another slot is a slot change (R44). -/
theorem onClock_change {s : State} {tod : Nat} (h : tod ≤ 86399) (hs : s.currentSlot ≠ some (slotOf tod)) :
    s.onClock tod = (({ s with clock := some tod } : State).event.recapacity.finish s, .done []) := by
  have hset : s.setClock tod = ({ s with clock := some tod } : State).event.recapacity.finish s := if_neg hs.symm
  rw [State.onClock, if_neg (by omega), hset, State.doneEmpty]

/-- Settles O27: the range, a time in the current slot, and a slot change by the end of its event. -/
theorem clockSetsTheTime : Obligations.ClockSetsTheTime := by
  refine fun s tag tod hs => ⟨fun h => exec_refused rfl hs (onClock_range s h), fun h hslot => ?_, fun h hslot => ?_⟩
  · have hcur : s.currentSlot = some (slotOf tod) := by
      refine map_slotOf_eq.mpr ?_
      have := congrArg (Option.map (· % 96)) hslot
      rwa [Option.map_map] at this
    rw [exec_ready (c := .clock tag tod) rfl hs, handle_done (r := .clock tod) nofun nofun (onClock_within h hcur) rfl rfl]
  · have hcur : s.currentSlot ≠ some (slotOf tod) := fun he => hslot (by
      rw [map_slotOf_eq.mp he, Nat.mod_eq_of_lt (by omega)])
    have hon := onClock_change h hcur
    have hrec := recapped_finish { s with clock := some tod } s
    have hstore := storage_finish (e := ({ s with clock := some tod } : State).event.recapacity) (before := s)
      hcur.symm rfl rfl
    generalize ({ s with clock := some tod } : State).event.recapacity.finish s = w at hon hrec hstore
    obtain ⟨hexec, hkept⟩ := exec_request (c := .clock tag tod) rfl hs hon nofun nofun rfl rfl (congrArg Kept.link hrec.kept :)
    refine ⟨_, hexec, ?_, hstore.1, tankSettled_answeredOnly hstore.2 tag _⟩
    rw [hkept, hrec.kept]
    rfl

/-! ### SCHED-WIN (R51) -/

/-- A request that keeps the load session is carried out, and its reply issued (R51, R52). -/
theorem exec_keeping {c : Instr} {tag : Nat} {r : Request} {s s' : State} {reply : Reply}
    (hc : c.asRequest = some (tag, r)) (hs : s.ready) (h : s.carryOut tag r = (s', reply)) (hk : r.keepsSession = true) :
    exec c s = .next (s'.answeredOnly tag reply) := by
  have h1 : r ≠ .save := by rintro rfl; cases hk
  have h2 : r ≠ .restart := by rintro rfl; cases hk
  rw [exec_ready hc hs, handle_eq h1 h2, h, State.closeSession, hk, Bool.or_true]
  rfl

/-- Settles O37: the range, and the session opened. -/
theorem loadSessionsOpen : Obligations.LoadSessionsOpen := by
  refine fun s tag first last hs => ⟨fun h => exec_refused rfl hs (if_pos h), fun h1 h2 => ?_⟩
  exact exec_keeping rfl hs (if_neg (by omega)) rfl

/-! ### The records of a SCHED-DATA (R54) -/

/-- A code above the three modes names none (R54). -/
theorem isNone_tankModeOfCode (m : Nat) : (tankModeOfCode m).isNone = decide (2 < m) := by
  match m with
  | 0 | 1 | 2 => rfl
  | n + 3 => simp [tankModeOfCode]

theorem storedSlot_eq (maxDischarge : Nat) (r : SlotFields) :
    storedSlot maxDischarge r =
      if r.mode = 0 then ⟨.hold, min r.kw 60000⟩
      else if r.mode = 1 then ⟨.charge, min r.kw 60000⟩
      else if r.mode = 2 then ⟨.discharge, min (min r.kw 60000) maxDischarge⟩
      else ⟨.hold, 0⟩ := by
  obtain ⟨m, kw⟩ := r
  match m with
  | 0 | 1 | 2 => rfl
  | n + 3 => simp [storedSlot, tankModeOfCode]

/-- What a SCHED-DATA of `records` has made of the work `w` in `v`: the first `k` are written from the write pointer on, and the rest are
spilled. -/
structure LoadWork.Loaded (maxDischarge : Nat) (records : List SlotFields) (k : Nat) (w v : LoadWork) : Prop where
  pointer : v.pointer = w.pointer + k
  written : v.written = w.written + k
  spilled : v.spilled = w.spilled + (records.length - k)
  coerced : v.coerced = w.coerced + ((records.take k).filter fun r => decide (2 < r.mode)).length
  schedule : ∀ i : Fin 96, v.schedule[i.val] =
    if w.pointer ≤ i.val ∧ i.val < w.pointer + k then
      storedSlot maxDischarge (records.getD (i.val - w.pointer) ⟨0, 0⟩)
    else w.schedule[i.val]

section
variable {last maxDischarge : Nat} {r : SlotFields} {records : List SlotFields} {w v : LoadWork}

theorem take_of_room (h : w.pointer ≤ last) : w.take last maxDischarge r =
    { schedule := w.schedule.setIfInBounds w.pointer (storedSlot maxDischarge r)
      pointer := w.pointer + 1
      written := w.written + 1
      spilled := w.spilled
      coerced := if (tankModeOfCode r.mode).isNone then w.coerced + 1 else w.coerced } := if_pos h

theorem take_of_no_room (h : ¬ w.pointer ≤ last) : w.take last maxDischarge r = { w with spilled := w.spilled + 1 } :=
  if_neg h

/-- A record that has room goes to the slot at the write pointer. -/
theorem LoadWork.Loaded.cons_written {k : Nat} (hroom : w.pointer ≤ last)
    (h : (w.take last maxDischarge r).Loaded maxDischarge records k v) : w.Loaded maxDischarge (r :: records) (k + 1) v := by
  rw [take_of_room hroom] at h
  obtain ⟨hp, hw, hs, hc, hv⟩ := h
  dsimp only at hp hw hs hc hv
  refine ⟨by omega, by omega, by rw [hs, List.length_cons, Nat.add_sub_add_right], ?_, fun i => ?_⟩
  · rw [hc, isNone_tankModeOfCode, List.take_succ_cons, List.filter_cons]
    split
    · rw [List.length_cons]; omega
    · rfl
  · rw [hv i, Vector.getElem_setIfInBounds]
    by_cases hi : i.val = w.pointer
    · rw [if_neg (by omega), if_pos hi.symm, if_pos (by omega), hi, Nat.sub_self, List.getD_cons_zero]
    · rw [if_neg (Ne.symm hi)]
      by_cases hlt : w.pointer + 1 ≤ i.val ∧ i.val < w.pointer + 1 + k
      · rw [if_pos hlt, if_pos (by omega), show i.val - w.pointer = i.val - (w.pointer + 1) + 1 by omega,
          List.getD_cons_succ]
      · have hout : ¬ (w.pointer ≤ i.val ∧ i.val < w.pointer + (k + 1)) := by omega
        rw [if_neg hlt, if_neg hout]

/-- A record without room is spilled, and so is every one behind it. -/
theorem LoadWork.Loaded.cons_spilled (hroom : ¬ w.pointer ≤ last)
    (h : (w.take last maxDischarge r).Loaded maxDischarge records 0 v) : w.Loaded maxDischarge (r :: records) 0 v := by
  rw [take_of_no_room hroom] at h
  obtain ⟨hp, hw, hs, hc, hv⟩ := h
  dsimp only at hs
  refine ⟨hp, hw, by rw [hs, List.length_cons]; omega, hc, fun i => ?_⟩
  exact (hv i).trans (by rw [if_neg (by omega), if_neg (by omega)])

/-- A SCHED-DATA writes the records there is room for up to the last slot (R54). -/
theorem loaded_foldl (last maxDischarge : Nat) (records : List SlotFields) (w : LoadWork) :
    w.Loaded maxDischarge records (min records.length (last + 1 - w.pointer))
      (records.foldl (LoadWork.take last maxDischarge) w) := by
  induction records generalizing w with
  | nil => exact ⟨by simp, by simp, by simp, by simp, fun i => by rw [if_neg (by simp)]; rfl⟩
  | cons r records ih =>
    have h := ih (w.take last maxDischarge r)
    rw [List.foldl_cons]
    by_cases hroom : w.pointer ≤ last
    · have hk : min (r :: records).length (last + 1 - w.pointer) =
          min records.length (last + 1 - (w.take last maxDischarge r).pointer) + 1 := by
        rw [take_of_room hroom, List.length_cons]; dsimp only; omega
      rw [hk]
      exact h.cons_written hroom
    · have hnone (n : Nat) : min n (last + 1 - w.pointer) = 0 := by omega
      rw [show (w.take last maxDischarge r).pointer = w.pointer by rw [take_of_no_room hroom], hnone] at h
      rw [hnone]
      exact h.cons_spilled hroom

end

/-! ### SCHED-DATA (R53 to R55) -/

/-- The work of a SCHED-DATA from a write pointer. -/
def State.loadWork (s : State) (l : LoadSession) (start : Nat) (records : List SlotFields) : LoadWork :=
  records.foldl (LoadWork.take l.last s.plant.maxDischarge) ⟨s.schedule, start, 0, 0, 0⟩

/-- A SCHED-DATA writes from the write pointer on as many records as there is room for up to the session's last slot (R54). -/
theorem loadWork_eq (s : State) (l : LoadSession) (start : Nat) (records : List SlotFields) :
    let w := s.loadWork l start records
    let k := min records.length (l.last + 1 - start)
    w.pointer = start + k ∧ w.written = k ∧ w.spilled = records.length - k ∧
      w.coerced = ((records.take k).filter fun r => decide (2 < r.mode)).length ∧
      ∀ i : Fin 96, w.schedule[i.val] =
        if start ≤ i.val ∧ i.val < start + k then
          storedSlot s.plant.maxDischarge (records.getD (i.val - start) ⟨0, 0⟩)
        else s.slot i := by
  obtain ⟨hp, hw, hs, hc, hv⟩ := loaded_foldl l.last s.plant.maxDischarge records ⟨s.schedule, start, 0, 0, 0⟩
  exact ⟨hp, hw.trans (Nat.zero_add _), hs.trans (Nat.zero_add _), hc.trans (Nat.zero_add _), hv⟩

/-- The state with a SCHED-DATA's records in the schedule and the session's pointer behind them. -/
def State.withLoad (s : State) (l : LoadSession) (w : LoadWork) : State :=
  { s with schedule := w.schedule, session := some { l with pointer := w.pointer } }

/-- A SCHED-DATA up to its reply: a write to the current slot has S_dis, A and the storage command worked out again (R55). -/
def State.loadEnd (s : State) (l : LoadSession) (start : Nat) (w : LoadWork) : State :=
  if s.writesCurrent start w.pointer then (allocate (s.withLoad l w).event.recapacity).settle s true false
  else s.withLoad l w

theorem loadSlots_eq (s : State) (l : LoadSession) (start : Nat) (records : List SlotFields) :
    s.loadSlots l start records = (s.loadEnd l start (s.loadWork l start records),
      .done [⟨2, (s.loadWork l start records).written⟩, ⟨2, (s.loadWork l start records).spilled⟩,
        ⟨2, (s.loadWork l start records).coerced⟩]) := rfl

theorem writesCurrent_iff {s : State} {start stop : Nat} :
    s.writesCurrent start stop = true ↔ ∃ i : Fin 96, s.currentSlot = some i ∧ start ≤ i.val ∧ i.val < stop := by
  unfold State.writesCurrent
  cases s.currentSlot <;> simp

section
variable (s : State) {records : List SlotFields}

theorem onSchedData_format (flag : Nat) (h : records.length = 0 ∨ 24 < records.length) :
    s.onSchedData flag records = s.refuse .format := if_pos h

variable (h1 : 1 ≤ records.length) (h2 : records.length ≤ 24)
include h1 h2

theorem onSchedData_range {flag : Nat} (hf : 2 ≤ flag) : s.onSchedData flag records = s.refuse .range := by
  rw [State.onSchedData, if_neg (by omega), if_pos (by omega)]

theorem onSchedData_sequence {flag : Nat} (hf : flag ≤ 1) (hs : s.session = none) :
    s.onSchedData flag records = s.refuse .sequence := by
  rw [State.onSchedData, if_neg (by omega), if_neg (by omega), hs]

theorem onSchedData_open {flag : Nat} (hf : flag ≤ 1) {l : LoadSession} (hs : s.session = some l) :
    s.onSchedData flag records = s.loadSlots l (if flag = 0 then l.first else l.pointer) records := by
  rw [State.onSchedData, if_neg (by omega), if_neg (by omega), hs]

end

/-- The kept part up to the reply: the schedule and the session as the load leaves them, and S_dis and A as they came out. -/
theorem loadEnd_kept (s : State) (l : LoadSession) (start : Nat) (w : LoadWork) :
    let t := s.loadEnd l start w
    t.schedule = w.schedule ∧ t.session = some { l with pointer := w.pointer } ∧
      t.kept = { s.kept with
        schedule := t.schedule
        session := t.session
        capacity := t.capacity
        storageDischarge := t.storageDischarge } := by
  rw [State.loadEnd]
  split
  · have h := (recapped_settle (s.withLoad l w) s true false).kept
    generalize (allocate (s.withLoad l w).event.recapacity).settle s true false = t at h
    have hsched : t.schedule = w.schedule := (congrArg Kept.schedule h :)
    have hsession : t.session = some { l with pointer := w.pointer } := (congrArg Kept.session h :)
    have hcap : t.capacity = t.capacityNow := (congrArg Kept.capacity h :)
    have hdis : t.storageDischarge = t.dischargeNow := (congrArg Kept.storageDischarge h :)
    refine ⟨hsched, hsession, ?_⟩
    rw [hsched, hsession, hcap, hdis]
    exact h
  · exact ⟨rfl, rfl, rfl⟩

/-- A write to the current slot has S_dis, A, the charge allowance and the tank command worked out again (R49, R55). -/
theorem loadEnd_current {s : State} {l : LoadSession} {start : Nat} {w : LoadWork}
    (h : s.writesCurrent start w.pointer = true) :
    let t := s.loadEnd l start w
    t.capacity = t.capacityNow ∧ t.storageDischarge = t.dischargeNow ∧ t.chargeAllowance = t.chargeNow ∧
      s.tankSettled t false := by
  have hk := (recapped_settle (s.withLoad l w) s true false).kept
  have hstore := storage_settle (e := (s.withLoad l w).event.recapacity) (before := s) (t := true) (r := false)
    (.inl rfl) rfl rfl
  rw [State.loadEnd, if_pos h]
  generalize (allocate (s.withLoad l w).event.recapacity).settle s true false = t at hk hstore
  exact ⟨(congrArg Kept.capacity hk :), (congrArg Kept.storageDischarge hk :), hstore⟩

/-- Where no record lands in the current slot, the load is all there is (R55). -/
theorem loadEnd_elsewhere {s : State} {l : LoadSession} {start : Nat} {w : LoadWork}
    (h : ¬ s.writesCurrent start w.pointer = true) : s.loadEnd l start w = s.withLoad l w := if_neg h

/-- A START or CONTINUE that the open session takes (R53). -/
theorem exec_schedData {s : State} {tag flag : Nat} {records : List SlotFields} {c : Instr} {l : LoadSession} (hs : s.ready)
    (hc : c.asRequest = some (tag, .schedData flag records)) (h1 : 1 ≤ records.length) (h2 : records.length ≤ 24)
    (hf : flag ≤ 1) (hl : s.session = some l) :
    let start := if flag = 0 then l.first else l.pointer
    let w := s.loadWork l start records
    exec c s = .next ((s.loadEnd l start w).answeredOnly tag (.done [⟨2, w.written⟩, ⟨2, w.spilled⟩, ⟨2, w.coerced⟩])) :=
  exec_keeping hc hs (onSchedData_open s h1 h2 hf hl) rfl

/-- Settles O38: the checks of R53, and the records loaded with the end of the event that a write to the current slot brings. -/
theorem schedDataIsLoaded : Obligations.SchedDataIsLoaded := by
  refine fun s tag records hs => ⟨fun h => ?_, fun h1 h2 hn => ?_, fun flag body hb hf h1 h2 => ?_,
    fun l c start h1 h2 hl _ hc => ?_⟩
  · exact ⟨exec_refused rfl hs (onSchedData_format s 0 h), exec_refused rfl hs (onSchedData_format s 1 h)⟩
  · exact ⟨exec_refused rfl hs (onSchedData_sequence s h1 h2 (by decide) hn),
      exec_refused rfl hs (onSchedData_sequence s h1 h2 (by decide) hn)⟩
  · rw [exec_frame_ready hs, hb]
    exact congrArg _ (handle_refused (r := .schedData flag records) (onSchedData_range s h1 h2 hf))
  intro written coerced stored
  have hexec : exec c s = .next ((s.loadEnd l start (s.loadWork l start records)).answeredOnly tag
      (.done [⟨2, (s.loadWork l start records).written⟩, ⟨2, (s.loadWork l start records).spilled⟩,
        ⟨2, (s.loadWork l start records).coerced⟩])) := by
    rcases hc with ⟨rfl, rfl⟩ | ⟨rfl, rfl⟩
    · exact exec_schedData (flag := 0) hs rfl h1 h2 (by decide) hl
    · exact exec_schedData (flag := 1) hs rfl h1 h2 (by decide) hl
  have hstored : stored = storedSlot s.plant.maxDischarge := funext fun r => (storedSlot_eq _ r).symm
  obtain ⟨hpointer, hwritten, hspilled, hcoerced, hslots⟩ := loadWork_eq s l start records
  rw [hwritten, hspilled, hcoerced] at hexec
  obtain ⟨hsched, hsession, hk⟩ := loadEnd_kept s l start (s.loadWork l start records)
  have hcur := loadEnd_current (s := s) (l := l) (start := start) (w := s.loadWork l start records)
  have helse := loadEnd_elsewhere (s := s) (l := l) (start := start) (w := s.loadWork l start records)
  rw [writesCurrent_iff, hpointer] at hcur helse
  rw [hpointer] at hsession
  generalize s.loadWork l start records = w at hexec hslots hsched hsession hk hcur helse
  generalize s.loadEnd l start w = v at hexec hsched hsession hk hcur helse
  have hlink : v.link.kept = s.link.kept := (congrArg Kept.link hk :)
  have hkept := kept_answeredOnly v ((congrArg LinkKept.replies hlink :).trans hs.2.2.2) tag
    (.done [⟨2, written⟩, ⟨2, records.length - written⟩, ⟨2, coerced⟩])
  rw [hlink] at hkept
  refine ⟨_, hexec, answered_of_kept hs hkept rfl, hsession, fun i => ?_, ?_, fun i hi hge hlt => ?_, fun hi => ?_⟩
  · rw [hstored, ← hslots i, ← hsched]
    rfl
  · exact hkept.trans (by rw [hk]; rfl)
  · obtain ⟨hcap, hdis, hcharge, htank⟩ := hcur ⟨i, hi, hge, hlt⟩
    exact ⟨hcap, hdis, hcharge, tankSettled_of_unjudged (t := v) rfl htank⟩
  · rw [helse fun ⟨i, h, hge, hlt⟩ => (hi i h).elim hge.not_gt hlt.not_ge]
    exact ⟨rfl, rfl, rfl, rfl, rfl, rfl, rfl, rfl⟩

end Sys2Proof.Machine
end

section
/-!
SUPPORT. Flow cap arithmetic (Section 4.2): when a flow cap lies at or below a flow (R59), the cap of a room (R66), and a
branch's cap sum with one of its stations set apart (R64, R65).
-/

namespace Sys2Proof.Machine

/-! ### The flow cap and the kW equivalent (R59 to R61) -/

/-- A flow cap is at most `c` exactly while the figure, as a flow, is less than half a dL/s above it (R59). -/
theorem flowCap_le_iff {k d c : Nat} (hd : 0 < d) : flowCap k d ≤ c ↔ k * 100000 < (2 * c + 1) * (2093 * d) := by
  have hhalf : 4186 * d / 2 = 2093 * d := by omega
  have hodd : (c + 1) * (4186 * d) = (2 * c + 1) * (2093 * d) + 2093 * d := by ring
  rw [flowCap, hhalf, ← Nat.lt_succ_iff, Nat.div_lt_iff_lt_mul (by omega), Nat.succ_eq_add_one, hodd]
  omega

/-- The flow cap never rises as the difference rises (R59). -/
theorem flowCap_antitone {d e : Nat} (hd : 0 < d) (h : d ≤ e) (k : Nat) : flowCap k e ≤ flowCap k d :=
  (flowCap_le_iff (hd.trans_le h)).mpr <| calc
    k * 100000 < (2 * flowCap k d + 1) * (2093 * d) := (flowCap_le_iff hd).mp le_rfl
    _ ≤ (2 * flowCap k d + 1) * (2093 * e) := Nat.mul_le_mul_left _ (Nat.mul_le_mul_left _ h)

/-- The flow cap lies within half a dL/s of the quotient, an exact half rounded up (R59). -/
theorem flowCap_nearest (k : Nat) {d : Nat} (hd : 0 < d) :
    2 * (k * 100000) < (2 * flowCap k d + 1) * (4186 * d) ∧
      2 * flowCap k d * (4186 * d) ≤ 2 * (k * 100000) + 4186 * d := by
  refine ⟨?_, ?_⟩
  · have h := (flowCap_le_iff hd).mp (le_refl (flowCap k d))
    have hdouble : (2 * flowCap k d + 1) * (4186 * d) = 2 * ((2 * flowCap k d + 1) * (2093 * d)) := by ring
    omega
  · have h : flowCap k d * (4186 * d) ≤ k * 100000 + 4186 * d / 2 := Nat.div_mul_le_self _ _
    rw [Nat.mul_assoc]
    omega

/-- The kW equivalent is the quotient rounded up, up to 20000 kW (R61). -/
theorem kwEquivalent_least {f d : Nat} (h : f * 4186 * d ≤ 20000 * 100000) :
    f * 4186 * d ≤ kwEquivalent f d * 100000 ∧ kwEquivalent f d * 100000 < f * 4186 * d + 100000 := by
  unfold kwEquivalent
  omega

theorem kwEquivalent_of_above {f d : Nat} (h : 20000 * 100000 < f * 4186 * d) : kwEquivalent f d = 20000 := by
  unfold kwEquivalent
  omega

theorem kwEquivalent_zero (d : Nat) : kwEquivalent 0 d = 0 := by
  simp [kwEquivalent]

/-- Any flow counts as at least 1 kW (R61). -/
theorem kwEquivalent_pos {f d : Nat} (hf : 0 < f) (hd : 0 < d) : 0 < kwEquivalent f d := by
  have : 0 < f * 4186 * d := by positivity
  unfold kwEquivalent
  omega

/-- Settles O16: each limit case of R60 by the bound on a flow cap. -/
theorem flowCapLimits : Obligations.FlowCapLimits := by
  refine ⟨fun d _ _ => flowCap_zero d, fun k _ h => ?_, by decide, by decide, by decide, by decide, by decide, by decide,
    fun k d hk hd _ => ?_⟩
  · exact Nat.le_zero.mp ((flowCap_le_iff (by decide)).mpr (by omega))
  · exact (flowCap_le_iff (by omega)).mpr (by omega)

/-- Settles O17: the rounding and the monotony of R59, and the least whole number of kW of R61. -/
theorem conversionsRound : Obligations.ConversionsRound :=
  ⟨fun k _ hd _ => flowCap_nearest k (by omega), fun _ _ d _ h => flowCap_mono h d,
    fun k _ _ hd h => flowCap_antitone (by omega) h k, fun _ _ => ⟨kwEquivalent_least, kwEquivalent_of_above⟩,
    kwEquivalent_zero, fun _ _ hf hd => kwEquivalent_pos hf (by omega), by decide, by decide⟩

/-! ### A cap sum with one station set apart (R64, R65) -/

/-- A grant of the kW of a room has a cap within the room (R66). -/
theorem flowCap_kwRoom_le (r d : Nat) : flowCap (kwRoom r d) d ≤ r := by
  rcases Nat.eq_zero_or_pos d with rfl | hd
  · rw [flowCap, Nat.mul_zero, Nat.div_zero]
    exact Nat.zero_le r
  · have hroom : kwRoom r d * 100000 ≤ r * 4186 * d := Nat.div_mul_le_self _ _
    have hodd : (2 * r + 1) * (2093 * d) = r * 4186 * d + 2093 * d := by ring
    exact (flowCap_le_iff hd).mpr (by omega)

/-- The grant caps of the other stations of a branch's window (R65). -/
def State.otherCaps (s : State) (b : Fin 6) (n : Fin 48) : Nat :=
  sumOver ((s.windowStations b).filter fun m => decide (m ≠ n)) fun m => (s.stn m).grantCap

theorem room_eq (s : State) (b : Fin 6) (n : Fin 48) :
    s.room b n = kwRoom (s.flowLimit b - s.otherCaps b n) (s.stn n).grantDt := rfl

theorem mem_windowStations {s : State} {b : Fin 6} {n : Fin 48} : n ∈ s.windowStations b ↔ s.inWindow b n = true := by
  simp [State.windowStations, allStations]

theorem capSum_eq_add_otherCaps {s : State} {b : Fin 6} {n : Fin 48} (h : s.inWindow b n = true) :
    s.capSum b = (s.stn n).grantCap + s.otherCaps b n := by
  have herase : (s.windowStations b).erase n = (s.windowStations b).filter fun m => decide (m ≠ n) :=
    ((nodup_allStations.filter _).erase_eq_filter n).trans (List.filter_congr fun m _ => by simp [bne, beq_eq_decide])
  rw [State.otherCaps, ← herase]
  exact (List.sum_map_erase _ (mem_windowStations.mpr h)).symm

section
variable {s : State} {b : Fin 6} {n : Fin 48}

theorem otherCaps_setStn (r : Station) : (s.setStn n r).otherCaps b n = s.otherCaps b n := by
  refine congrArg List.sum (List.map_congr_left fun m hm => ?_)
  have : m ≠ n := of_decide_eq_true (List.mem_filter.mp hm).2
  rw [stn_setStn_ne s this]

/-- A cap sum with the record of a station of the window rewritten. -/
theorem capSum_setStn_inside (h : s.inWindow b n = true) (r : Station) :
    (s.setStn n r).capSum b = r.grantCap + s.otherCaps b n := by
  rw [capSum_eq_add_otherCaps (s := s.setStn n r) h, stn_setStn_same, otherCaps_setStn]

theorem capSum_setStn_outside (h : ¬ s.inWindow b n = true) (r : Station) : (s.setStn n r).capSum b = s.capSum b := by
  refine congrArg List.sum (List.map_congr_left fun m hm => ?_)
  have : m ≠ n := fun e => h (e ▸ mem_windowStations.mp hm)
  rw [stn_setStn_ne s this]

/-- A grant of no more than the branch room leaves the cap sum at or below the limit (R66). -/
theorem capSum_setStn_within (h : s.inWindow b n = true) (hs : s.capSum b ≤ s.flowLimit b) {r : Station}
    (hd : r.grantDt = (s.stn n).grantDt) (hr : r.grantKw ≤ s.room b n) : (s.setStn n r).capSum b ≤ s.flowLimit b := by
  rw [capSum_eq_add_otherCaps h] at hs
  have hcap : r.grantCap ≤ s.flowLimit b - s.otherCaps b n :=
    calc r.grantCap = flowCap r.grantKw (s.stn n).grantDt := by rw [Station.grantCap, hd]
      _ ≤ flowCap (s.room b n) (s.stn n).grantDt := flowCap_mono hr _
      _ ≤ s.flowLimit b - s.otherCaps b n := by rw [room_eq]; exact flowCap_kwRoom_le _ _
  rw [capSum_setStn_inside h]
  omega

end

/-- Settles O18: the cap of a room, and the cap sum with one station's grant set to its room. -/
theorem roomNeverOverfillsABranch : Obligations.RoomNeverOverfillsABranch :=
  ⟨fun r d _ _ => flowCap_kwRoom_le r d, fun _ _ _ h hs _ _ => capSum_setStn_within h hs rfl le_rfl⟩

end Sys2Proof.Machine
end

section
/-!
SUPPORT. The allocator leaves every enabled branch within its flow limit (R64, R66, R101, R108 to R110): a branch shed ends at or below
the limit, no cut raises a cap, and an offer stays within the branch room.
-/

namespace Sys2Proof.Machine

open Relation (ReflTransGen)

/-! ### What the law of the caps is about -/

/-- What the law of the caps is about: the grant caps, and the branches' windows and limits (R64). -/
def State.caps (s : State) : (Fin 48 → Nat) × (Fin 6 → BranchSettings) :=
  (fun n => (s.stn n).grantCap, fun b => (s.br b).settings)

theorem caps_eq {s t : State} (hc : ∀ n, (t.stn n).grantCap = (s.stn n).grantCap)
    (hset : ∀ b, (t.br b).settings = (s.br b).settings) : t.caps = s.caps := Prod.ext (funext hc) (funext hset)

theorem settings_of_caps {s t : State} (h : t.caps = s.caps) (b : Fin 6) : (t.br b).settings = (s.br b).settings :=
  congrFun (congrArg Prod.snd h) b

theorem capsLawful_of_caps {s t : State} (h : t.caps = s.caps) (hc : s.capsLawful) : t.capsLawful := by
  have hcap : (fun n => (t.stn n).grantCap) = fun n => (s.stn n).grantCap := congrArg Prod.fst h
  have hset := settings_of_caps h
  intro b hb
  rw [hset] at hb
  rw [State.capSum, hcap, branchWindow_of_settings hset, State.flowLimit, hset]
  exact hc b hb

theorem caps_setStn {s : State} {n : Fin 48} {r : Station} (h : r.grantCap = (s.stn n).grantCap) :
    (s.setStn n r).caps = s.caps := by
  refine caps_eq (fun m => ?_) fun b => by rw [br_setStn]
  rw [stn_setStn]
  split
  · next e => rw [e, h]
  · rfl

/-! ### Branches within their limits -/

/-- The caps are lawful exactly where no branch calls for a shed (R64, R108). -/
theorem capsLawful_iff (s : State) : s.capsLawful ↔ ∀ b, s.overLimit b = false := by
  refine ⟨overLimit_of_lawful, fun h b hb => ?_⟩
  have := h b
  simpa [State.overLimit, hb] using this

/-- A branch within its limit stays so while the settings stay and no cap rises. -/
theorem overLimit_of_fallen {s t : State} (hset : ∀ b, (t.br b).settings = (s.br b).settings)
    (hc : ∀ n, (t.stn n).grantCap ≤ (s.stn n).grantCap) {b : Fin 6} (h : s.overLimit b = false) : t.overLimit b = false := by
  have hle : t.capSum b ≤ s.capSum b := by
    rw [State.capSum, State.capSum, branchWindow_of_settings hset]
    exact sumOver_le _ hc
  simp only [State.overLimit, State.flowLimit, hset, Bool.and_eq_false_iff, decide_eq_false_iff_not] at h ⊢
  rcases h with h | h
  · exact .inl h
  · have := of_decide_eq_false h
    exact .inr (by omega)

/-! ### The sheds (R108 to R110) -/

theorem CutStep.settings {w w' : State × List (Fin 48)} (h : CutStep w w') (b : Fin 6) :
    (w'.1.br b).settings = (w.1.br b).settings := by
  cases h with
  | moved a => rfl
  | cut n k hg => rfl
  | raised n => rw [br_raise]

theorem CutStep.cap_le {w w' : State × List (Fin 48)} (h : CutStep w w') (m : Fin 48) :
    (w'.1.stn m).grantCap ≤ (w.1.stn m).grantCap := by
  cases h with
  | moved a => exact le_rfl
  | cut n k hg =>
    rw [stn_updStn]
    split
    · next e => rw [e]; exact flowCap_mono (Nat.sub_le _ _) _
    · exact le_rfl
  | raised n => rw [stn_raise]

/-- No cut brings a branch above its limit (R110). -/
theorem overLimit_cuts {w w' : State × List (Fin 48)} (hs : ReflTransGen CutStep w w') {b : Fin 6}
    (h : w.1.overLimit b = false) : w'.1.overLimit b = false :=
  CutStep.run_keeps (P := fun w => w.1.overLimit b = false)
    (fun _ _ hstep h => overLimit_of_fallen hstep.settings hstep.cap_le h) hs h

/-- Every branch of a list is within its limit once the branch sheds of the list are done (R108). -/
theorem overLimit_branchSheds {l : List (Fin 6)} {w : State × List (Fin 48)} (hq : 0 < w.1.plant.quantum) {b : Fin 6}
    (hb : b ∈ l) : (branchSheds l w).1.overLimit b = false := by
  induction l generalizing w with
  | nil => cases hb
  | cons d l ih =>
    have hcons : branchSheds (d :: l) w =
        branchSheds l (if w.1.overLimit d then ((shed (.branch d) w.1 w.2).st, (shed (.branch d) w.1 w.2).changed) else w) := rfl
    rw [hcons]
    rcases List.mem_cons.mp hb with rfl | hb
    · refine overLimit_cuts (branchSheds_steps l _) ?_
      split
      · simp [State.overLimit, (shed_branch b w.1 w.2 hq).fits]
      · next h => exact Bool.eq_false_iff.mpr h
    · refine ih ?_ hb
      split
      · rw [plant_of_kept (kept_shed _ _ _)]
        exact hq
      · exact hq

/-- The sheds of an event leave every branch within its limit (R108, R110). -/
theorem capsLawful_sheds {s : State} (hq : 0 < s.plant.quantum) : (sheds s).1.capsLawful := by
  refine (capsLawful_iff _).mpr fun b => ?_
  have h : (branchSheds allBranches (s, [])).1.overLimit b = false := overLimit_branchSheds hq (List.mem_finRange b)
  rw [sheds_eq]
  dsimp only
  split
  · exact overLimit_cuts (shed_steps .plant _ _) h
  · exact h

/-! ### Windows apart (R116) -/

/-- No two branches' windows share a station number (R116). -/
def State.windowsApart (s : State) : Prop :=
  ∀ b c : Fin 6, b ≠ c → windowsOverlap (s.br b).settings.window (s.br c).settings.window = false

theorem windowsOverlap_of_held {v w : Option Range} {n : Nat} (hv : rangeHolds v n = true) (hw : rangeHolds w n = true) :
    windowsOverlap v w = true := by
  cases v with
  | none => cases hv
  | some v =>
    cases w with
    | none => cases hw
    | some w =>
      simp only [rangeHolds, Range.holds, decide_eq_true_eq] at hv hw
      simp only [windowsOverlap, Range.overlaps, Bool.and_eq_true, decide_eq_true_eq]
      omega

/-- A station lies in the window of one branch at most (R6, R116). -/
theorem State.windowsApart.unique {s : State} (h : s.windowsApart) {b c : Fin 6} {n : Fin 48} (hb : s.inWindow b n = true)
    (hc : s.inWindow c n = true) : b = c := by
  by_contra hne
  have := h b c hne
  rw [windowsOverlap_of_held hb hc] at this
  cases this

theorem inWindow_of_branchOf {s : State} {b : Fin 6} {n : Fin 48} (h : s.branchOf n = some b) : s.inWindow b n = true :=
  List.find?_some (p := fun b => s.inWindow b n) h

/-! ### The grant pass (R66, R81) -/

theorem given_le_room (s : State) (b : Fin 6) (n : Fin 48) (h : Int) (hr : (s.stn n).grantKw < s.room b n) :
    (s.stn n).grantKw + s.given b n h ≤ s.room b n := by
  unfold State.given
  omega

/-- No step of a pass brings a branch above its limit (R66). -/
theorem PassStep.capsLawful {w w' : PassWork} (h : PassStep w w') (hw : w.st.windowsApart) (hc : w.st.capsLawful) :
    w'.st.capsLawful := by
  cases h with
  | moved a => exact hc
  | bound n b hn hh hb hr =>
    exact capsLawful_of_caps (caps_setStn rfl) hc
  | given n b hn hh hb hr r hg =>
    intro d hd
    show (w.st.setStn n r).capSum d ≤ w.st.flowLimit d
    by_cases hin : w.st.inWindow d n = true
    · obtain rfl := hw.unique hin (inWindow_of_branchOf hb)
      refine capSum_setStn_within hin (hc d hd) (by rw [hg]) ?_
      rw [hg]
      exact given_le_room w.st d n w.h hr
    · rw [capSum_setStn_outside hin]
      exact hc d hd

theorem capsLawful_grantPass {s : State} (hw : s.windowsApart) (hc : s.capsLawful) (l : List (Fin 48)) :
    (grantPass s l).st.capsLawful :=
  (PassStep.run_keeps (P := fun w => w.st.windowsApart ∧ w.st.capsLawful) (fun w w' h ⟨hw, hc⟩ =>
    ⟨by simp only [State.windowsApart, settings_of_ungranted h.ungranted]; exact hw, h.capsLawful hw hc⟩)
    (grantPass_steps s l) ⟨hw, hc⟩).2

/-! ### The allocator, and the end of the event -/

theorem State.SameAllotment.caps {s t : State} (h : s.SameAllotment t) : t.caps = s.caps := caps_eq h.grantCap h.settings

theorem settings_of_kept {s t : State} (h : t.kept = s.kept) (b : Fin 6) : (t.br b).settings = (s.br b).settings :=
  (congrArg Prod.fst (congrFun (congrArg Kept.branches h) b) :)

/-- Where windows lie apart and a quantum can be cut, the allocator leaves every enabled branch within its limit, whatever the
event has done to the caps before it (R64, R78). -/
theorem capsLawful_allocate {e : Event} (hq : 0 < e.st.plant.quantum) (hw : e.st.windowsApart) : (allocate e).capsLawful := by
  have hs := capsLawful_sheds hq
  have hset := settings_of_kept (kept_sheds e.st)
  unfold allocate
  generalize sheds e.st = w at hs hset
  dsimp only
  split
  · have hp : (grantPass w.1 w.2).st.capsLawful :=
      capsLawful_grantPass (by simp only [State.windowsApart, hset]; exact hw) hs w.2
    exact capsLawful_of_caps (sameAllotment_handChanges _ _ _).caps hp
  · exact capsLawful_of_caps (sameAllotment_handChanges _ _ _).caps hs

@[simp] theorem caps_settle (s before : State) (t r : Bool) : (s.settle before t r).caps = s.caps :=
  (sameAllotment_settle s before t r).caps

end Sys2Proof.Machine
end

section
/-!
SUPPORT. The law of the caps through the events (R64): an event leaves the caps as they were, or it ends with the allocator, which finds
the settings that the law rests on as they were.
-/

namespace Sys2Proof.Machine

/-! ### Operations that leave the caps alone -/

theorem caps_updStn {s : State} {n : Fin 48} {f : Station → Station} (h : (f (s.stn n)).grantCap = (s.stn n).grantCap) :
    (s.updStn n f).caps = s.caps := caps_setStn h

theorem caps_updBr {s : State} {b : Fin 6} {f : Branch → Branch} (h : (f (s.br b)).settings = (s.br b).settings) :
    (s.updBr b f).caps = s.caps := by
  refine caps_eq (fun n => by rw [stn_updBr]) fun d => ?_
  rw [br_updBr]
  split
  · next e => rw [e, h]
  · rfl

theorem caps_of_unsent {s t : State} (h : t.unsent = s.unsent) : t.caps = s.caps :=
  caps_eq (fun n => (congrArg Station.grantCap (stn_unsent_of_eq h n) :)) (settings_of_unsent_eq h)

theorem caps_of_unjudged {s t : State} (h : t.unjudged = s.unjudged) : t.caps = s.caps := (congrArg State.caps h :)

@[simp] theorem caps_raise (s : State) (k : FaultKind) (x : Nat) : (s.raise k x).caps = s.caps :=
  caps_eq (fun n => by rw [stn_raise]) fun b => by rw [br_raise]

@[simp] theorem caps_judgeRelay (s : State) : s.judgeRelay.caps = s.caps := rfl

@[simp] theorem caps_arbitrateAll (s : State) : s.arbitrateAll.caps = s.caps := caps_of_unsent (unsent_arbitrateAll s)

@[simp] theorem caps_finishPressure (s before : State) : (s.finishPressure before).caps = s.caps :=
  caps_of_unjudged (unjudged_finishPressure s before)

@[simp] theorem caps_endTxn (s : State) (b : Fin 6) : (s.endTxn b).caps = s.caps := caps_updBr rfl

theorem State.Roused.caps {s t : State} (h : s.Roused t) : t.caps = s.caps := h.same.caps

@[simp] theorem caps_judgeOffering (s : State) (b : Fin 6) : (s.judgeOffering b).caps = s.caps := by
  unfold State.judgeOffering
  split
  · exact caps_updBr rfl
  · rfl

@[simp] theorem caps_endRead (s : State) (b : Fin 6) (n : Fin 48) (o : MeterOutcome) : (s.endRead b n o).caps = s.caps :=
  caps_eq (fun m => by rw [stn_endRead]) (settings_of_kept (kept_endRead s b n o))

@[simp] theorem caps_closeSession (s : State) (r : Request) (reply : Reply) : (s.closeSession r reply).caps = s.caps := by
  unfold State.closeSession
  split <;> rfl

@[simp] theorem caps_reply (s : State) (tag : Nat) (r : Reply) (p : LinkPhase) : (s.reply tag r p).caps = s.caps := rfl

/-- Where no station holds a grant every cap sum is 0 dL/s. -/
theorem capsLawful_of_no_grants {s : State} (h : ∀ n, (s.stn n).grantKw = 0) : s.capsLawful := by
  intro b _
  have hsum : s.capSum b = 0 := sumOver_eq_zero fun n => by rw [Station.grantCap, h, flowCap_zero]
  rw [hsum]
  exact Nat.zero_le _

/-! ### The settings that the law rests on -/

/-- What of the kept part the allocator takes its limits from: the plant settings and the branches' settings. -/
def Kept.limits (k : Kept) : PlantSettings × (Fin 6 → BranchSettings) := (k.plant, fun b => (k.branches b).1)

theorem limits_eq {s t : State} (hp : t.plant = s.plant) (hset : ∀ b, (t.br b).settings = (s.br b).settings) :
    t.kept.limits = s.kept.limits := Prod.ext hp (funext hset)

theorem plant_of_limits {s t : State} (h : t.kept.limits = s.kept.limits) : t.plant = s.plant := congrArg Prod.fst h

theorem settings_of_limits {s t : State} (h : t.kept.limits = s.kept.limits) (b : Fin 6) :
    (t.br b).settings = (s.br b).settings := congrFun (congrArg Prod.snd h) b

@[simp] theorem limits_withStation (k : Kept) (n : Fin 48) (r : Station) : (k.withStation n r).limits = k.limits := rfl

theorem limits_updBr {s : State} {b : Fin 6} {f : Branch → Branch} (h : (f (s.br b)).settings = (s.br b).settings) :
    (s.updBr b f).kept.limits = s.kept.limits :=
  limits_eq rfl (settings_of_caps (caps_updBr h))

/-- The law of the caps with what keeps it: disjoint windows and lawful grants (R64, R104, R116). -/
structure State.withinLimits (s : State) : Prop where
  windows : s.windowsLawful
  grants : s.grantsLawful
  caps : s.capsLawful

section
variable {s : State} (h : s.withinLimits)
include h

/-- The allocator brings the caps within the limits after any event that leaves the settings alone (R78). -/
theorem State.withinLimits.allocate {e : Event} (hk : e.st.kept.limits = s.kept.limits) : (allocate e).capsLawful := by
  have hq : 10 ≤ s.plant.quantum := h.grants.2.2
  refine capsLawful_allocate (by rw [plant_of_limits hk]; omega) fun b c hbc => ?_
  rw [settings_of_limits hk, settings_of_limits hk]
  exact h.windows.2 b c hbc

theorem State.withinLimits.allocate_settle {e : Event} {k : Kept} (hk : e.st.kept = k) (hl : k.limits = s.kept.limits)
    (before : State) (t r : Bool) : ((Machine.allocate e).settle before t r).capsLawful :=
  capsLawful_of_caps (caps_settle _ _ _ _) (h.allocate ((congrArg Kept.limits hk).trans hl))

theorem State.withinLimits.finish {e : Event} {k : Kept} (hk : e.st.kept = k) (hl : k.limits = s.kept.limits) (before : State) :
    (e.finish before).capsLawful := h.allocate_settle hk hl before _ _

/-- An event in which A is worked out again (R39). -/
theorem State.withinLimits.recapped {v : State} {k : Kept} (hk : v.kept = k) (hl : k.limits = s.kept.limits) (before : State) :
    (v.event.recapacity.finish before).capsLawful :=
  h.finish (kept_recapacity v.event) ((congrArg Kept.limits hk).trans hl) before

end

end Sys2Proof.Machine
end

section
/-!
SUPPORT. The law of the caps through the host's requests (R64): every request that moves a grant, a ΔT, a window or a limit ends with the
allocator.
-/

namespace Sys2Proof.Machine

/-! ### The host's requests -/

theorem onGetStn_fst (s : State) (n : Nat) : (s.onGetStn n).1 = s := by
  unfold State.onGetStn
  split <;> rfl

theorem onGetBr_fst (s : State) (b part : Nat) : (s.onGetBr b part).1 = s := by
  unfold State.onGetBr
  split <;> rfl

theorem onGetPlant_fst (s : State) (part : Nat) : (s.onGetPlant part).1 = s := by
  unfold State.onGetPlant
  split <;> rfl

theorem onGetFaults_fst (s : State) (part : Nat) : (s.onGetFaults part).1 = s := by
  unfold State.onGetFaults
  split <;> rfl

section
variable {s : State} (h : s.withinLimits)
include h

theorem capsLawful_onClock (tod : Nat) : (s.onClock tod).1.capsLawful := by
  unfold State.onClock State.setClock
  split
  · exact h.caps
  · dsimp only
    split
    · exact h.caps
    · exact h.recapped (v := { s with clock := some tod }) rfl rfl s

theorem capsLawful_onStnDef (f : StnDefFields) : (s.onStnDef f).1.capsLawful := by
  unfold State.onStnDef
  split
  · next n _ _ _ =>
    dsimp only
    split
    · exact h.finish (e := ⟨s.setStn n _, false⟩) (kept_setStn_with s n _) rfl s
    · exact h.finish (kept_redefine s _ _) rfl s
  · exact h.caps

theorem capsLawful_onStnDrop (n : Nat) : (s.onStnDrop n).1.capsLawful := by
  unfold State.onStnDrop
  split
  · split
    · exact h.caps
    · next n _ _ =>
      have hk := kept_drop s n
      rw [kept_finish] at hk
      exact h.finish hk rfl s
  · exact h.caps

theorem capsLawful_onIsolate (base limit : Nat) : (s.onIsolate base limit).1.capsLawful := by
  unfold State.onIsolate
  split
  · split
    · exact h.caps
    · exact h.finish (kept_setIsolation s _) rfl s
  · exact h.caps

theorem capsLawful_onChDef (f : ChDefFields) : (s.onChDef f).1.capsLawful := by
  unfold State.onChDef
  split
  · split
    · exact h.recapped (kept_defineChiller s _ _) rfl s
    · exact h.caps
  · exact h.caps

/-- CHILLER-STOP takes the unit from A; any other CH-CMD leaves the caps and A alone (R30, R31). -/
theorem capsLawful_onChCmd (unit command : Nat) : (s.onChCmd unit command).1.capsLawful := by
  unfold State.onChCmd
  split
  · unfold State.chillerStart
    dsimp only
    repeat' split
    all_goals exact h.caps
  · unfold State.chillerStop
    dsimp only
    split
    · split
      · exact h.recapped (v := s.stopChiller _) rfl rfl s
      · exact h.caps
    all_goals exact h.caps
  · exact h.caps

/-- An accepted PLANT-DEF brings a quantum of its own, which its range keeps from 0 kW (R76). -/
theorem capsLawful_onPlantDef (p : PlantSettings) : (s.onPlantDef p).1.capsLawful := by
  cases hr : p.inRange with
  | false => rw [onPlantDef_refused s hr]; exact h.caps
  | true =>
    have hq : 10 ≤ p.quantum := ((inRange_plant_iff p).mp hr).2.1.1
    have hk := (kept_recomputedPlant s p).trans (by rw [kept_replanted])
    have hp : (s.recomputedPlant p).st.plant = p := (congrArg Kept.plant hk :)
    have hset (b : Fin 6) : ((s.recomputedPlant p).st.br b).settings = (s.br b).settings :=
      (congrArg (fun k => (k.branches b).1) hk :)
    rw [onPlantDef_accepted s hr, applyPlant_eq]
    refine capsLawful_of_caps (caps_settle _ _ _ _) (capsLawful_allocate ?_ fun b c hbc => ?_)
    · rw [callPass_st, hp]
      omega
    · rw [callPass_st, hset, hset]
      exact h.windows.2 b c hbc

theorem capsLawful_onSchedWin (a b : Nat) : (s.onSchedWin a b).1.capsLawful := by
  unfold State.onSchedWin
  split <;> exact h.caps

theorem capsLawful_loadEnd (l : LoadSession) (start : Nat) (w : LoadWork) : (s.loadEnd l start w).capsLawful := by
  by_cases hw : s.writesCurrent start w.pointer = true
  · rw [State.loadEnd, if_pos hw]
    exact h.allocate_settle (kept_recapacity (s.withLoad l w).event) rfl s true false
  · rw [loadEnd_elsewhere hw]
    exact h.caps

theorem capsLawful_onSchedData (flag : Nat) (records : List SlotFields) : (s.onSchedData flag records).1.capsLawful := by
  unfold State.onSchedData
  split
  · exact h.caps
  split
  · exact h.caps
  split
  · exact h.caps
  · rw [loadSlots_eq]
    exact capsLawful_loadEnd h _ _ _

theorem capsLawful_onRefDef (f : RefDefFields) : (s.onRefDef f).1.capsLawful := by
  unfold State.onRefDef
  split
  · exact capsLawful_of_caps (caps_finishPressure _ s) h.caps
  · exact h.caps

theorem capsLawful_onPumpDef (p : PumpSettings) : (s.onPumpDef p).1.capsLawful := by
  unfold State.onPumpDef State.setPump
  dsimp only
  repeat' split
  all_goals exact h.caps

theorem capsLawful_onBrRest (n : Nat) : (s.onBrRest n).1.capsLawful := by
  unfold State.onBrRest
  split
  · exact h.caps
  · split
    · exact h.caps
    · split
      · exact h.caps
      · exact h.caps
      · exact h.caps
      · split
        · exact h.finish (kept_enterOffering s _) rfl s
        · exact h.caps

theorem capsLawful_onBrWake (n : Nat) : (s.onBrWake n).1.capsLawful := by
  have hwake (b : Fin 6) : ((s.enterWaking b).settle s false false).capsLawful :=
    capsLawful_of_caps ((caps_settle _ _ _ _).trans (roused_enterWaking s b).1.caps) h.caps
  unfold State.onBrWake
  split
  · exact h.caps
  · split
    · exact h.caps
    · split
      · exact hwake _
      · exact hwake _
      · exact h.caps
      · exact h.caps

theorem capsLawful_onMeter (tag n : Nat) : (s.onMeter tag n).1.capsLawful := by
  unfold State.onMeter
  repeat' split
  case isFalse => exact capsLawful_of_caps ((caps_settle _ _ _ _).trans (caps_updBr rfl)) h.caps
  all_goals exact h.caps

theorem capsLawful_onFaultAck (kind subject : Nat) : (s.onFaultAck kind subject).1.capsLawful := by
  unfold State.onFaultAck
  repeat' split
  all_goals exact h.caps

theorem capsLawful_onFaultMask (mask : Nat) : (s.onFaultMask mask).1.capsLawful := by
  unfold State.onFaultMask
  split <;> exact h.caps

end

/-! ### BR-DEF -/

theorem windowsOverlap_comm (v w : Option Range) : windowsOverlap v w = windowsOverlap w v := by
  match v, w with
  | some x, some y => exact Bool.and_comm _ _
  | some _, none | none, some _ | none, none => rfl

/-- A window that is not taken leaves the windows apart (R117, check 2). -/
theorem windowsApart_withSettings {s t : State} (h : s.windowsApart) {b : Fin 6} {c : BranchSettings}
    (hset : ∀ d, (t.br d).settings = if d = b then c else (s.br d).settings) (ht : s.windowTaken b c.window = false) :
    t.windowsApart := by
  have hfree (d : Fin 6) (hd : d ≠ b) : windowsOverlap c.window (s.br d).settings.window = false :=
    Bool.eq_false_iff.mpr fun ho => by
      rw [(windowTaken_iff s b c.window).mpr ⟨d, hd, ho⟩] at ht
      cases ht
  intro d e hde
  rw [hset, hset]
  by_cases hd : d = b
  · have he : e ≠ b := fun he => hde (hd.trans he.symm)
    rw [if_pos hd, if_neg he]
    exact hfree e he
  · rw [if_neg hd]
    split
    · rw [windowsOverlap_comm]
      exact hfree d hd
    · exact h d e hde

theorem capsLawful_onBrDef {s : State} (h : s.withinLimits) (f : BrDefFields) : (s.onBrDef f).1.capsLawful := by
  unfold State.onBrDef
  split
  · next b c _ _ =>
    split
    · exact h.caps
    next ht =>
    split
    · exact h.caps
    split
    · exact h.caps
    have hk := kept_applyBranch s b c
    have hp : (s.event.applyBranch b c).st.plant = s.plant := (congrArg Kept.plant hk :)
    have hset (d : Fin 6) : ((s.event.applyBranch b c).st.br d).settings = if d = b then c else (s.br d).settings := by
      refine (congrArg (fun k => (k.branches d).1) hk :).trans ?_
      show (if d = b then _ else _ : BranchSettings × Nat × Nat).1 = _
      split <;> rfl
    have hq : 10 ≤ s.plant.quantum := h.grants.2.2
    exact capsLawful_of_caps (caps_settle _ _ _ _) (capsLawful_allocate (by rw [hp]; omega)
      (windowsApart_withSettings h.windows.2 hset (Bool.eq_false_iff.mpr ht)))
  · exact h.caps

/-! ### A request carried out -/

theorem capsLawful_carryOut {s : State} (h : s.withinLimits) (tag : Nat) (r : Request) : (s.carryOut tag r).1.capsLawful := by
  cases r with
  | clock tod => exact capsLawful_onClock h tod
  | stnDef f => exact capsLawful_onStnDef h f
  | stnDrop n => exact capsLawful_onStnDrop h n
  | brDef f => exact capsLawful_onBrDef h f
  | isolate base limit => exact capsLawful_onIsolate h base limit
  | chDef f => exact capsLawful_onChDef h f
  | chCmd unit command => exact capsLawful_onChCmd h unit command
  | plantDef p => exact capsLawful_onPlantDef h p
  | schedWin first last => exact capsLawful_onSchedWin h first last
  | schedData flag records => exact capsLawful_onSchedData h flag records
  | refDef f => exact capsLawful_onRefDef h f
  | pumpDef p => exact capsLawful_onPumpDef h p
  | brRest b => exact capsLawful_onBrRest h b
  | brWake b => exact capsLawful_onBrWake h b
  | meter n => exact capsLawful_onMeter h tag n
  | getStn n => exact capsLawful_of_caps (congrArg State.caps (onGetStn_fst s n)) h.caps
  | getBr b part => exact capsLawful_of_caps (congrArg State.caps (onGetBr_fst s b part)) h.caps
  | getPlant part => exact capsLawful_of_caps (congrArg State.caps (onGetPlant_fst s part)) h.caps
  | getRef => exact h.caps
  | getFaults part => exact capsLawful_of_caps (congrArg State.caps (onGetFaults_fst s part)) h.caps
  | faultAck kind subject => exact capsLawful_onFaultAck h kind subject
  | faultMask mask => exact capsLawful_onFaultMask h mask
  | save => exact h.caps
  | restart => exact h.caps
  | unknown kind => exact h.caps
  | badFormat kind => exact h.caps

/-! ### The supervisory link -/

/-- The link and the queue of commands have no part in the law. -/
theorem State.withinLimits.withLink {s : State} (h : s.withinLimits) (l : Link) : ({ s with link := l } : State).withinLimits :=
  ⟨h.windows, h.grants, h.caps⟩

theorem capsLawful_handle {s : State} (h : s.withinLimits) (f : HostFrame) : (s.handle f).capsLawful := by
  obtain ⟨tag, r⟩ := f
  by_cases h1 : r = .save
  · subst h1
    exact h.caps
  by_cases h2 : r = .restart
  · subst h2
    exact h.caps
  rw [handle_eq h1 h2]
  exact capsLawful_of_caps ((caps_reply _ _ _ _).trans (caps_closeSession _ _ _)) (capsLawful_carryOut h tag r)

theorem capsLawful_takeNext {s : State} (h : s.withinLimits) : s.takeNext.capsLawful := by
  unfold State.takeNext
  split
  · exact capsLawful_handle (h.withLink _) _
  · exact h.caps

theorem capsLawful_receive {s : State} (h : s.withinLimits) (f : HostFrame) : (s.receive f).capsLawful := by
  unfold State.receive
  split
  · exact capsLawful_of_caps ((caps_judgeRelay _).trans (caps_raise _ _ _)) h.caps
  · exact capsLawful_takeNext (h.withLink _)

theorem capsLawful_frameSent {s : State} (h : s.withinLimits) : s.frameSent.capsLawful := by
  unfold State.frameSent
  split
  · exact h.caps
  · dsimp only
    split
    · exact h.caps
    · split
      · exact capsLawful_takeNext (h.withLink _)
      all_goals exact h.caps

theorem capsLawful_saveReadBack {s : State} (h : s.capsLawful) (agrees : Bool) : (s.saveReadBack agrees).capsLawful := by
  unfold State.saveReadBack
  split
  · split
    · exact capsLawful_of_caps ((caps_reply _ _ _ _).trans (caps_closeSession _ _ _)) h
    · exact h
  all_goals exact h

end Sys2Proof.Machine
end

section
/-!
The law of the caps through a step (R64): what comes in on a segment, the plant bus, the timers and the starts, and the statement.
-/

namespace Sys2Proof.Machine

/-! ### Replies (R124) -/

theorem limits_reporting (s : State) (b : Fin 6) (n : Fin 48) (f : ReportFields) (c : Bool) :
    (Event.reporting s b n f c).st.kept.limits = s.kept.limits := by
  unfold Event.reporting Event.reportAttaching
  split
  · rw [kept_reportActive, limits_withStation, kept_heard, limits_withStation]
  · split
    · rw [kept_enterActive, limits_withStation, kept_heard, limits_withStation]
    · rw [map_st, kept_updStn_with, limits_withStation, kept_heard, limits_withStation]

/-- A CAP-ACK writes the confirmed figures and the queue (R134). -/
theorem limits_confirmCap (s : State) (b : Fin 6) (n : Fin 48) : (s.confirmCap b n).kept.limits = s.kept.limits := by
  unfold State.confirmCap
  split
  · split
    · split
      · dsimp only
        split
        · rw [kept_appendEntry, kept_updStn_with, limits_withStation]
          exact limits_updBr rfl
        · rw [kept_updStn_with, limits_withStation]
          exact limits_updBr rfl
      · rfl
    · rfl
  · rfl

/-- The state in which a valid reply is handed to its rule: its transaction ended, the miss count 0 (R124). -/
def State.replying (s : State) (b : Fin 6) (n : Fin 48) : State :=
  (s.endTxn b).updStn n fun r => { r with missCount := 0 }

section
variable (s : State) (b : Fin 6) (n : Fin 48)

theorem caps_replying : (s.replying b n).caps = s.caps :=
  (caps_updStn (s := s.endTxn b) (f := fun r => { r with missCount := 0 }) rfl).trans (caps_endTxn s b)

theorem limits_replying : (s.replying b n).kept.limits = s.kept.limits := by
  rw [State.replying, kept_updStn_with, limits_withStation, kept_endTxn]

theorem caps_restAnswer (before : State) (answer : Nat) : (s.restAnswer before b n answer).caps = s.caps := by
  unfold State.restAnswer
  dsimp only
  rw [caps_settle]
  split
  · rfl
  split
  · exact (roused_enterWaking s b).1.caps
  split
  · exact (caps_judgeOffering _ _).trans (roused_setStanding s n _).caps
  · rfl

theorem caps_wakeAck (before : State) : (s.wakeAck before n).caps = s.caps := (caps_settle _ _ _ _).trans (caps_updStn rfl)

theorem caps_meterData (before : State) (energy volume : Nat) : (s.meterData before b n energy volume).caps = s.caps :=
  (caps_settle _ _ _ _).trans (caps_endRead _ _ _ _)

end

section
variable {s : State} (h : s.withinLimits)
include h

theorem capsLawful_takeReply (b : Fin 6) (n : Fin 48) (r : FieldReply) : ((s.replying b n).takeReply s b n r).capsLawful := by
  have hsame {t : State} (ht : t.caps = (s.replying b n).caps) : t.capsLawful :=
    capsLawful_of_caps (ht.trans (caps_replying s b n)) h.caps
  cases r with
  | report f =>
    obtain ⟨c, hc⟩ := report_eq s b n f
    show ((s.replying b n).report s b n f).capsLawful
    rw [State.replying, hc]
    exact capsLawful_of_caps ((caps_settle _ _ _ _).trans (sameAllotment_afterReport _ b n _ _).caps)
      (h.allocate (limits_reporting s b n f c))
  | advertise caps kw cap rev =>
    exact h.finish (e := ⟨(s.replying b n).setStn n _, _⟩) (kept_setStn_with _ n _) (limits_replying s b n) s
  | capAck seq =>
    exact h.finish (e := ⟨((s.replying b n).confirmCap b n).updStn n _, _⟩) (kept_updStn_with _ n _)
      ((limits_confirmCap _ b n).trans (limits_replying s b n)) s
  | restAnswer answer => exact hsame (caps_restAnswer _ b n s answer)
  | wakeAck => exact hsame (caps_wakeAck _ n s)
  | meterData energy volume => exact hsame (caps_meterData _ b n s energy volume)

theorem capsLawful_replied (b : Fin 6) (x : Txn) (r : FieldReply) : (s.replied b x r).capsLawful := by
  unfold State.replied
  split
  · exact capsLawful_of_caps ((caps_settle _ _ _ _).trans (caps_endTxn s b)) h.caps
  · exact capsLawful_takeReply h b x.station r

theorem capsLawful_fieldFrame (b : Fin 6) (address : Nat) (r : Option FieldReply) : (s.fieldFrame b address r).capsLawful := by
  have hcount : (s.countProtocol b).capsLawful := capsLawful_of_caps (caps_updBr rfl) h.caps
  unfold State.fieldFrame
  split
  · exact h.caps
  split
  · exact h.caps
  split
  · split
    · exact capsLawful_replied h b _ _
    · exact hcount
  · exact hcount

end

/-! ### A miss (R126) -/

theorem limits_missKind (s : State) (b : Fin 6) (x : Txn) : (s.missKind b x).kept.limits = s.kept.limits := by
  refine limits_eq ?_ (settings_missKind s b x)
  rcases missKind_cases s b x with e | ⟨rest, -, -, e⟩ | e
  · rw [e]
  · rw [e]
    exact (congrArg Kept.plant (kept_requeue s b x.station rest) :)
  · rw [e]
    exact plant_of_kept (kept_missMeter s b x.station)

theorem limits_miss (e : Event) (b : Fin 6) (x : Txn) : (e.miss b x).st.kept.limits = e.st.kept.limits := by
  unfold Event.miss
  dsimp only
  split
  · split
    · rw [lose_st, kept_judgeOfferingOf, kept_raise, kept_takeOff, limits_withStation]
    · rw [map_st, limits_missKind, kept_updStn_with, limits_withStation]
  · split
    · rw [returnToSeeking_st, kept_setStn_with, limits_withStation]
    · rw [map_st, kept_updStn_with, limits_withStation]
  all_goals rfl

theorem capsLawful_replyTimeout {s : State} (h : s.withinLimits) (b : Fin 6) : (s.replyTimeout b).capsLawful := by
  unfold State.replyTimeout
  split
  · exact h.caps
  · next x _ =>
    split
    · exact capsLawful_of_caps ((caps_settle _ _ _ _).trans (caps_endTxn s b)) h.caps
    · refine h.finish rfl ?_ s
      rw [limits_miss, event_st, kept_endTxn]

/-! ### The plant bus (R25) -/

section
variable {s : State} (h : s.withinLimits)
include h

theorem capsLawful_chillerReport (u : Fin 8) (condition : RunCondition) (available : Nat) :
    ((s.chillerReport u condition available).event.recapacity.finish s).capsLawful :=
  h.recapped (chillerReport_same s u condition available).1 rfl s

theorem capsLawful_tankReport (soc : Nat) (mode : TankMode) (rate : Nat) :
    ((allocate (s.tankReport soc mode rate).event.recapacity).settle s true true).capsLawful := by
  refine h.allocate_settle (kept_recapacity _) ?_ s true true
  exact (congrArg Kept.limits (tankReport_judged s soc mode rate).kept).trans rfl

theorem capsLawful_pumpReport (running : Bool) (speed : Nat) : ((s.pumpReport running speed).judgeRelay).capsLawful := by
  rw [pumpReport_eq]
  exact h.caps

theorem capsLawful_plantDpReport (dp : Nat) : ((s.plantDpReport dp).finishPressure s).capsLawful := by
  refine capsLawful_of_caps ((caps_finishPressure _ s).trans ?_) h.caps
  unfold State.plantDpReport
  dsimp only
  split <;> rfl

/-! ### The timers -/

theorem capsLawful_clockTick : s.clockTick.capsLawful := by
  have hage : s.age.caps = s.caps := caps_eq (fun n => by rw [stn_age]; rfl) fun b => by rw [br_age]; rfl
  by_cases hc : s.age.currentSlot = s.currentSlot
  · rw [clockTick_within hc]
    exact capsLawful_of_caps ((caps_finishPressure _ s).trans hage) h.caps
  · rw [clockTick_change hc]
    exact h.recapped (kept_age s) rfl s

theorem capsLawful_holdExpiry (n : Fin 48) : (s.holdExpiry n).capsLawful := by
  unfold State.holdExpiry
  dsimp only
  split
  · exact h.finish (e := ⟨s.setStn n _, _⟩) (kept_setStn_with s n _) rfl s
  · exact h.caps

theorem capsLawful_silence (a : Fin 11) : (s.silence a).capsLawful := by
  unfold State.silence
  split
  · exact h.recapped (kept_fallSilent s a) rfl s
  · exact h.caps

theorem capsLawful_minRunExpiry (u : Fin 8) : (s.minRunExpiry u).capsLawful := by
  unfold State.minRunExpiry
  split
  · refine h.recapped rfl ?_ s
    rw [minRunOut_eq]
    split <;> rfl
  · exact h.caps

theorem capsLawful_minOffExpiry (u : Fin 8) : (s.minOffExpiry u).capsLawful := by
  unfold State.minOffExpiry
  split
  · rw [minOffOut_eq]
    split <;> exact h.caps
  · exact h.caps

theorem capsLawful_confirmExpiry (u : Fin 8) : (s.confirmExpiry u).capsLawful := by
  unfold State.confirmExpiry
  split
  · rcases confirmOut_cases s u with e | ⟨k, e⟩
    · rw [e]
      exact h.caps
    · rw [e]
      exact capsLawful_of_caps (caps_raise (s.setChiller u _) k u.val) h.caps
  · exact h.caps

theorem capsLawful_indexDpStale (n : Fin 48) : (s.indexDpStale n).capsLawful := by
  unfold State.indexDpStale
  dsimp only
  split
  · exact capsLawful_of_caps ((caps_finishPressure _ s).trans (caps_setStn rfl)) h.caps
  · exact h.caps

theorem capsLawful_plantDpStale : s.plantDpStale.capsLawful := capsLawful_of_caps (caps_finishPressure _ s) h.caps

theorem capsLawful_revertExpiry : s.revertExpiry.capsLawful := by
  unfold State.revertExpiry
  split
  · exact capsLawful_of_caps (caps_finishPressure _ s) h.caps
  · exact h.caps

theorem capsLawful_trimExpiry : s.trimExpiry.capsLawful := by
  unfold State.trimExpiry State.trim
  dsimp only
  repeat' split
  all_goals exact h.caps

theorem capsLawful_emptyRotationEnd (b : Fin 6) : (s.emptyRotationEnd b).capsLawful := by
  unfold State.emptyRotationEnd
  split
  · exact capsLawful_of_caps ((caps_settle _ _ _ _).trans (caps_of_unsent (endRotation_arbitrated s b).unsent)) h.caps
  · exact h.caps

theorem capsLawful_restPollDue (n : Fin 48) : (s.restPollDue n).capsLawful := by
  unfold State.restPollDue
  split
  · split
    · exact capsLawful_of_caps ((caps_settle _ _ _ _).trans (caps_updStn rfl)) h.caps
    · exact h.caps
  · exact h.caps

theorem capsLawful_wakeExpiry (b : Fin 6) : (s.wakeExpiry b).capsLawful := by
  unfold State.wakeExpiry
  split
  · exact h.finish (kept_enterLive s b) rfl s
  · exact h.caps

end

/-! ### The starts -/

/-- A cold start leaves no station a grant (R22, R91). -/
theorem capsLawful_coldStart (s : State) : s.coldStart.capsLawful := by
  have hfrom (v : State) (i : Image) (c : ConfigSource) : (v.startFrom i c).capsLawful :=
    capsLawful_of_no_grants fun n => by
      rw [stn_startFrom]
      cases i.stations[n.val] with
      | none => rfl
      | some f =>
        rw [coldStart_defined]
        repeat' split
        all_goals rfl
  unfold State.coldStart
  dsimp only
  split
  · exact capsLawful_of_caps ((caps_judgeRelay _).trans (caps_arbitrateAll _)) (hfrom _ _ _)
  · exact capsLawful_of_caps ((caps_judgeRelay _).trans ((caps_arbitrateAll _).trans (caps_raise _ _ _))) (hfrom _ _ _)

theorem capsLawful_powerLoss {s : State} (h : s.capsLawful) : s.powerLoss.capsLawful := by
  unfold State.powerLoss State.cutSave
  dsimp only
  split <;> exact h

/-- A warm restart leaves no station a grant: those it passes over are not ACTIVE and hold none (R23, R98). -/
theorem capsLawful_warmRestart {s : State} (h : s.grantsLawful) : s.warmRestart.capsLawful := by
  refine capsLawful_of_no_grants fun n => ?_
  rw [stn_warmRestart]
  by_cases hpast : (s.stn n).state = .vacant ∨ (s.stn n).state = .isolated
  · have hzero : (s.stn n).grantKw = 0 := by
      by_contra hne
      rw [h.1 n hne] at hpast
      rcases hpast with e | e <;> cases e
    rcases hpast with e | e
    · rw [Station.warmRestart, e]
      exact hzero
    · rw [Station.warmRestart, e]
      exact hzero
  · obtain ⟨hv, hi⟩ := not_or.mp hpast
    rw [warmRestart_again hv hi, again_eq]
    split <;> rfl

/-! ### A step -/

/-- A row that means `f` while the unit is powered keeps the caps within the limits where `f` does. -/
theorem capsLawful_row {c : Instr} {s t : State} (f : State → State) (hc : exec c = whilePowered f) (he : exec c s = .next t)
    (h : s.capsLawful) (hf : (f s).capsLawful) : t.capsLawful := by
  rw [hc] at he
  cases hp : s.powered with
  | true => rw [whilePowered_on f s hp] at he; cases he; exact hf
  | false => rw [whilePowered_off f s hp] at he; cases he; exact h

section
variable {s t : State} (h : s.withinLimits)
include h

/-- A request is a frame received with it. -/
theorem capsLawful_exec_request {c : Instr} {tag : Nat} {r : Request} (hr : c.asRequest = some (tag, r)) (he : exec c s = .next t) :
    t.capsLawful :=
  capsLawful_row (·.receive ⟨tag, r⟩) (funext fun v => exec_asRequest hr v) he h.caps (capsLawful_receive h _)

/-- What comes in on a branch segment (R123). -/
theorem capsLawful_exec_frame {c : Instr} (b : Fin 6) (address : Nat) (r : Option FieldReply)
    (hc : exec c = whilePowered (·.fieldFrame b address r)) (he : exec c s = .next t) : t.capsLawful :=
  capsLawful_row _ hc he h.caps (capsLawful_fieldFrame h b address r)

/-- A command keeps the caps within the limits: a request through the link, and any other by its own event. -/
theorem capsLawful_exec (c : Instr) (he : exec c s = .next t) : t.capsLawful := by
  have hon (f : State → State) (hc : exec c = whilePowered f) (hf : (f s).capsLawful) : t.capsLawful :=
    capsLawful_row f hc he h.caps hf
  rcases hr : c.asRequest with _ | ⟨tag, r⟩
  · cases c with
    | coldStart => cases he; exact capsLawful_coldStart s
    | powerLoss => exact hon (·.powerLoss) rfl (capsLawful_powerLoss h.caps)
    | supervisoryFrameReceived kind tag body =>
      exact hon (·.receive ⟨tag, parseRequest kind body⟩) rfl (capsLawful_receive h _)
    | supervisoryBadFrame => exact hon (fun s => { s with link := { s.link with badFrames := countUp s.link.badFrames } }) rfl h.caps
    | supervisoryGapTimeout => exact hon (fun s => { s with link := { s.link with gaps := countUp s.link.gaps } }) rfl h.caps
    | frameSent => exact hon (·.frameSent) rfl (capsLawful_frameSent h)
    | saveReadBack agrees => exact hon (·.saveReadBack agrees) rfl (capsLawful_saveReadBack h.caps agrees)
    | warmRestart =>
      refine hon (fun s => if s.link.phase = .restartDue then s.warmRestart else s) rfl ?_
      split
      · exact capsLawful_warmRestart h.grants
      · exact h.caps
    | clockTick => exact hon (·.clockTick) rfl (capsLawful_clockTick h)
    | holdExpiry n => exact hon (·.holdExpiry n) rfl (capsLawful_holdExpiry h n)
    | deviceSilent a => exact hon (·.silence a) rfl (capsLawful_silence h a)
    | minRunExpiry u => exact hon (·.minRunExpiry u) rfl (capsLawful_minRunExpiry h u)
    | minOffExpiry u => exact hon (·.minOffExpiry u) rfl (capsLawful_minOffExpiry h u)
    | confirmExpiry u => exact hon (·.confirmExpiry u) rfl (capsLawful_confirmExpiry h u)
    | chillerReport u condition available =>
      refine hon _ rfl ?_
      split
      · exact capsLawful_chillerReport h u condition available
      · exact h.caps
    | tankReport soc mode rate =>
      refine hon _ rfl ?_
      split
      · exact capsLawful_tankReport h soc mode rate
      · exact h.caps
    | pumpReport running speed => exact hon (fun s => (s.pumpReport running speed).judgeRelay) rfl (capsLawful_pumpReport h running speed)
    | plantDpReport dp => exact hon (fun s => (s.plantDpReport dp).finishPressure s) rfl (capsLawful_plantDpReport h dp)
    | plantFrameDiscarded => exact hon (fun s => s) rfl h.caps
    | indexDpStale n => exact hon (·.indexDpStale n) rfl (capsLawful_indexDpStale h n)
    | plantDpStale => exact hon (·.plantDpStale) rfl (capsLawful_plantDpStale h)
    | revertExpiry => exact hon (·.revertExpiry) rfl (capsLawful_revertExpiry h)
    | trimExpiry => exact hon (·.trimExpiry) rfl (capsLawful_trimExpiry h)
    | replyTimeout b => exact hon (·.replyTimeout b) rfl (capsLawful_replyTimeout h b)
    | fieldGapTimeout b => exact hon (·.countBad b) rfl (capsLawful_of_caps (caps_updBr rfl) h.caps)
    | fieldBadFrame b => exact hon (·.countBad b) rfl (capsLawful_of_caps (caps_updBr rfl) h.caps)
    | fieldInvalidReply b frame => exact capsLawful_exec_frame h b frame.address (parseReply frame) rfl he
    | fieldUnawaitedFrame b frame => exact capsLawful_exec_frame h b frame.address (parseReply frame) rfl he
    | report b address f => exact capsLawful_exec_frame h b address (some (.report f)) rfl he
    | advertise b address caps kw cap rev =>
      exact capsLawful_exec_frame h b address (some (.advertise caps kw cap rev)) rfl he
    | capAck b address seq => exact capsLawful_exec_frame h b address (some (.capAck seq)) rfl he
    | restAnswer b address answer =>
      exact capsLawful_exec_frame h b address (some (.restAnswer answer)) rfl he
    | wakeAck b address => exact capsLawful_exec_frame h b address (some .wakeAck) rfl he
    | meterData b address energy volume =>
      exact capsLawful_exec_frame h b address (some (.meterData energy volume)) rfl he
    | emptyRotationEnd b => exact hon (·.emptyRotationEnd b) rfl (capsLawful_emptyRotationEnd h b)
    | restPollDue n => exact hon (·.restPollDue n) rfl (capsLawful_restPollDue h n)
    | wakeTimerExpiry b => exact hon (·.wakeExpiry b) rfl (capsLawful_wakeExpiry h b)
    | _ => cases hr
  · exact capsLawful_exec_request h hr he

end

/-- Settles O10: the command at the front of the queue keeps the caps within the limits, and without one nothing happens. -/
theorem capsNeverExceedTheFlowLimit : Obligations.CapsNeverExceedTheFlowLimit := by
  intro s t hw hg hc he
  cases hp : s.pending with
  | nil =>
    rw [step, hp] at he
    cases he
    exact hc
  | cons c rest =>
    rw [step, hp] at he
    exact capsLawful_exec (s := { s with pending := rest }) ⟨hw, hg, hc⟩ c he

end Sys2Proof.Machine
end

section
/-!
SUPPORT. The laws of the grants (R74, R84, R86, R91, R103) outside the allocator: a change after which no grant has risen and each record,
branch and snapshot still meets what it met (`GrantsCurbed`), and the operations that are such a change.
-/

namespace Sys2Proof.Machine

/-! ### What the laws ask of one record -/

/-- A grant above 0 kW belongs to an ACTIVE station (R91). -/
def Station.held (r : Station) : Prop := r.grantKw ≠ 0 → r.state = .active

/-- The grant is at most the request, and the request at most the contract (R74). -/
def Station.modest (r : Station) : Prop := r.grantKw ≤ r.requestKw ∧ r.requestKw ≤ r.host.contractKw

/-- A station that the FLEX snapshot may hold (R84, R86). -/
def Station.flexible (r : Station) : Prop := r.state = .active ∧ r.host.cls = .flex

/-- From `r` to `r'` the grant has not risen, and the laws of one record hold of `r'` where they held of `r`. -/
structure Station.Curbed (r r' : Station) : Prop where
  grant : r'.grantKw ≤ r.grantKw
  held : r.held → r'.held
  modest : r.held → r.modest → r'.modest

/-- From `s` to `t` no grant has risen, no station with a grant has left its LIVE branch, the FLEX snapshot has lost stations alone, and
what the laws of the grants ask of each record and of the quantum holds of `t` where it held of `s`. -/
structure GrantsCurbed (s t : State) : Prop where
  stn : ∀ n, (s.stn n).Curbed (t.stn n)
  live : ∀ n, (s.stn n).held → (t.stn n).grantKw ≠ 0 → s.branchLive n = true → t.branchLive n = true
  snapshot : t.allocator.flexSnapshot.Sublist s.allocator.flexSnapshot
  flexible : ∀ n ∈ t.allocator.flexSnapshot, (s.stn n).flexible → (t.stn n).flexible
  quantum : 10 ≤ s.plant.quantum → 10 ≤ t.plant.quantum

theorem Station.Curbed.refl (r : Station) : r.Curbed r := ⟨le_rfl, id, fun _ => id⟩

theorem Station.Curbed.trans {r r' r'' : Station} (h : r.Curbed r') (k : r'.Curbed r'') : r.Curbed r'' :=
  ⟨k.grant.trans h.grant, fun x => k.held (h.held x), fun x y => k.modest (h.held x) (h.modest x y)⟩

theorem GrantsCurbed.refl (s : State) : GrantsCurbed s s :=
  ⟨fun _ => .refl _, fun _ _ _ => id, .refl _, fun _ _ => id, id⟩

theorem GrantsCurbed.trans {s t u : State} (h : GrantsCurbed s t) (k : GrantsCurbed t u) : GrantsCurbed s u where
  stn n := (h.stn n).trans (k.stn n)
  live n hh hg hl :=
    k.live n ((h.stn n).held hh) hg (h.live n hh (fun e => hg (Nat.le_zero.mp (e ▸ (k.stn n).grant))) hl)
  snapshot := k.snapshot.trans h.snapshot
  flexible n hn hf := k.flexible n hn (h.flexible n (k.snapshot.subset hn) hf)
  quantum hq := k.quantum (h.quantum hq)

theorem GrantsCurbed.sumGrants_le {s t : State} (h : GrantsCurbed s t) : t.sumGrants ≤ s.sumGrants :=
  sumOver_le _ fun n => (h.stn n).grant

/-- With A as it was the grants stay within it (R104). -/
theorem GrantsCurbed.within {s t : State} (h : GrantsCurbed s t) (hc : t.capacity = s.capacity)
    (hs : s.sumGrants ≤ s.capacity) : t.sumGrants ≤ t.capacity := by
  rw [hc]
  exact h.sumGrants_le.trans hs

/-! ### What the laws look at -/

/-- What of a station's record the laws of the grants look at. -/
def Station.demand (r : Station) : StationState × HostFields × Nat × Nat := (r.state, r.host, r.requestKw, r.grantKw)

/-- What of a branch's record the laws of the grants look at. -/
def Branch.duty (c : Branch) : Option Range × RestState := (c.settings.window, c.rest)

/-- What of the state the laws of the grants look at. -/
def State.demand (s : State) :
    (Fin 48 → StationState × HostFields × Nat × Nat) × (Fin 6 → Option Range × RestState) × List (Fin 48) × PlantSettings × Nat :=
  (fun n => (s.stn n).demand, fun b => (s.br b).duty, s.allocator.flexSnapshot, s.plant, s.capacity)

theorem Station.demand_iff {r r' : Station} :
    r'.demand = r.demand ↔ r'.state = r.state ∧ r'.host = r.host ∧ r'.requestKw = r.requestKw ∧ r'.grantKw = r.grantKw := by
  simp [Station.demand]

theorem Station.Curbed.of_demand {r r' : Station} (h : r'.demand = r.demand) : r.Curbed r' := by
  obtain ⟨hs, hh, hr, hg⟩ := Station.demand_iff.mp h
  refine ⟨hg.le, fun k => ?_, fun _ k => ?_⟩
  · rw [Station.held, hs, hg]; exact k
  · rw [Station.modest, hh, hr, hg]; exact k

theorem Station.flexible_of_demand {r r' : Station} (h : r'.demand = r.demand) (hf : r.flexible) : r'.flexible := by
  obtain ⟨hs, hh, -, -⟩ := Station.demand_iff.mp h
  rwa [Station.flexible, hs, hh]

theorem branchOf_of_windows {s t : State} (h : ∀ b, (t.br b).settings.window = (s.br b).settings.window) (n : Fin 48) :
    t.branchOf n = s.branchOf n := by
  simp only [State.branchOf, State.inWindow, h]

/-- A station whose branch is LIVE is in a LIVE branch still, where its own branch and its routing are as they were. -/
theorem branchLive_mono {s t : State} {n : Fin 48} (ho : t.branchOf n = s.branchOf n)
    (hr : ∀ b, s.branchOf n = some b → (s.br b).rest = .live → (t.br b).rest = .live) (h : s.branchLive n = true) :
    t.branchLive n = true := by
  obtain ⟨b, hb, hl⟩ := (branchLive_iff s n).mp h
  exact (branchLive_iff t n).mpr ⟨b, ho.trans hb, hr b hb hl⟩

theorem demand_eq {s t : State} (hs : ∀ n, (t.stn n).demand = (s.stn n).demand) (hb : ∀ b, (t.br b).duty = (s.br b).duty)
    (ha : t.allocator.flexSnapshot = s.allocator.flexSnapshot) (hp : t.plant = s.plant) (hc : t.capacity = s.capacity) :
    t.demand = s.demand := by
  simp only [State.demand, hs, hb, ha, hp, hc]

theorem capacity_of_demand {s t : State} (h : t.demand = s.demand) : t.capacity = s.capacity :=
  congrArg (fun d => d.2.2.2.2) h

theorem GrantsCurbed.of_demand {s t : State} (h : t.demand = s.demand) : GrantsCurbed s t := by
  have hs (n : Fin 48) : (t.stn n).demand = (s.stn n).demand := congrFun (congrArg (fun d => d.1) h) n
  have hb (b : Fin 6) : (t.br b).duty = (s.br b).duty := congrFun (congrArg (fun d => d.2.1) h) b
  have ha : t.allocator.flexSnapshot = s.allocator.flexSnapshot := congrArg (fun d => d.2.2.1) h
  have hp : t.plant = s.plant := congrArg (fun d => d.2.2.2.1) h
  refine ⟨fun n => .of_demand (hs n), fun n _ _ => branchLive_mono ?_ fun b _ hl => ?_, ha ▸ .refl _,
    fun n _ => Station.flexible_of_demand (hs n), fun hq => hp ▸ hq⟩
  · exact branchOf_of_windows (fun b => congrArg Prod.fst (hb b)) n
  · exact (congrArg Prod.snd (hb b) :).trans hl

/-! ### Operations that leave alone what the laws look at -/

theorem demand_setStn {s : State} {n : Fin 48} {r : Station} (h : r.demand = (s.stn n).demand) :
    (s.setStn n r).demand = s.demand := by
  refine demand_eq (fun m => ?_) (fun _ => rfl) rfl rfl rfl
  rw [stn_setStn]
  split
  · next e => rw [e, h]
  · rfl

theorem demand_updStn {s : State} {n : Fin 48} {f : Station → Station} (h : (f (s.stn n)).demand = (s.stn n).demand) :
    (s.updStn n f).demand = s.demand := demand_setStn h

theorem demand_updBr {s : State} {b : Fin 6} {f : Branch → Branch} (h : (f (s.br b)).duty = (s.br b).duty) :
    (s.updBr b f).demand = s.demand := by
  refine demand_eq (fun _ => rfl) (fun d => ?_) rfl rfl rfl
  rw [br_updBr]
  split
  · next e => rw [e, h]
  · rfl

theorem demand_mapBr {s : State} {f : Branch → Branch} (h : ∀ c, (f c).duty = c.duty) : (s.mapBr f).demand = s.demand :=
  demand_eq (fun n => by rw [stn_mapBr]) (fun b => by rw [br_mapBr, h]) rfl rfl rfl

theorem demand_of_unjudged {s t : State} (h : t.unjudged = s.unjudged) : t.demand = s.demand := (congrArg State.demand h :)

@[simp] theorem demand_raise (s : State) (k : FaultKind) (x : Nat) : (s.raise k x).demand = s.demand :=
  demand_of_unjudged (unjudged_raise s k x)

@[simp] theorem demand_finishPressure (s before : State) : (s.finishPressure before).demand = s.demand :=
  demand_of_unjudged (unjudged_finishPressure s before)

@[simp] theorem demand_endTxn (s : State) (b : Fin 6) : (s.endTxn b).demand = s.demand := demand_updBr rfl

@[simp] theorem demand_appendEntry (s : State) (b : Fin 6) (n : Fin 48) (g f d : Nat) :
    (s.appendEntry b n g f d).demand = s.demand := by
  refine (demand_updStn ?_).trans (demand_updBr ?_)
  · rfl
  · rfl

@[simp] theorem demand_handGrant (s : State) (n : Fin 48) : (s.handGrant n).demand = s.demand := by
  unfold State.handGrant
  split
  · unfold State.queueChange
    split
    · exact demand_updBr rfl
    · exact demand_appendEntry _ _ _ _ _ _
  · rfl

@[simp] theorem demand_endRead (s : State) (b : Fin 6) (n : Fin 48) (o : MeterOutcome) : (s.endRead b n o).demand = s.demand := by
  unfold State.endRead
  split
  · split
    · exact (demand_updBr rfl : (s.updBr b fun c => { c with read := none }).demand = s.demand)
    · rfl
  · rfl

@[simp] theorem demand_endReads (s : State) (n : Fin 48) (o : MeterOutcome) : (s.endReads n o).demand = s.demand :=
  foldl_keeps State.demand _ (fun s b => demand_endRead s b n o) _ s

@[simp] theorem demand_setStanding (s : State) (n : Fin 48) (x : Standing) : (s.setStanding n x).demand = s.demand :=
  demand_updStn rfl

@[simp] theorem demand_closeSession (s : State) (r : Request) (reply : Reply) : (s.closeSession r reply).demand = s.demand := by
  unfold State.closeSession
  split <;> rfl

@[simp] theorem demand_reply (s : State) (tag : Nat) (r : Reply) (p : LinkPhase) : (s.reply tag r p).demand = s.demand := rfl

@[simp] theorem demand_recompute (e : Event) (n : Fin 48) : (e.recompute n).st.demand = e.st.demand := by
  have h : (e.st.updStn n fun r => { r with grantDt := e.st.effectiveDt n }).demand = e.st.demand := demand_updStn rfl
  unfold Event.recompute
  rw [callPass_st]
  dsimp only
  split
  · rw [demand_handGrant, h]
  · exact h

@[simp] theorem demand_recomputeAll (e : Event) : e.recomputeAll.st.demand = e.st.demand :=
  foldl_keeps (fun e : Event => e.st.demand) _ (fun e n => by
    unfold Event.recomputeExact
    split
    · exact demand_recompute e n
    · rfl) allStations e

@[simp] theorem demand_recomputeDeadband (e : Event) (n : Fin 48) : (e.recomputeDeadband n).st.demand = e.st.demand := by
  rcases recomputeDeadband_cases n e with ⟨-, h⟩ | ⟨-, h⟩ <;> rw [h]
  exact demand_recompute e n

@[simp] theorem demand_enableStorage (s : State) (on : Bool) : (s.enableStorage on).demand = s.demand := by
  unfold State.enableStorage
  dsimp only
  split
  · exact demand_raise { s with tank := { s.tank with enabled := false } } .storageReserve storageSubject
  all_goals rfl

/-! ### Grants that fall, and rest states that move -/

/-- A release lowers a grant (R89, R90, R92). -/
theorem release_curbed (s : State) (n : Fin 48) (k : Nat) : GrantsCurbed s (s.release n k) := by
  unfold State.release
  split
  · next h =>
    refine .trans ?_ (.of_demand (demand_handGrant _ n))
    refine ⟨fun m => ?_, fun _ _ _ => id, .refl _, fun m _ => ?_, id⟩
    · rw [stn_updStn]
      split
      · next e =>
        subst e
        exact ⟨h.le, fun hh _ => hh (by omega), fun _ hm => ⟨h.le.trans hm.1, hm.2⟩⟩
      · exact .refl _
    · rw [stn_updStn]
      split
      · next e => rw [e]; exact id
      · exact id
  · exact .refl s

/-- A change that leaves what the laws look at but for the rest states: no branch in which a station holds a grant leaves LIVE. -/
theorem GrantsCurbed.of_rest {s t : State} (hs : ∀ n, (t.stn n).demand = (s.stn n).demand)
    (hw : ∀ b, (t.br b).settings.window = (s.br b).settings.window) (ha : t.allocator = s.allocator) (hp : t.plant = s.plant)
    (hr : ∀ b, (s.br b).rest = .live → (t.br b).rest = .live ∨ ∀ n ∈ s.activeIn b, (s.stn n).grantKw = 0) : GrantsCurbed s t where
  stn n := .of_demand (hs n)
  live n hh hg := by
    refine branchLive_mono (branchOf_of_windows hw n) fun b hb hl => (hr b hl).resolve_right fun hz => hg ?_
    rw [(Station.demand_iff.mp (hs n)).2.2.2] at hg ⊢
    exact hz n (mem_activeIn.mpr ⟨inWindow_of_branchOf hb, hh hg⟩)
  snapshot := ha ▸ .refl _
  flexible n _ := Station.flexible_of_demand (hs n)
  quantum hq := hp ▸ hq

/-- An arbiter leaves a LIVE branch LIVE, unless no ACTIVE station of its window holds a grant. -/
theorem Arbitrated.curbed {b : Fin 6} {s t : State} (h : Arbitrated b s t)
    (hr : (t.br b).rest = (s.br b).rest ∨ ∀ n ∈ s.activeIn b, (s.stn n).grantKw = 0) : GrantsCurbed s t :=
  .of_rest (fun n => (congrArg Station.demand (stn_unsent_of_eq h.unsent n) :))
    (fun d => congrArg BranchSettings.window (settings_of_unsent_eq h.unsent d)) (congrArg State.allocator h.unsent :)
    (congrArg State.plant h.unsent :) fun d hl => by
      by_cases hd : d = b
      · subst hd
        exact hr.imp_left fun e => e.trans hl
      · rw [h.others d hd]
        exact .inl hl

theorem endRotation_curbed (s : State) (b : Fin 6) : GrantsCurbed s (s.endRotation b) := by
  refine (endRotation_arbitrated s b).curbed ?_
  have hact : (s.rotated b).activeIn b = s.activeIn b :=
    activeIn_of_eq (settings_of_unsent_eq (rotated_arbitrated s b).unsent b) fun n => by rw [stn_rotated]
  rw [endRotation_eq]
  split
  · next h =>
    refine .inr fun n hn => ?_
    rw [← stn_rotated s b n]
    exact no_grant_of_restCalled h (hact ▸ hn)
  · exact .inl (rest_rotated s b)

/-- What the end of a rotation judges of a branch: its rest state, its idle count and its rotation count. -/
def Branch.judged (c : Branch) : RestState × Nat × Nat := (c.rest, c.idleCount, c.rotCount)

/-- The sending of a transaction leaves alone what the end of a rotation judges (R128, R143). -/
theorem judged_send (s : State) (b : Fin 6) (c : Choice) : ((s.send b c).br b).judged = (s.br b).judged := by
  cases c with
  | cap =>
    rw [State.send, State.sendCap]
    split
    · rfl
    · rw [br_updBr_same]
      rfl
  | rest n =>
    rw [State.send, br_updBr_same]
    rfl
  | meter =>
    rw [State.send, State.sendMeterAsk]
    split
    · rw [br_updBr_same]
      rfl
    · rfl
  | rotation n =>
    rw [State.send, State.sendRotation]
    dsimp only
    split
    · rw [br_updStn, br_updBr_same]
      rfl
    · rw [br_updBr_same]
      rfl

theorem arbitrate_curbed (s : State) (b : Fin 6) : GrantsCurbed s (s.arbitrate b) := by
  have hpass : GrantsCurbed s (s.passRotation b) := by
    unfold State.passRotation
    split
    · exact endRotation_curbed s b
    · exact .refl s
  rcases arbitrate_cases s b with ⟨h, -⟩ | ⟨-, -, ⟨-, h⟩ | ⟨c, -, h⟩⟩ <;> rw [h]
  · exact .refl s
  · exact hpass
  · exact hpass.trans ((send_arbitrated _ b c).curbed (.inl (congrArg Prod.fst (judged_send _ b c))))

theorem arbitrateAll_curbed (s : State) : GrantsCurbed s s.arbitrateAll := by
  unfold State.arbitrateAll
  generalize allBranches = l
  induction l generalizing s with
  | nil => exact .refl s
  | cons b l ih => exact (arbitrate_curbed s b).trans (ih _)

theorem allocator_settleStorage (s before : State) (t r : Bool) : (s.settleStorage before t r).allocator = s.allocator :=
  (congrArg State.allocator (unstored_settleStorage s before t r) :)

theorem demand_settleStorage (s before : State) (t r : Bool) : (s.settleStorage before t r).demand = s.demand := by
  have hkept : (s.settleStorage before t r).kept = s.kept := kept_settleStorage s before t r
  exact demand_eq (fun n => by rw [State.stn, stations_settleStorage]; rfl) (fun b => by rw [State.br, branches_settleStorage]; rfl)
    (by rw [allocator_settleStorage]) (congrArg Kept.plant hkept :) (congrArg Kept.capacity hkept :)

/-- The end of an event after the allocator raises no grant (R128, R143, R144). -/
theorem settle_curbed (s before : State) (t r : Bool) : GrantsCurbed s (s.settle before t r) :=
  (arbitrateAll_curbed s).trans
    (.of_demand ((demand_of_unjudged (unjudged_settle s before t r)).trans (demand_settleStorage _ _ _ _)))

theorem capacity_settle (s before : State) (t r : Bool) : (s.settle before t r).capacity = s.capacity :=
  (congrArg Kept.capacity (kept_settle s before t r) :)

/-- A branch that is not LIVE wakes (R148, R150). -/
theorem enterWaking_curbed {s : State} {b : Fin 6} (h : (s.br b).rest ≠ .live) : GrantsCurbed s (s.enterWaking b) := by
  have hw : GrantsCurbed s (s.startWaking b) := by
    refine .of_rest (fun _ => rfl) (fun d => ?_) rfl rfl fun d hl => .inl ?_
    · rw [br_startWaking]
      split
      · next e => rw [e]
      · rfl
    · rw [br_startWaking, if_neg fun e : d = b => h (e ▸ hl)]
      exact hl
  exact hw.trans (.of_demand (foldl_keeps State.demand _ (fun s n => demand_setStanding s n .wakeOwed) _ _))

theorem wakeReason_curbed (s : State) (b : Fin 6) : GrantsCurbed s (s.wakeReason b) := by
  unfold State.wakeReason
  split
  · next h => exact enterWaking_curbed fun e => by rw [e] at h; rcases h with h | h <;> cases h
  · exact .refl s

/-- The judging of an OFFERING branch moves no LIVE one (R147). -/
theorem judgeOffering_curbed (s : State) (b : Fin 6) : GrantsCurbed s (s.judgeOffering b) := by
  unfold State.judgeOffering
  split
  · next h =>
    refine .of_rest (fun _ => rfl) (fun d => ?_) rfl rfl fun d hl => .inl ?_
    · rw [br_updBr]
      split
      · next e => rw [e]
      · rfl
    · rw [br_updBr, if_neg fun e => ?_]
      · exact hl
      · rw [← e, hl] at h
        cases h.1
  · exact .refl s

theorem judgeOfferingOf_curbed (s : State) (n : Fin 48) : GrantsCurbed s (s.judgeOfferingOf n) := by
  unfold State.judgeOfferingOf
  split
  · exact judgeOffering_curbed s _
  · exact .refl s

/-- A newcomer finds its place in the rest of a branch that is not LIVE (R153). -/
theorem joinRest_curbed (s : State) (b : Fin 6) (n : Fin 48) : GrantsCurbed s (s.joinRest b n) := by
  unfold State.joinRest
  split
  · exact .refl s
  · exact .of_demand (demand_setStanding _ _ _)
  · next h =>
    split
    · exact .of_demand (demand_setStanding _ _ _)
    · exact enterWaking_curbed (by rw [h]; nofun)
  · next h =>
    split
    · exact .of_demand (demand_setStanding _ _ _)
    · exact enterWaking_curbed (by rw [h]; nofun)

/-- A branch enters OFFERING with the grants of its ACTIVE stations released first (R92, R146). -/
theorem foldl_release_curbed (l : List (Fin 48)) (s : State) : GrantsCurbed s (l.foldl (fun s n => s.release n 0) s) := by
  induction l generalizing s with
  | nil => exact .refl s
  | cons n l ih => exact (release_curbed s n 0).trans (ih _)

theorem grant_foldl_release {l : List (Fin 48)} {s : State} {n : Fin 48} (h : n ∈ l) :
    ((l.foldl (fun s n => s.release n 0) s).stn n).grantKw = 0 := by
  induction l generalizing s with
  | nil => cases h
  | cons m l ih =>
    rcases List.mem_cons.mp h with rfl | h
    · obtain ⟨q, hq⟩ := stn_release s n 0 n
      refine Nat.le_zero.mp (((foldl_release_curbed l _).stn n).grant.trans ?_)
      rw [hq, if_pos rfl]
      exact Nat.min_le_right _ _
    · exact ih h

theorem enterOffering_curbed (s : State) (b : Fin 6) : GrantsCurbed s (s.enterOffering b) := by
  let v := s.updBr b fun c => { c with rest := .offering, idleCount := 0 }
  let u := (s.activeIn b).foldl (fun s n => s.release n 0) v
  have hu : GrantsCurbed v u := foldl_release_curbed _ v
  have hz {n : Fin 48} (hn : n ∈ s.activeIn b) : (u.stn n).grantKw = 0 := grant_foldl_release hn
  have hsu : GrantsCurbed s u := by
    refine ⟨hu.stn, fun n hh hg hl => hu.live n hh hg ?_, hu.snapshot, hu.flexible, hu.quantum⟩
    have hact : (s.stn n).state = .active := hh fun e => hg (Nat.le_zero.mp (e ▸ (hu.stn n).grant))
    have hset : ∀ d, (v.br d).settings = (s.br d).settings := fun d => by
      rw [br_updBr]
      split
      · next e => rw [e]
      · rfl
    refine branchLive_mono (branchOf_of_settings hset n) (fun d hd hr => ?_) hl
    rw [br_updBr, if_neg ?_]
    · exact hr
    · rintro rfl
      exact hg (hz (mem_activeIn.mpr ⟨inWindow_of_branchOf hd, hact⟩))
  have hst : GrantsCurbed u ((s.activeIn b).foldl (fun s n => s.setStanding n .offerOwed) u) :=
    .of_demand (foldl_keeps State.demand _ (fun s n => demand_setStanding s n .offerOwed) _ _)
  exact hsu.trans (hst.trans (judgeOffering_curbed _ b))

end Sys2Proof.Machine
end

section
/-!
SUPPORT. The laws of the grants through the allocator (R74, R76, R84, R86, R91, R104): whatever an event has left of them, the sheds and the
pass bring the grants within A, raise the grant of an ACTIVE station in a LIVE branch alone, and leave in the FLEX snapshot ACTIVE FLEX
stations alone.
-/

namespace Sys2Proof.Machine

/-! ### The part of a record that the allocator leaves alone -/

theorem branchLive_of_ungranted {s t : State} (h : t.ungranted = s.ungranted) (n : Fin 48) : t.branchLive n = s.branchLive n := by
  simp only [State.branchLive, branchOf_of_settings (settings_of_ungranted h) n, rest_of_ungranted h]

theorem branchLive_of_unshed {s t : State} (h : t.ungranted.unraised = s.ungranted.unraised) (n : Fin 48) :
    t.branchLive n = s.branchLive n := by
  have hb (b : Fin 6) : (t.br b).ungranted = (s.br b).ungranted := by
    rw [← br_ungranted, ← br_ungranted]
    exact congrArg (fun s => s.br b) h
  simp only [State.branchLive, branchOf_of_settings (fun b => settings_of_queueless (hb b)) n, rest_of_queueless (hb _)]

theorem branchLive_allocate (e : Event) (n : Fin 48) : (allocate e).branchLive n = e.st.branchLive n :=
  branchLive_of_unshed (unshed_allocate e) n

theorem state_allocate (e : Event) (n : Fin 48) : ((allocate e).stn n).state = (e.st.stn n).state :=
  (congrArg Station.state (stn_allocate e n) :)

theorem plant_allocate (e : Event) : (allocate e).plant = e.st.plant := plant_of_unshed (unshed_allocate e)

/-- A station that is not ACTIVE holds no grant after the allocator where it held none before (R91). -/
theorem held_allocate {e : Event} {n : Fin 48} (h : (e.st.stn n).held) : ((allocate e).stn n).held := by
  intro hg
  rw [state_allocate]
  by_contra ha
  have hz : (e.st.stn n).grantKw = 0 := not_not.mp fun hne => ha (h hne)
  rw [stn_allocate_of_idle hz ha] at hg
  exact hg hz

/-! ### Σ grants and A (R73, R81, R104) -/

/-- The committed draw of a station covers its grant (R72). -/
theorem Station.held.grant_le_committed {r : Station} (h : r.held) : r.grantKw ≤ r.committed := by
  by_cases hz : r.grantKw = 0
  · omega
  · rw [Station.committed, h hz]
    exact Nat.le_max_left _ _

theorem capacity_of_kept {s t : State} (h : t.kept = s.kept) : t.capacity = s.capacity := (congrArg Kept.capacity h :)

/-- The sheds of an event end with the grants within A (R103, R104). -/
theorem within_sheds {s : State} (hq : 0 < s.plant.quantum) : (sheds s).1.sumGrants ≤ (sheds s).1.capacity := by
  have hplant : (branchSheds allBranches (s, [])).1.plant = s.plant := by
    refine CutStep.run_keeps (P := fun w => w.1.plant = s.plant) (fun w w' h e => ?_) (branchSheds_steps _ _) rfl
    exact (plant_of_unshed h.unshed).trans e
  rw [sheds_eq]
  generalize branchSheds allBranches (s, []) = w at hplant ⊢
  dsimp only
  split
  · next h =>
    have hk : (shed .plant w.1 w.2).st.kept = w.1.kept := kept_shed _ _ _
    exact (shed_plant w.2 (by rw [hplant]; exact hq) h).total.le.trans (capacity_of_kept hk).ge
  · next h => exact Nat.le_of_not_lt h

/-- What an offer gives is no more than the headroom left (R81). -/
theorem given_le_headroom (s : State) (b : Fin 6) (n : Fin 48) (h : Int) : s.given b n h ≤ h.toNat :=
  (Nat.min_le_left _ _).trans (Nat.min_le_right _ _)

theorem sumGrants_setStn (s : State) (n : Fin 48) (r : Station) :
    (s.setStn n r).sumGrants + (s.stn n).grantKw = s.sumGrants + r.grantKw := sumOver_setStn s n r Station.grantKw

/-- A pass in which only ACTIVE stations hold a grant, the grants within A. -/
structure PassWork.Funded (w : PassWork) : Prop where
  sound : w.Sound
  held : ∀ n, (w.st.stn n).held
  within : w.st.sumGrants ≤ w.st.capacity

theorem PassStep.funded {w w' : PassWork} (h : PassStep w w') (hw : w.Funded) : w'.Funded := by
  refine ⟨h.sound hw.sound, ?_, ?_⟩
  · intro m
    cases h with
    | moved a => exact hw.held m
    | bound n b hn hh hb hr =>
      rw [stn_setStn]
      split
      · next e => exact e ▸ hw.held m
      · exact hw.held m
    | given n b hn hh hb hr r hg =>
      rw [stn_setStn]
      split
      · exact fun _ => by rw [hg]; exact ((eligible_iff _ _ _).mp hn).1
      · exact hw.held m
  · cases h with
    | moved a => exact hw.within
    | bound n b hn hh hb hr =>
      have hsum : (w.st.setStn n _).sumGrants + (w.st.stn n).grantKw = w.st.sumGrants + (w.st.stn n).grantKw :=
        sumGrants_setStn w.st n { w.st.stn n with boundCount := countUp (w.st.stn n).boundCount }
      exact (Nat.add_right_cancel hsum).le.trans hw.within
    | given n b hn hh hb hr r hg =>
      have hsum := sumGrants_setStn w.st n r
      have hgrant : r.grantKw = (w.st.stn n).grantKw + w.st.given b n w.h := by rw [hg]
      have hgiven := given_le_headroom w.st b n w.h
      have hcommitted : w.st.sumGrants ≤ w.st.sumCommitted := sumOver_le _ fun m => (hw.held m).grant_le_committed
      have hroom : w.h = (w.st.capacity : Int) - (w.st.sumCommitted : Int) := hw.sound.headroom
      show (w.st.setStn n r).sumGrants ≤ w.st.capacity
      omega

theorem funded_grantPass {s : State} (hq : 0 < s.plant.quantum) (hh : ∀ n, (s.stn n).held) (hs : s.sumGrants ≤ s.capacity)
    (l : List (Fin 48)) : (grantPass s l).Funded :=
  PassStep.run_keeps (fun _ _ h hw => h.funded hw) (rounds_steps _ _) ⟨⟨rfl, List.nodup_nil, nofun, hq⟩, hh, hs⟩

theorem held_sheds {s : State} (h : ∀ n, (s.stn n).held) (n : Fin 48) : ((sheds s).1.stn n).held := by
  refine CutStep.run_keeps (P := fun w => ∀ n, (w.1.stn n).held) (fun w w' hc hw n => ?_) (sheds_steps s) h n
  cases hc with
  | moved a => exact hw n
  | cut m k hg =>
    rw [stn_updStn]
    split
    · exact fun _ => hw m (by omega)
    · exact hw n
  | raised m =>
    rw [stn_raise]
    exact hw n

theorem sumGrants_handChanges (before : State) (l : List (Fin 48)) (s : State) : (handChanges before l s).sumGrants = s.sumGrants := by
  unfold State.sumGrants
  congr 1
  funext n
  obtain ⟨q, hq⟩ := stn_handChanges before l s n
  rw [hq]

theorem capacity_handChanges (before : State) (l : List (Fin 48)) (s : State) : (handChanges before l s).capacity = s.capacity :=
  (sameAllotment_handChanges before l s).capacity

/-- The allocator hands on the changes of its sheds, or those of the pass after them (R78). -/
theorem allocate_cases (e : Event) :
    ∃ l, allocate e = handChanges e.st l (sheds e.st).1 ∨
      allocate e = handChanges e.st l (grantPass (sheds e.st).1 (sheds e.st).2).st := by
  unfold allocate
  dsimp only
  split
  · exact ⟨_, .inr rfl⟩
  · exact ⟨_, .inl rfl⟩

/-- After the allocator the grants add up to no more than A, where only ACTIVE stations held one before it (R81, R103, R104). -/
theorem within_allocate_sum {e : Event} (hq : 0 < e.st.plant.quantum) (hh : ∀ n, (e.st.stn n).held) :
    (allocate e).sumGrants ≤ (allocate e).capacity := by
  obtain ⟨l, h | h⟩ := allocate_cases e
  · rw [h, sumGrants_handChanges, capacity_handChanges]
    exact within_sheds hq
  · rw [h, sumGrants_handChanges, capacity_handChanges]
    exact (funded_grantPass (by rw [plant_sheds]; exact hq) (held_sheds hh) (within_sheds hq) _).within

/-! ### Which grants the allocator raises (R75) -/

theorem grant_sheds_le (s : State) (n : Fin 48) : ((sheds s).1.stn n).grantKw ≤ (s.stn n).grantKw := by
  refine CutStep.run_keeps (P := fun w => (w.1.stn n).grantKw ≤ (s.stn n).grantKw) (fun w w' hc hw => ?_) (sheds_steps s) le_rfl
  refine le_trans ?_ hw
  cases hc with
  | moved a => exact le_rfl
  | cut m k hg =>
    rw [stn_updStn]
    split
    · next e => rw [e]; exact Nat.sub_le _ _
    · exact le_rfl
  | raised m => rw [stn_raise]

/-- A pass raises the grant of an ACTIVE station in a LIVE branch alone. -/
theorem live_of_raised {s : State} {l : List (Fin 48)} {n : Fin 48} (h : ((grantPass s l).st.stn n).grantKw ≠ (s.stn n).grantKw) :
    s.branchLive n = true := by
  have hrun : (grantPass s l).st.ungranted = s.ungranted ∧
      (((grantPass s l).st.stn n).grantKw ≠ (s.stn n).grantKw → s.branchLive n = true) := by
    refine PassStep.run_keeps (P := fun w => w.st.ungranted = s.ungranted ∧
      ((w.st.stn n).grantKw ≠ (s.stn n).grantKw → s.branchLive n = true)) (fun w w' hs hw => ?_) (rounds_steps _ _)
      ⟨rfl, fun h => absurd rfl h⟩
    obtain ⟨hu, hk⟩ := hw
    refine ⟨hs.ungranted.trans hu, fun hne => ?_⟩
    have write (m : Fin 48) (r : Station) (hm : n = m → s.branchLive n = true)
        (hne : ((w.st.setStn m r).stn n).grantKw ≠ (s.stn n).grantKw) : s.branchLive n = true := by
      rw [stn_setStn] at hne
      split at hne
      · next e => exact hm e
      · exact hk hne
    have elig {m : Fin 48} (he : w.st.eligible w.bound m = true) (e : n = m) : s.branchLive n = true := by
      rw [e, ← branchLive_of_ungranted hu]
      exact ((eligible_iff _ _ _).mp he).2.1
    cases hs with
    | moved a => exact hk hne
    | bound m b hn hh hb hr => exact write m _ (elig hn) hne
    | given m b hn hh hb hr r hg => exact write m r (elig hn) hne
  exact hrun.2 h

theorem live_of_granted {e : Event} {n : Fin 48} (h : ((allocate e).stn n).grantKw ≠ 0) :
    (e.st.stn n).grantKw ≠ 0 ∨ e.st.branchLive n = true := by
  by_cases hz : (e.st.stn n).grantKw = 0
  · right
    have hcut : ((sheds e.st).1.stn n).grantKw = 0 := Nat.le_zero.mp (hz ▸ grant_sheds_le e.st n)
    have hgrant (l : List (Fin 48)) (s : State) : ((handChanges e.st l s).stn n).grantKw = (s.stn n).grantKw := by
      obtain ⟨q, hq⟩ := stn_handChanges e.st l s n
      rw [hq]
    obtain ⟨l, ha | ha⟩ := allocate_cases e
    · rw [ha, hgrant] at h
      exact absurd hcut h
    · rw [ha, hgrant] at h
      rw [← branchLive_of_unshed (unshed_sheds e.st)]
      exact live_of_raised fun heq => h (heq.trans hcut)
  · exact .inl hz

/-- The allocator keeps R74. -/
theorem demandLawful_allocate {e : Event} (h : e.st.demandLawful) : (allocate e).demandLawful := by
  intro n
  obtain ⟨hgr, hrc, hlive⟩ := h n
  have hst : ((allocate e).stn n).ungranted = (e.st.stn n).ungranted := stn_allocate e n
  have hreq : ((allocate e).stn n).requestKw = (e.st.stn n).requestKw := (congrArg Station.requestKw hst :)
  have hhost : ((allocate e).stn n).host = (e.st.stn n).host := (congrArg Station.host hst :)
  refine ⟨within_allocate hgr, by rw [hreq, hhost]; exact hrc, fun hg => ?_⟩
  have hheld : ((allocate e).stn n).held := held_allocate fun hne => (hlive hne).1
  refine ⟨hheld hg, ?_⟩
  rw [branchLive_allocate]
  exact (live_of_granted hg).elim (fun hne => (hlive hne).2) id

/-! ### The FLEX snapshot (R84 to R86) -/

theorem nodup_ascendFrom (p : Fin 48) : (ascendFrom p).Nodup := by
  refine List.Nodup.append (nodup_allStations.filter _) (nodup_allStations.filter _) fun n hn hm => ?_
  have h1 := of_decide_eq_true (List.mem_filter.mp hn).2
  have h2 := of_decide_eq_true (List.mem_filter.mp hm).2
  exact absurd h1 (not_le.mpr h2)

theorem flexible_of_kept {s t : State} (h : t.kept = s.kept) {n : Fin 48} (hf : (s.stn n).flexible) : (t.stn n).flexible := by
  have hs := stable_of_kept h n
  have h1 : (t.stn n).state = (s.stn n).state := (congrArg Station.state hs :)
  have h2 : (t.stn n).host = (s.stn n).host := (congrArg Station.host hs :)
  rwa [Station.flexible, h1, h2]

theorem snapshotLawful_of_sublist {s t : State} (h : t.kept = s.kept)
    (ha : t.allocator.flexSnapshot.Sublist s.allocator.flexSnapshot) (hs : s.snapshotLawful) : t.snapshotLawful :=
  ⟨hs.1.sublist ha, fun n hn => flexible_of_kept h (hs.2 n (ha.subset hn))⟩

theorem snapshotLawful_takeFlex {w : PassWork} (h : w.st.snapshotLawful) : w.takeFlex.st.snapshotLawful := by
  unfold PassWork.takeFlex
  split
  · refine ⟨(nodup_ascendFrom _).filter _, fun n hn => ?_⟩
    obtain ⟨hc, he⟩ := mem_snapshot.mp hn
    exact ⟨((eligible_iff _ _ _).mp he).1, hc⟩
  · exact h

theorem snapshotLawful_flexStep {w : PassWork} (h : w.st.snapshotLawful) : w.flexStep.st.snapshotLawful := by
  have hdrop {v : PassWork} (hv : v.st.snapshotLawful) : v.dropFlex.st.snapshotLawful :=
    snapshotLawful_of_sublist (s := v.st) rfl (List.dropWhile_sublist _) hv
  have hready : w.takeFlex.dropFlex.takeFlex.st.snapshotLawful :=
    snapshotLawful_takeFlex (hdrop (snapshotLawful_takeFlex h))
  unfold PassWork.flexStep
  generalize w.takeFlex.dropFlex.takeFlex = v at hready
  dsimp only
  split
  · exact hready
  · next n rest hl =>
    have hk : ((v.setFlex rest).offer n).1.st.kept = v.st.kept := kept_offer _ _
    have ha : ((v.setFlex rest).offer n).1.st.allocator.flexSnapshot = rest := by rw [allocator_offer]; rfl
    refine snapshotLawful_of_sublist (t := { ((v.setFlex rest).offer n).1.st with
      allocator := { ((v.setFlex rest).offer n).1.st.allocator with flexPtr := n + 1 } }) hk ?_ hready
    show (((v.setFlex rest).offer n).1.st.allocator.flexSnapshot).Sublist _
    rw [ha, hl]
    exact List.sublist_cons_self n rest

theorem flexSnapshot_firmPart (w : PassWork) : w.firmPart.st.allocator.flexSnapshot = w.st.allocator.flexSnapshot := by
  have h := congrArg Allocator.flexSnapshot (allocator_firmOffers (w.snapshot .firm w.st.allocator.firmPtr) w none)
  unfold PassWork.firmPart
  dsimp only
  split <;> exact h

theorem snapshotLawful_round {w : PassWork} (h : w.st.snapshotLawful) : w.round.st.snapshotLawful := by
  have hf : w.firmPart.st.snapshotLawful := snapshotLawful_of_sublist (kept_firmPart w) (by rw [flexSnapshot_firmPart]) h
  unfold PassWork.round
  dsimp only
  split
  · exact snapshotLawful_flexStep hf
  · exact hf

theorem snapshotLawful_rounds (fuel : Nat) {w : PassWork} (h : w.st.snapshotLawful) : (rounds fuel w).st.snapshotLawful := by
  induction fuel generalizing w with
  | zero => exact h
  | succ k ih =>
    unfold rounds
    split
    · exact ih (snapshotLawful_round h)
    · exact h

theorem snapshotLawful_grantPass {s : State} (l : List (Fin 48)) (h : s.snapshotLawful) : (grantPass s l).st.snapshotLawful :=
  snapshotLawful_rounds _ h

theorem snapshotLawful_shed (c : ShedScope) {s : State} (l : List (Fin 48)) (h : s.snapshotLawful) :
    (shed c s l).st.snapshotLawful := by
  have ha : (shed c s l).st.allocator.flexSnapshot = s.allocator.flexSnapshot := congrArg (fun p => p.2.2) (passPointers_shed c s l)
  exact snapshotLawful_of_sublist (kept_shed c s l) (by rw [ha]) h

theorem snapshotLawful_branchSheds (l : List (Fin 6)) {w : State × List (Fin 48)} (h : w.1.snapshotLawful) :
    (branchSheds l w).1.snapshotLawful := by
  unfold branchSheds
  induction l generalizing w with
  | nil => exact h
  | cons b l ih =>
    rw [List.foldl_cons]
    refine ih ?_
    split
    · exact snapshotLawful_shed _ _ h
    · exact h

theorem snapshotLawful_sheds {s : State} (h : s.snapshotLawful) : (sheds s).1.snapshotLawful := by
  have hw := snapshotLawful_branchSheds allBranches (w := (s, [])) h
  rw [sheds_eq]
  dsimp only
  split
  · exact snapshotLawful_shed _ _ hw
  · exact hw

/-- The allocator leaves in the FLEX snapshot ACTIVE FLEX stations alone, each at most once. -/
theorem snapshotLawful_allocate {e : Event} (h : e.st.snapshotLawful) : (allocate e).snapshotLawful := by
  have hand (l : List (Fin 48)) {s : State} (hs : s.snapshotLawful) : (handChanges e.st l s).snapshotLawful :=
    snapshotLawful_of_sublist (kept_handChanges _ _ _) (by rw [allocator_handChanges]) hs
  have hsheds : (sheds e.st).1.snapshotLawful := snapshotLawful_sheds h
  obtain ⟨l, ha | ha⟩ := allocate_cases e
  · rw [ha]
    exact hand l hsheds
  · rw [ha]
    exact hand l (snapshotLawful_grantPass _ hsheds)

end Sys2Proof.Machine
end

section
/-!
SUPPORT. An event by what it does to the grants (R74, R84, R86, R91, R104): it curbs them, or it ends with the allocator; either keeps the
laws of the grants.
-/

namespace Sys2Proof.Machine

/-! ### The laws after grants are curbed -/

section
variable {s t : State} (h : GrantsCurbed s t)
include h

theorem GrantsCurbed.heldAll (hs : ∀ n, (s.stn n).held) (n : Fin 48) : (t.stn n).held := (h.stn n).held (hs n)

theorem GrantsCurbed.demandLawful (hs : s.demandLawful) : t.demandLawful := by
  intro n
  obtain ⟨hgr, hrc, hlive⟩ := hs n
  have hh : (s.stn n).held := fun hne => (hlive hne).1
  obtain ⟨hgr', hrc'⟩ := (h.stn n).modest hh ⟨hgr, hrc⟩
  refine ⟨hgr', hrc', fun hne => ⟨(h.stn n).held hh hne, h.live n hh hne (hlive fun hz => hne ?_).2⟩⟩
  exact Nat.le_zero.mp (hz ▸ (h.stn n).grant)

theorem GrantsCurbed.snapshotLawful (hs : s.snapshotLawful) : t.snapshotLawful :=
  ⟨hs.1.sublist h.snapshot, fun n hn => h.flexible n hn (hs.2 n (h.snapshot.subset hn))⟩

end

/-! ### The two kinds of event -/

/-- From `s` to `t` an event has curbed the grants, within A still, or it has ended with the allocator, before and after which the grants
were curbed. -/
inductive GrantEvent (s t : State) : Prop where
  | quiet (h : GrantsCurbed s t) (hw : s.grantsLawful → t.sumGrants ≤ t.capacity)
  | allotted (e : Event) (h : GrantsCurbed s e.st) (k : GrantsCurbed (allocate e) t) (hc : t.capacity = (allocate e).capacity)

section
variable {s t : State} (h : GrantEvent s t)
include h

theorem GrantEvent.grantsLawful (hs : s.grantsLawful) : t.grantsLawful := by
  obtain ⟨hheld, hsum, hq⟩ := hs
  cases h with
  | quiet h hw => exact ⟨h.heldAll hheld, hw ⟨hheld, hsum, hq⟩, h.quantum hq⟩
  | allotted e h k hc =>
    have hqe : 10 ≤ e.st.plant.quantum := h.quantum hq
    have hh : ∀ n, (e.st.stn n).held := h.heldAll hheld
    refine ⟨k.heldAll fun n => held_allocate (hh n), k.within hc (within_allocate_sum (by omega) hh), k.quantum ?_⟩
    rw [plant_allocate]
    exact hqe

theorem GrantEvent.demandLawful (hs : s.demandLawful) : t.demandLawful := by
  cases h with
  | quiet h _ => exact h.demandLawful hs
  | allotted e h k _ => exact k.demandLawful (demandLawful_allocate (h.demandLawful hs))

theorem GrantEvent.snapshotLawful (hs : s.snapshotLawful) : t.snapshotLawful := by
  cases h with
  | quiet h _ => exact h.snapshotLawful hs
  | allotted e h k _ => exact k.snapshotLawful (snapshotLawful_allocate (h.snapshotLawful hs))

/-- What comes after an event and leaves A alone. -/
theorem GrantEvent.curbed {u : State} (k : GrantsCurbed t u) (hc : u.capacity = t.capacity) : GrantEvent s u := by
  cases h with
  | quiet h hw => exact .quiet (h.trans k) fun hs => k.within hc (hw hs)
  | allotted e h k' hc' => exact .allotted e h (k'.trans k) (hc.trans hc')

theorem GrantEvent.demand {u : State} (k : u.demand = t.demand) : GrantEvent s u := h.curbed (.of_demand k) (capacity_of_demand k)

end

theorem GrantsCurbed.event {s t : State} (h : GrantsCurbed s t) (hc : t.capacity = s.capacity) : GrantEvent s t :=
  .quiet h fun hs => h.within hc hs.2.1

theorem GrantEvent.of_demand {s t : State} (h : t.demand = s.demand) : GrantEvent s t :=
  (GrantsCurbed.of_demand h).event (capacity_of_demand h)

/-- An event that begins from the same stations, branches and plant. -/
theorem GrantEvent.from {s u t : State} (h : GrantEvent u t) (hd : u.demand = s.demand) : GrantEvent s t := by
  have hc : GrantsCurbed s u := .of_demand hd
  cases h with
  | quiet h hw => exact .quiet (hc.trans h) fun hs => hw ((GrantEvent.of_demand hd).grantsLawful hs)
  | allotted e h k hcap => exact .allotted e (hc.trans h) k hcap

theorem GrantsCurbed.settle {s t : State} (h : GrantsCurbed s t) (hc : t.capacity = s.capacity) (before : State) (c r : Bool) :
    GrantEvent s (t.settle before c r) :=
  (h.event hc).curbed (settle_curbed t before c r) (capacity_settle t before c r)

theorem GrantsCurbed.allocate_settle {s : State} {e : Event} (h : GrantsCurbed s e.st) (before : State) (c r : Bool) :
    GrantEvent s ((allocate e).settle before c r) :=
  .allotted e h (settle_curbed _ _ _ _) (capacity_settle _ _ _ _)

theorem GrantsCurbed.finish {s : State} {e : Event} (h : GrantsCurbed s e.st) (before : State) : GrantEvent s (e.finish before) :=
  h.allocate_settle before _ _

/-- A is worked out again, which the law of Σ grants alone looks at (R39). -/
theorem GrantsCurbed.recapacity {s v : State} (h : GrantsCurbed s v) : GrantsCurbed s v.event.recapacity.st :=
  ⟨h.stn, h.live, h.snapshot, h.flexible, h.quantum⟩

theorem GrantsCurbed.recapped {s v : State} (h : GrantsCurbed s v) (before : State) : GrantEvent s (v.event.recapacity.finish before) :=
  h.recapacity.finish before

theorem GrantEvent.recapped {s v : State} (h : v.demand = s.demand) (before : State) :
    GrantEvent s (v.event.recapacity.finish before) := (GrantsCurbed.of_demand h).recapped before

/-! ### One record written -/

theorem host_of_stable {r r' : Station} (h : r.stable = r'.stable) : r.host = r'.host := (congrArg Station.host h :)

theorem request_of_stable {r r' : Station} (h : r.stable = r'.stable) : r.requestKw = r'.requestKw :=
  (congrArg Station.requestKw h :)

/-- A record without a grant. -/
theorem Station.Curbed.of_idle {r r' : Station} (hg : r'.grantKw = 0) (hm : r.modest → r'.requestKw ≤ r'.host.contractKw) : r.Curbed r' :=
  ⟨by omega, fun _ hne => absurd hg hne, fun _ h => ⟨by omega, hm h⟩⟩

/-- A record that is not ACTIVE, its grant left as it was. -/
theorem Station.Curbed.of_unattached {r r' : Station} (hs : r.state ≠ .active) (hg : r'.grantKw = r.grantKw)
    (hm : r.modest → r'.requestKw ≤ r'.host.contractKw) : r.Curbed r' := by
  have hz (h : r.held) : r'.grantKw = 0 := hg.trans (not_not.mp fun hne => hs (h hne))
  exact ⟨hg.le, fun h hne => absurd (hz h) hne, fun h h' => ⟨by rw [hz h]; exact Nat.zero_le _, hm h'⟩⟩

theorem not_flexible {r : Station} (h : r.state ≠ .active) (r' : Station) (hf : r.flexible) : r'.flexible := absurd hf.1 h

theorem setStn_curbed {s : State} {n : Fin 48} {r : Station} (h : (s.stn n).Curbed r) (hf : (s.stn n).flexible → r.flexible) :
    GrantsCurbed s (s.setStn n r) := by
  refine ⟨fun m => ?_, fun _ _ _ => id, .refl _, fun m _ => ?_, id⟩
  · rw [stn_setStn]
    split
    · next e => exact e ▸ h
    · exact .refl _
  · rw [stn_setStn]
    split
    · next e => exact e ▸ hf
    · exact id

/-- A record is written with its grant and its state as they were, and what follows curbs the grant to what the record then asks. -/
theorem GrantsCurbed.of_rewritten {s t : State} {n : Fin 48} {r : Station} (h : GrantsCurbed (s.setStn n r) t)
    (hg : r.grantKw = (s.stn n).grantKw) (hst : r.state = (s.stn n).state) (hm : (s.stn n).modest → (t.stn n).modest)
    (hf : n ∈ t.allocator.flexSnapshot → (s.stn n).flexible → r.flexible) : GrantsCurbed s t := by
  have hrec (m : Fin 48) : (s.setStn n r).stn m = if m = n then r else s.stn m := stn_setStn s n m r
  have hgrant (m : Fin 48) : ((s.setStn n r).stn m).grantKw = (s.stn m).grantKw := by
    rw [hrec]
    split
    · next e => rw [hg, e]
    · rfl
  have hheld (m : Fin 48) (hh : (s.stn m).held) : ((s.setStn n r).stn m).held := by
    rw [hrec]
    split
    · next e =>
      rw [Station.held, hg, hst]
      exact e ▸ hh
    · exact hh
  refine ⟨fun m => ⟨(h.stn m).grant.trans (hgrant m).le, fun hh => (h.stn m).held (hheld m hh), fun hh => ?_⟩,
    fun m hh => h.live m (hheld m hh), h.snapshot, fun m hmem hfl => ?_, h.quantum⟩
  · by_cases e : m = n
    · exact e ▸ hm
    · intro hmod
      refine (h.stn m).modest (hheld m hh) ?_
      rw [hrec, if_neg e]
      exact hmod
  · refine h.flexible m hmem ?_
    rw [hrec]
    split
    · next e => exact hf (e ▸ hmem) (e ▸ hfl)
    · exact hfl

/-! ### Stations taken off the allocator (R86, R91) -/

/-- The FLEX snapshot loses a station. -/
theorem leaveFlex_curbed (s : State) (n : Fin 48) : GrantsCurbed s (s.leaveFlex n) :=
  ⟨fun _ => .refl _, fun _ _ _ => id, List.filter_sublist, fun _ _ => id, id⟩

/-- A station off its branch holds no grant, and the FLEX snapshot does not hold it (R86, R91). -/
theorem detach_curbed (s : State) (n : Fin 48) : GrantsCurbed s (s.detach n) := by
  have h : GrantsCurbed s (s.setStn n (s.stn n).detached) := setStn_curbed (.of_idle rfl And.right) id
  exact (h.trans (leaveFlex_curbed _ n)).trans (.of_demand (demand_mapBr fun _ => rfl))

theorem notMem_snapshot_detach (s : State) (n : Fin 48) : n ∉ (s.detach n).allocator.flexSnapshot := by
  intro h
  exact of_decide_eq_true (List.mem_filter.mp h).2 rfl

theorem snapshot_of_demand {s t : State} (h : t.demand = s.demand) : t.allocator.flexSnapshot = s.allocator.flexSnapshot :=
  congrArg (fun d => d.2.2.1) h

/-- A station off its branch is written a record without a grant. -/
theorem GrantsCurbed.put {s t : State} (h : GrantsCurbed s t) {n : Fin 48} {r : Station} (hn : n ∉ t.allocator.flexSnapshot)
    (hg : r.grantKw = 0) (hm : (s.stn n).modest → r.requestKw ≤ r.host.contractKw) : GrantsCurbed s (t.setStn n r) := by
  refine ⟨fun m => ?_, fun m hh hne => ?_, h.snapshot, fun m hmem => ?_, h.quantum⟩
  · rw [stn_setStn]
    split
    · next e => exact e ▸ .of_idle hg hm
    · exact h.stn m
  · rw [stn_setStn] at hne
    split at hne
    · exact absurd hg hne
    · exact h.live m hh hne
  · have e : m ≠ n := fun e => hn (e ▸ hmem)
    rw [stn_setStn_ne _ e]
    exact h.flexible m hmem

theorem takeOff_curbed (s : State) (n : Fin 48) (o : MeterOutcome) {r : Station} (hg : r.grantKw = 0)
    (hm : (s.stn n).modest → r.requestKw ≤ r.host.contractKw) : GrantsCurbed s (s.takeOff n o r) := by
  have hd : ((s.detach n).endReads n o).demand = (s.detach n).demand := demand_endReads _ n o
  refine ((detach_curbed s n).trans (.of_demand hd)).put ?_ hg hm
  rw [snapshot_of_demand hd]
  exact notMem_snapshot_detach s n

end Sys2Proof.Machine
end

section
/-!
SUPPORT. The grants through the host's requests (R74, R86, R91, R104): each is a `GrantEvent`.
-/

namespace Sys2Proof.Machine

/-! ### The plant's records -/

section
variable (s : State)

theorem demand_judgeRelay : s.judgeRelay.demand = s.demand := rfl

theorem demand_defineChiller (u : Fin 8) (c : ChillerSettings) : (s.defineChiller u c).demand = s.demand := by
  unfold State.defineChiller
  dsimp only
  repeat' split
  all_goals rfl

theorem demand_judgeStorage (soc : Nat) : (s.judgeStorage soc).demand = s.demand := by
  unfold State.judgeStorage
  repeat' split
  · exact demand_enableStorage s true
  · exact demand_enableStorage s false
  · exact demand_enableStorage s _

theorem demand_refitTank (old : Nat) : (s.refitTank old).demand = s.demand := by
  unfold State.refitTank
  repeat' split
  · rfl
  · rfl
  · rfl
  · exact demand_judgeStorage { s with tank := { s.tank with soc := _ } } _
  · rfl

end

/-! ### Requests that have no part in the grants -/

section
variable (s : State)

theorem event_onChCmd (unit command : Nat) : GrantEvent s (s.onChCmd unit command).1 := by
  unfold State.onChCmd
  split
  · unfold State.chillerStart
    dsimp only
    repeat' split
    all_goals exact .of_demand rfl
  · unfold State.chillerStop
    dsimp only
    split
    · split
      · exact GrantEvent.recapped (s := s) (v := s.stopChiller _) rfl s
      · exact .of_demand rfl
    all_goals exact .of_demand rfl
  · exact .of_demand rfl

theorem event_onClock (tod : Nat) : GrantEvent s (s.onClock tod).1 := by
  unfold State.onClock State.setClock
  split
  · exact .of_demand rfl
  · dsimp only
    split
    · exact .of_demand rfl
    · exact GrantEvent.recapped (s := s) (v := { s with clock := some tod }) rfl s

theorem event_onChDef (f : ChDefFields) : GrantEvent s (s.onChDef f).1 := by
  unfold State.onChDef
  split
  · split
    · exact .recapped (demand_defineChiller s _ _) s
    · exact .of_demand rfl
  · exact .of_demand rfl

theorem event_onSchedWin (a b : Nat) : GrantEvent s (s.onSchedWin a b).1 := by
  unfold State.onSchedWin
  split <;> exact .of_demand rfl

theorem event_onSchedData (flag : Nat) (records : List SlotFields) : GrantEvent s (s.onSchedData flag records).1 := by
  have hload (l : LoadSession) (start : Nat) (w : LoadWork) : GrantEvent s (s.loadEnd l start w) := by
    have hsame : (s.withLoad l w).demand = s.demand := rfl
    by_cases hw : s.writesCurrent start w.pointer = true
    · rw [State.loadEnd, if_pos hw]
      exact (GrantsCurbed.of_demand hsame).recapacity.allocate_settle s true false
    · rw [loadEnd_elsewhere hw]
      exact .of_demand hsame
  unfold State.onSchedData
  split
  · exact .of_demand rfl
  split
  · exact .of_demand rfl
  split
  · exact .of_demand rfl
  · rw [loadSlots_eq]
    exact hload _ _ _

theorem event_onRefDef (f : RefDefFields) : GrantEvent s (s.onRefDef f).1 := by
  unfold State.onRefDef
  split
  · exact .of_demand (demand_finishPressure _ s)
  · exact .of_demand rfl

theorem event_onPumpDef (p : PumpSettings) : GrantEvent s (s.onPumpDef p).1 := by
  unfold State.onPumpDef State.setPump
  dsimp only
  repeat' split
  all_goals exact .of_demand rfl

theorem event_onMeter (tag n : Nat) : GrantEvent s (s.onMeter tag n).1 := by
  unfold State.onMeter
  repeat' split
  case isFalse =>
    exact (GrantsCurbed.of_demand (demand_updBr rfl)).settle rfl s false false
  all_goals exact .of_demand rfl

theorem event_onFaultAck (kind subject : Nat) : GrantEvent s (s.onFaultAck kind subject).1 := by
  unfold State.onFaultAck
  repeat' split
  all_goals exact .of_demand rfl

theorem event_onFaultMask (mask : Nat) : GrantEvent s (s.onFaultMask mask).1 := by
  unfold State.onFaultMask
  split <;> exact .of_demand rfl

/-! ### BR-REST and BR-WAKE (R92, R145, R149) -/

theorem event_onBrRest (n : Nat) : GrantEvent s (s.onBrRest n).1 := by
  unfold State.onBrRest
  split
  · exact .of_demand rfl
  · split
    · exact .of_demand rfl
    · split
      · exact .of_demand rfl
      · exact .of_demand rfl
      · exact .of_demand rfl
      · split
        · exact (enterOffering_curbed s _).finish s
        · exact .of_demand rfl

theorem event_onBrWake (n : Nat) : GrantEvent s (s.onBrWake n).1 := by
  have hwake {b : Fin 6} (hr : (s.br b).rest ≠ .live) : GrantEvent s ((s.enterWaking b).settle s false false) :=
    (enterWaking_curbed hr).settle (capacity_of_kept (kept_enterWaking s b)) s false false
  unfold State.onBrWake
  split
  · exact .of_demand rfl
  · split
    · exact .of_demand rfl
    · split
      · next h => exact hwake (by rw [h]; nofun)
      · next h => exact hwake (by rw [h]; nofun)
      · exact .of_demand rfl
      · exact .of_demand rfl

/-! ### Stations (R4, R5, R91, R120) -/

/-- A defined station's record replaced, a station that has changed its class out of the FLEX snapshot (R4, R86). -/
def State.reclassed (s : State) (n : Fin 48) (h : HostFields) : State :=
  if (s.stn n).host.cls = h.cls then s.setStn n ((s.stn n).redefine h) else (s.setStn n ((s.stn n).redefine h)).leaveFlex n

/-- The branch woken where REST has left the station's resolved caps (R8, R148). -/
def State.rewoken (s : State) (n : Fin 48) (h : HostFields) : State :=
  if (s.stn n).state = .active ∧ (s.stn n).resolved.rest = true ∧ ((s.stn n).redefine h).resolved.rest = false then
    (s.reclassed n h).restLost n
  else s.reclassed n h

section
variable (n : Fin 48) (h : HostFields)

theorem kept_rewoken : (s.rewoken n h).kept = (s.setStn n ((s.stn n).redefine h)).kept := by
  have hclass : (s.reclassed n h).kept = (s.setStn n ((s.stn n).redefine h)).kept := by
    unfold State.reclassed
    split <;> rfl
  unfold State.rewoken
  split
  · rw [kept_restLost, hclass]
  · exact hclass

theorem reclassed_curbed : GrantsCurbed (s.setStn n ((s.stn n).redefine h)) (s.reclassed n h) := by
  unfold State.reclassed
  split
  · exact .refl _
  · exact leaveFlex_curbed _ n

theorem rewoken_curbed : GrantsCurbed (s.reclassed n h) (s.rewoken n h) := by
  unfold State.rewoken State.restLost
  split
  · split
    · exact wakeReason_curbed _ _
    · exact .refl _
  · exact .refl _

/-- The FLEX snapshot keeps a redefined station of the same class alone (R86). -/
theorem cls_of_mem_reclassed (hm : n ∈ (s.reclassed n h).allocator.flexSnapshot) : (s.stn n).host.cls = h.cls := by
  by_contra hne
  rw [State.reclassed, if_neg hne] at hm
  exact of_decide_eq_true (List.mem_filter.mp hm).2 rfl

theorem demand_redefine :
    (s.event.redefine n h).st.demand = ((s.rewoken n h).release n h.contractKw).demand := by
  unfold Event.redefine
  extract_lets old new e1 e2 e3 e4
  have he : e4.st = (s.rewoken n h).release n h.contractKw := rfl
  split
  · rw [demand_recomputeAll, he]
  · rw [he]

/-- A station redefined asks for its new contract at most, and is held to it (R4, R8, R90). -/
theorem redefine_curbed : GrantsCurbed s (s.event.redefine n h).st := by
  have hnew := redefine_eq (s.stn n) h
  have hrelease : GrantsCurbed (s.rewoken n h) ((s.rewoken n h).release n h.contractKw) := release_curbed _ n _
  have hgrant : ((s.stn n).redefine h).grantKw = (s.stn n).grantKw := by rw [hnew]
  have hall := ((reclassed_curbed s n h).trans (rewoken_curbed s n h)).trans hrelease
  refine GrantsCurbed.trans ?_ (.of_demand (demand_redefine s n h))
  refine hall.of_rewritten hgrant (by rw [hnew]) ?_ fun hmem hfl => ?_
  · rintro ⟨hgr, -⟩
    obtain ⟨q, hq⟩ := stn_release (s.rewoken n h) n h.contractKw n
    rw [if_pos rfl] at hq
    have hstable : ((s.rewoken n h).stn n).stable = ((s.stn n).redefine h).stable := by
      rw [stable_of_kept (kept_rewoken s n h), stn_setStn_same]
    have hreq : ((s.rewoken n h).stn n).requestKw = min (s.stn n).requestKw h.contractKw :=
      (request_of_stable hstable).trans (congrArg Station.requestKw hnew :)
    have hhost : ((s.rewoken n h).stn n).host = h := (host_of_stable hstable).trans (congrArg Station.host hnew :)
    have hfall : ((s.rewoken n h).stn n).grantKw ≤ (s.stn n).grantKw := by
      refine (((reclassed_curbed s n h).trans (rewoken_curbed s n h)).stn n).grant.trans ?_
      rw [stn_setStn_same, hgrant]
    rw [hq, Station.modest]
    dsimp only
    rw [hreq, hhost]
    omega
  · have hcls := cls_of_mem_reclassed s n h (((rewoken_curbed s n h).trans hrelease).snapshot.subset hmem)
    rw [hnew]
    exact ⟨hfl.1, hcls ▸ hfl.2⟩

end

theorem event_onStnDef (f : StnDefFields) : GrantEvent s (s.onStnDef f).1 := by
  unfold State.onStnDef
  split
  · next n h _ _ =>
    dsimp only
    split
    · next hv =>
      have hidle : (s.stn n).state ≠ .active := by rw [hv]; nofun
      refine GrantsCurbed.finish (e := ⟨s.setStn n (Station.define h (rangeHolds s.isolation n.val)), false⟩)
        (setStn_curbed (.of_idle ?_ fun _ => ?_) (not_flexible hidle _)) s
      · unfold Station.define
        split <;> rfl
      · unfold Station.define
        split <;> exact Nat.zero_le _
    · exact (redefine_curbed s n h).finish s
  · exact .of_demand rfl

end

end Sys2Proof.Machine
end

section
/-!
SUPPORT. The grants through the host's requests, continued: the stations that leave the allocator, and the settings that R74 and R76 rest on.
-/

namespace Sys2Proof.Machine

/-! ### STN-DROP and ISOLATE (R5, R15, R91, R120) -/

/-- What is done to one station after another curbs the grants where it does so to each. -/
theorem foldl_curbed {f : Event → Fin 48 → Event} (h : ∀ e n, GrantsCurbed e.st (f e n).st) (l : List (Fin 48)) (e : Event) :
    GrantsCurbed e.st (l.foldl f e).st := by
  induction l generalizing e with
  | nil => exact .refl _
  | cons n l ih => exact (h e n).trans (ih _)

theorem isolateStation_curbed (old new : Option Range) (e : Event) (n : Fin 48) :
    GrantsCurbed e.st (e.isolateStation old new n).st := by
  rcases isolateStation_cases old new e n with ⟨⟨hv, hin, hout⟩, h⟩ | ⟨hstay, h⟩
  · have hr : (e.st.stn n).moved old new n = (e.st.stn n).detached.isolate := by
      rw [Station.moved, if_neg hv, if_pos ⟨hin, hout⟩]
    rw [h, hr]
    exact (takeOff_curbed e.st n .isolated rfl fun _ => Nat.zero_le _).trans (judgeOfferingOf_curbed _ n)
  · rw [h]
    refine setStn_curbed ?_ ?_ <;> unfold Station.moved
    · split
      · exact .refl _
      split
      · next hv hm => exact absurd ⟨hv, hm.1, hm.2⟩ hstay
      split
      · next hm => exact .of_unattached (by rw [hm.2.2]; nofun) rfl fun hmod => hmod.2
      · exact .refl _
    · split
      · exact id
      split
      · next hv hm => exact absurd ⟨hv, hm.1, hm.2⟩ hstay
      split
      · next hm => exact not_flexible (by rw [hm.2.2]; nofun) _
      · exact id

section
variable (s : State)

theorem event_onStnDrop (n : Nat) : GrantEvent s (s.onStnDrop n).1 := by
  unfold State.onStnDrop
  split
  · split
    · exact .of_demand rfl
    · next n _ _ =>
      refine GrantsCurbed.finish (e := s.event.drop n) ?_ s
      rw [drop_st]
      exact (takeOff_curbed s n .dropped rfl fun _ => le_rfl).trans (judgeOfferingOf_curbed _ n)
  · exact .of_demand rfl

theorem event_onIsolate (base limit : Nat) : GrantEvent s (s.onIsolate base limit).1 := by
  unfold State.onIsolate
  split
  · split
    · exact .of_demand rfl
    · next new _ _ =>
      have h : GrantsCurbed s ({ s with isolation := new } : State) := .of_demand rfl
      have hall := foldl_curbed (isolateStation_curbed s.isolation new) allStations ({ s with isolation := new } : State).event
      exact GrantsCurbed.finish (e := s.event.setIsolation new) (h.trans hall) s
  · exact .of_demand rfl

/-! ### PLANT-DEF (R69, R76) -/

/-- The quantum that a PLANT-DEF brings lies in its range (R57). -/
theorem event_onPlantDef (p : PlantSettings) : GrantEvent s (s.onPlantDef p).1 := by
  cases hr : p.inRange with
  | false =>
    rw [onPlantDef_refused s hr]
    exact .of_demand rfl
  | true =>
    have hq : 10 ≤ p.quantum := ((inRange_plant_iff p).mp hr).2.1.1
    have hplant : GrantsCurbed s { s with plant := p } := ⟨fun _ => .refl _, fun _ _ _ => id, .refl _, fun _ _ => id, fun _ => hq⟩
    have hfit : GrantsCurbed s (s.replanted p) := hplant.trans (.of_demand (demand_refitTank { s with plant := p } _))
    have hre : GrantsCurbed s (s.recomputedPlant p).st := by
      unfold State.recomputedPlant
      split
      · exact hfit.recapacity
      · exact hfit.recapacity.trans (.of_demand (demand_recomputeAll _))
    rw [onPlantDef_accepted s hr, applyPlant_eq]
    exact GrantsCurbed.finish (e := (s.recomputedPlant p).callPass _) (by rw [callPass_st]; exact hre) s

/-! ### BR-DEF (R6, R117, R118) -/

/-- A station that has changed its branch holds no grant (R6). -/
theorem moveWindow_curbed (e : Event) (n : Fin 48) : GrantsCurbed e.st (e.moveWindow n).st := by
  unfold Event.moveWindow
  split
  · rw [returnToSeeking_st, map_st]
    have hrec : (e.st.detach n).stn n = (e.st.stn n).detached := by rw [stn_detach, if_pos rfl]
    rw [hrec]
    refine (detach_curbed e.st n).put (notMem_snapshot_detach e.st n) ?_ fun hm => ?_
    · unfold Station.startHold
      split <;> rfl
    · unfold Station.startHold
      split <;> exact hm.2
  · exact .of_demand (demand_mapBr fun _ => rfl)

/-- A station of the old or the new window that holds a grant makes the branch busy (R117, check 3). -/
theorem branchBusy_of_granted {b : Fin 6} {w : Option Range} {n : Fin 48} (hn : s.inWindow b n = true ∨ rangeHolds w n.val = true)
    (hg : (s.stn n).grantKw ≠ 0) (ha : (s.stn n).state = .active) : s.branchBusy b w = true := by
  have hbusy : s.stationBusy n = true := by simp [State.stationBusy, Nat.pos_of_ne_zero hg]
  simp only [State.branchBusy, Bool.or_eq_true, List.any_eq_true, Bool.and_eq_true, decide_eq_true_eq]
  exact .inr ⟨n, mem_allStations n, ⟨hn, by rw [ha]; nofun⟩, hbusy⟩

/-- A branch that is not busy is given another window, and every station that holds a grant keeps its branch (R117, R118). -/
theorem reopen_curbed {b : Fin 6} {c : BranchSettings} (h : s.branchBusy b c.window = false) :
    GrantsCurbed s (s.updBr b fun r => r.reopen c) := by
  refine ⟨fun _ => .refl _, fun n hh hg hl => ?_, .refl _, fun _ _ => id, id⟩
  have hout : ¬ (s.inWindow b n = true ∨ rangeHolds c.window n.val = true) := fun hn => by
    rw [branchBusy_of_granted s hn hg (hh hg)] at h
    cases h
  obtain ⟨hold, hnew⟩ := not_or.mp hout
  have hin (d : Fin 6) : (s.updBr b fun r => r.reopen c).inWindow d n = s.inWindow d n := by
    by_cases hd : d = b
    · subst hd
      rw [Bool.eq_false_iff.mpr hold, State.inWindow, br_updBr_same]
      exact Bool.eq_false_iff.mpr hnew
    · rw [State.inWindow, br_updBr, if_neg hd]
      rfl
  have ho : (s.updBr b fun r => r.reopen c).branchOf n = s.branchOf n := by simp only [State.branchOf, hin]
  refine branchLive_mono ho (fun d hd hr => ?_) hl
  rw [br_updBr, if_neg fun e : d = b => hold (e ▸ inWindow_of_branchOf hd)]
  exact hr

theorem event_onBrDef (f : BrDefFields) : GrantEvent s (s.onBrDef f).1 := by
  unfold State.onBrDef
  split
  · next b c _ _ =>
    split
    · exact .of_demand rfl
    split
    · exact .of_demand rfl
    next hbusy =>
    split
    · exact .of_demand rfl
    refine GrantsCurbed.finish ?_ s
    by_cases hw : (s.br b).settings.window = c.window
    · rw [applyBranch_same s b c hw]
      refine .of_demand (demand_updBr ?_)
      rw [Branch.duty, ← hw]
      rfl
    · rw [applyBranch_moves s b c hw]
      exact (reopen_curbed s (Bool.eq_false_iff.mpr fun h => hbusy ⟨hw, h⟩)).trans
        (foldl_curbed moveWindow_curbed _ ⟨s.updBr b fun r => r.reopen c, false⟩)
  · exact .of_demand rfl

/-! ### A request carried out, and the supervisory link -/

theorem event_carryOut (tag : Nat) (r : Request) : GrantEvent s (s.carryOut tag r).1 := by
  cases r with
  | clock tod => exact event_onClock s tod
  | stnDef f => exact event_onStnDef s f
  | stnDrop n => exact event_onStnDrop s n
  | brDef f => exact event_onBrDef s f
  | isolate base limit => exact event_onIsolate s base limit
  | chDef f => exact event_onChDef s f
  | chCmd unit command => exact event_onChCmd s unit command
  | plantDef p => exact event_onPlantDef s p
  | schedWin first last => exact event_onSchedWin s first last
  | schedData flag records => exact event_onSchedData s flag records
  | refDef f => exact event_onRefDef s f
  | pumpDef p => exact event_onPumpDef s p
  | brRest b => exact event_onBrRest s b
  | brWake b => exact event_onBrWake s b
  | meter n => exact event_onMeter s tag n
  | getStn n => exact .of_demand (congrArg State.demand (onGetStn_fst s n))
  | getBr b part => exact .of_demand (congrArg State.demand (onGetBr_fst s b part))
  | getPlant part => exact .of_demand (congrArg State.demand (onGetPlant_fst s part))
  | getRef => exact .of_demand rfl
  | getFaults part => exact .of_demand (congrArg State.demand (onGetFaults_fst s part))
  | faultAck kind subject => exact event_onFaultAck s kind subject
  | faultMask mask => exact event_onFaultMask s mask
  | save => exact .of_demand rfl
  | restart => exact .of_demand rfl
  | unknown kind => exact .of_demand rfl
  | badFormat kind => exact .of_demand rfl

theorem event_handle (f : HostFrame) : GrantEvent s (s.handle f) := by
  obtain ⟨tag, r⟩ := f
  by_cases h1 : r = .save
  · subst h1
    exact .of_demand rfl
  by_cases h2 : r = .restart
  · subst h2
    exact .of_demand rfl
  rw [handle_eq h1 h2]
  exact (event_carryOut s tag r).demand ((demand_reply _ _ _ _).trans (demand_closeSession _ _ _))

theorem event_takeNext : GrantEvent s s.takeNext := by
  unfold State.takeNext
  split
  · exact (event_handle _ _).from rfl
  · exact .of_demand rfl

theorem event_receive (f : HostFrame) : GrantEvent s (s.receive f) := by
  unfold State.receive
  split
  · exact .of_demand ((demand_judgeRelay _).trans (demand_raise _ _ _))
  · exact (event_takeNext _).from rfl

theorem event_frameSent : GrantEvent s s.frameSent := by
  unfold State.frameSent
  split
  · exact .of_demand rfl
  · dsimp only
    split
    · exact .of_demand rfl
    · split
      · exact (event_takeNext _).from rfl
      all_goals exact .of_demand rfl

theorem event_saveReadBack (agrees : Bool) : GrantEvent s (s.saveReadBack agrees) := by
  unfold State.saveReadBack
  split
  · split
    · exact .of_demand ((demand_reply _ _ _ _).trans (demand_closeSession _ _ _))
    · exact .of_demand rfl
  all_goals exact .of_demand rfl

end

end Sys2Proof.Machine
end

section
/-!
The laws of the grants through a step (R74, R84, R86, R91, R103, R104): what comes in on a segment, the plant bus, the timers and the starts,
and the statement.
-/

namespace Sys2Proof.Machine

/-! ### REPORT (R17, R21, R67, R89) -/

section
variable (s : State) (b : Fin 6) (n : Fin 48) (f : ReportFields)

theorem allocator_noteDemand (kw : Nat) : (s.noteDemand b kw).allocator = s.allocator := by
  unfold State.noteDemand
  split <;> rfl

theorem demand_heard : (s.heard b n f).demand = (s.setStn n ((s.stn n).reported f)).demand := by
  refine demand_eq (fun m => ?_) (fun d => ?_) ?_ (plant_heard s b n f) (congrArg Kept.capacity (kept_heard s b n f) :)
  · rw [stn_heard, stn_setStn]
  · obtain ⟨-, hset, hrest⟩ := br_heard s b n f d
    exact Prod.ext (congrArg BranchSettings.window hset) hrest
  · rw [State.heard, allocator_noteDemand]
    rfl

theorem enterActive_curbed (w : State) (c : Bool) : GrantsCurbed w ((Event.mk w c).enterActive n).st := by
  have h : GrantsCurbed w (w.setStn n { w.stn n with state := .active, debounce := 0, grantDt := w.effectiveDt n }) :=
    setStn_curbed ⟨le_rfl, fun _ _ => rfl, fun _ => id⟩ fun hf => ⟨rfl, hf.2⟩
  exact h.trans (.of_demand rfl)

theorem relieved_curbed (w : State) (flag : Bool) : GrantsCurbed w (w.relieved b n flag) := by
  have h : (if flag then w.queueUnlessWaiting b n else w).demand = w.demand := by
    unfold State.queueUnlessWaiting
    repeat' split
    · rfl
    · exact demand_handGrant w n
    · rfl
  exact (GrantsCurbed.of_demand h).trans (release_curbed _ n _)

/-- A report writes a request within the contract, and an ACTIVE station's grant is held to it (R18, R89). -/
theorem reporting_curbed (c : Bool) : GrantsCurbed s (Event.reporting s b n f c).st := by
  have hheard : GrantsCurbed (s.setStn n ((s.stn n).reported f)) (s.heard b n f) := .of_demand (demand_heard s b n f)
  unfold Event.reporting
  split
  · next ha =>
    have hafter : GrantsCurbed (s.heard b n f) ((Event.mk (s.heard b n f) c).reportActive b n f.standalone).st := by
      rw [reportActive_st]
      exact (relieved_curbed b n _ _).trans (.of_demand (demand_recomputeDeadband _ n))
    have hrec : (s.heard b n f).stn n = (s.stn n).reported f := by rw [stn_heard, if_pos rfl]
    refine (hheard.trans hafter).of_rewritten rfl rfl (fun hm => ⟨?_, ?_⟩) fun _ hf => hf
    · rw [grantKw_reportActive, request_reportActive]
      exact Nat.min_le_right _ _
    · have hstable := (congrFun (congrArg Kept.stations (kept_reportActive (s.heard b n f) c b n f.standalone)) n).trans (if_pos rfl)
      have hhost : (((Event.mk (s.heard b n f) c).reportActive b n f.standalone).st.stn n).host = (s.stn n).host :=
        (host_of_stable hstable).trans (by rw [hrec]; rfl)
      rw [request_reportActive, hrec, hhost]
      exact Nat.min_le_right _ _
  · next ha =>
    have hset : GrantsCurbed s (s.heard b n f) :=
      (setStn_curbed (r := (s.stn n).reported f) (.of_unattached ha rfl fun _ => Nat.min_le_right _ _) id).trans hheard
    unfold Event.reportAttaching
    split
    · exact hset.trans (enterActive_curbed n _ c)
    · exact hset.trans (.of_demand (demand_updStn rfl))

theorem afterReport_curbed (newcomer wakes : Bool) : GrantsCurbed s (s.afterReport b n newcomer wakes) := by
  have hheld : GrantsCurbed s (s.queueUnlessHeld b n) := by
    unfold State.queueUnlessHeld
    split
    · exact .refl s
    · exact .of_demand (demand_handGrant s n)
  have hnew : GrantsCurbed s (if newcomer then (s.queueUnlessHeld b n).joinRest b n else s) := by
    split
    · exact hheld.trans (joinRest_curbed _ b n)
    · exact .refl s
  unfold State.afterReport
  dsimp only
  split
  · exact hnew.trans (wakeReason_curbed _ b)
  · exact hnew

end

/-! ### The other replies (R7, R124, R134, R137, R147, R151) -/

section
variable (s : State) (b : Fin 6) (n : Fin 48)

theorem demand_confirmCap : (s.confirmCap b n).demand = s.demand := by
  have hhead (q : List CapEntry) (fl dt kw : Nat) : ((s.updBr b fun c => { c with queue := q }).updStn n fun r =>
      { r with confirmedFlow := fl, confirmedDt := dt, confirmedKw := kw }).demand = s.demand :=
    (demand_updStn rfl).trans (demand_updBr rfl)
  unfold State.confirmCap
  repeat' split
  · exact (demand_appendEntry _ _ _ _ _ _).trans (hhead _ _ _ _)
  · exact hhead _ _ _ _
  all_goals rfl

theorem demand_replying : (s.replying b n).demand = s.demand := (demand_updStn rfl).trans (demand_endTxn s b)

theorem event_restAnswer (before : State) (answer : Nat) : GrantEvent s (s.restAnswer before b n answer) := by
  unfold State.restAnswer
  dsimp only
  split
  · exact (GrantsCurbed.refl s).settle rfl before false false
  next hoff =>
  split
  · refine (enterWaking_curbed fun hl => hoff ?_).settle (capacity_of_kept (kept_enterWaking s b)) before false false
    rw [hl]
    rfl
  split
  · have h : GrantsCurbed s ((s.setStanding n .accepted).judgeOffering b) :=
      (GrantsCurbed.of_demand (demand_setStanding s n .accepted)).trans (judgeOffering_curbed _ b)
    exact h.settle (capacity_of_kept ((kept_judgeOffering _ b).trans (kept_setStanding s n _))) before false false
  · exact (GrantsCurbed.refl s).settle rfl before false false

/-- A reply handed to its rule; an ADVERTISE comes from a station that is not ACTIVE (R7). -/
theorem event_takeReply (r : FieldReply) (ha : (s.stn n).state.accepts r = true) :
    GrantEvent s ((s.replying b n).takeReply s b n r) := by
  have hd : (s.replying b n).demand = s.demand := demand_replying s b n
  cases r with
  | report f =>
    obtain ⟨c, hc⟩ := report_eq s b n f
    show GrantEvent s ((s.replying b n).report s b n f)
    rw [State.replying, hc]
    refine GrantEvent.allotted _ (reporting_curbed s b n f c) ((afterReport_curbed _ b n _ _).trans (settle_curbed _ _ _ _)) ?_
    rw [capacity_settle]
    exact (sameAllotment_afterReport _ b n _ _).capacity
  | advertise caps kw cap rev =>
    have hrec : ((s.replying b n).stn n).state = (s.stn n).state := by
      rw [State.replying, stn_updStn_same]
      rfl
    have hidle : ((s.replying b n).stn n).state ≠ .active := by
      intro e
      rw [hrec] at e
      rw [e] at ha
      cases ha
    refine GrantEvent.from ?_ hd
    have hset : GrantsCurbed (s.replying b n)
        ((s.replying b n).setStn n (((s.replying b n).stn n).advertise caps kw cap rev)) :=
      setStn_curbed (.of_unattached hidle rfl fun _ => Nat.zero_le _) (not_flexible hidle _)
    exact GrantsCurbed.finish (e := (s.replying b n).event.putStn n _) hset s
  | capAck seq =>
    refine GrantsCurbed.finish (e := ⟨((s.replying b n).confirmCap b n).updStn n _, _⟩) (.of_demand ?_) s
    exact (demand_updStn rfl).trans ((demand_confirmCap _ b n).trans hd)
  | restAnswer answer => exact (event_restAnswer _ b n s answer).from hd
  | wakeAck =>
    exact ((GrantsCurbed.of_demand (demand_updStn rfl)).settle rfl s false false : GrantEvent (s.replying b n) _).from hd
  | meterData energy volume =>
    refine GrantEvent.from ?_ hd
    exact (GrantsCurbed.of_demand (demand_endRead _ b n _)).settle (capacity_of_demand (demand_endRead _ b n _)) s false false

theorem event_fieldFrame (address : Nat) (r : Option FieldReply) : GrantEvent s (s.fieldFrame b address r) := by
  have hcount : GrantEvent s (s.countProtocol b) := .of_demand (demand_updBr rfl)
  unfold State.fieldFrame
  split
  · exact .of_demand rfl
  next x _ =>
  split
  · exact .of_demand rfl
  split
  · next r =>
    split
    · next hv =>
      unfold State.replied
      split
      · exact (GrantsCurbed.of_demand (demand_endTxn s b)).settle rfl s false false
      · next hab =>
        simp only [State.validReply, Bool.and_eq_true, Bool.or_eq_true] at hv
        exact event_takeReply s b x.station r (hv.2.resolve_left hab)
    · exact hcount
  · exact hcount

/-! ### A miss (R126) -/

theorem demand_missKind (x : Txn) : (s.missKind b x).demand = s.demand := by
  rcases missKind_cases s b x with e | ⟨rest, -, -, e⟩ | e
  · rw [e]
  · have hdrop : (s.dropHead b rest).demand = s.demand := demand_updBr rfl
    rw [e]
    unfold State.requeue
    split
    · exact hdrop
    · exact (demand_appendEntry _ _ _ _ _ _).trans hdrop
  · rw [e]
    rcases missMeter_cases s b x.station with e | ⟨r, e⟩ | e
    · rw [e]
    · rw [e]
      exact demand_updBr rfl
    · rw [e]
      exact demand_endRead s b _ _

theorem miss_curbed (e : Event) (x : Txn) : GrantsCurbed e.st (e.miss b x).st := by
  unfold Event.miss
  dsimp only
  split
  · split
    · rw [lose_st]
      refine ((takeOff_curbed e.st x.station .lost (lost_idle _ _).1 fun hm => ?_).trans (.of_demand (demand_raise _ _ _))).trans
        (judgeOfferingOf_curbed _ _)
      unfold Station.lost Station.startHold
      split <;> exact hm.2
    · exact .of_demand ((demand_missKind _ b x).trans (demand_updStn rfl))
  · next ha =>
    split
    · rw [returnToSeeking_st]
      have hidle : (e.st.stn x.station).state ≠ .active := by rw [ha]; nofun
      refine setStn_curbed (.of_unattached hidle ?_ fun hm => ?_) (not_flexible hidle _)
      · unfold Station.startHold
        split <;> rfl
      · unfold Station.startHold
        split <;> exact hm.2
    · exact .of_demand (demand_updStn rfl)
  all_goals exact .refl _

theorem event_replyTimeout : GrantEvent s (s.replyTimeout b) := by
  have hend : GrantsCurbed s (s.endTxn b) := .of_demand (demand_endTxn s b)
  unfold State.replyTimeout
  split
  · exact .of_demand rfl
  · next x _ =>
    split
    · exact hend.settle rfl s false false
    · exact (hend.trans (miss_curbed b (s.endTxn b).event x)).finish s

/-! ### The plant bus (R25) -/

theorem demand_chillerReport (u : Fin 8) (condition : RunCondition) (available : Nat) :
    (s.chillerReport u condition available).demand = s.demand := by
  rw [chillerReport_eq]
  split
  · exact demand_raise (s.unitHeard u condition available) _ _
  · rfl

theorem demand_tankReport (soc : Nat) (mode : TankMode) (rate : Nat) : (s.tankReport soc mode rate).demand = s.demand := by
  unfold State.tankReport
  dsimp only
  split
  · unfold State.firstStorage
    dsimp only
    repeat' split
    · exact demand_raise _ _ _
    · exact demand_raise _ _ _
    · rfl
    · rfl
  · exact demand_judgeStorage _ _

theorem event_plantDpReport (dp : Nat) : GrantEvent s ((s.plantDpReport dp).finishPressure s) := by
  refine .of_demand ((demand_finishPressure _ s).trans ?_)
  unfold State.plantDpReport
  dsimp only
  split <;> rfl

/-! ### The timers -/

theorem event_clockTick : GrantEvent s s.clockTick := by
  have hage : s.age.demand = s.demand :=
    demand_eq (fun n => by rw [stn_age]; rfl) (fun b => by rw [br_age]; rfl) rfl
      (by simp only [State.age]) (by simp only [State.age])
  by_cases hc : s.age.currentSlot = s.currentSlot
  · rw [clockTick_within hc]
    exact .of_demand ((demand_finishPressure _ s).trans hage)
  · rw [clockTick_change hc]
    exact .recapped hage s

theorem event_holdExpiry : GrantEvent s (s.holdExpiry n) := by
  unfold State.holdExpiry
  dsimp only
  split
  · exact GrantsCurbed.finish (e := ⟨s.setStn n (s.stn n).expireHold, _⟩) (.of_demand (demand_setStn rfl)) s
  · exact .of_demand rfl

theorem event_silence (a : Fin 11) : GrantEvent s (s.silence a) := by
  unfold State.silence
  split
  · refine .recapped ?_ s
    unfold State.fallSilent State.deviceSilent
    repeat' split
    all_goals exact demand_raise (s.setWatch a ⟨true, 15⟩) _ _
  · exact .of_demand rfl

theorem event_minRunExpiry (u : Fin 8) : GrantEvent s (s.minRunExpiry u) := by
  unfold State.minRunExpiry
  split
  · refine .recapped ?_ s
    rw [minRunOut_eq]
    split <;> rfl
  · exact .of_demand rfl

theorem event_minOffExpiry (u : Fin 8) : GrantEvent s (s.minOffExpiry u) := by
  unfold State.minOffExpiry
  split
  · rw [minOffOut_eq]
    split <;> exact .of_demand rfl
  · exact .of_demand rfl

theorem event_confirmExpiry (u : Fin 8) : GrantEvent s (s.confirmExpiry u) := by
  unfold State.confirmExpiry
  split
  · rcases confirmOut_cases s u with e | ⟨k, e⟩
    · rw [e]
      exact .of_demand rfl
    · rw [e]
      exact .of_demand (demand_raise (s.setChiller u _) k u.val)
  · exact .of_demand rfl

theorem event_indexDpStale : GrantEvent s (s.indexDpStale n) := by
  unfold State.indexDpStale
  dsimp only
  split
  · exact .of_demand ((demand_finishPressure _ s).trans (demand_setStn rfl))
  · exact .of_demand rfl

theorem event_revertExpiry : GrantEvent s s.revertExpiry := by
  unfold State.revertExpiry
  split
  · exact .of_demand (demand_finishPressure _ s)
  · exact .of_demand rfl

theorem event_trimExpiry : GrantEvent s s.trimExpiry := by
  unfold State.trimExpiry State.trim
  dsimp only
  repeat' split
  all_goals exact .of_demand rfl

theorem event_emptyRotationEnd : GrantEvent s (s.emptyRotationEnd b) := by
  unfold State.emptyRotationEnd
  split
  · refine (endRotation_curbed s b).settle ?_ s false false
    exact (congrArg State.capacity (endRotation_arbitrated s b).unsent :)
  · exact .of_demand rfl

theorem event_restPollDue : GrantEvent s (s.restPollDue n) := by
  unfold State.restPollDue
  split
  · split
    · exact (GrantsCurbed.of_demand (demand_updStn rfl)).settle rfl s false false
    · exact .of_demand rfl
  · exact .of_demand rfl

/-- A branch becomes LIVE (R152). -/
theorem enterLive_curbed : GrantsCurbed s (s.enterLive b) := by
  refine .of_rest (fun _ => rfl) (fun d => ?_) rfl rfl fun d hl => .inl ?_
  all_goals
    rw [State.enterLive, br_updBr]
    split
  · next e => rw [e]
  · rfl
  · rfl
  · exact hl

theorem event_wakeExpiry : GrantEvent s (s.wakeExpiry b) := by
  unfold State.wakeExpiry
  split
  · exact (enterLive_curbed s b).finish s
  · exact .of_demand rfl

end

/-! ### The starts (R22, R23, R98) -/

/-- A start leaves every station that was held to R91 without a grant, and the FLEX snapshot empty. -/
theorem GrantEvent.of_start {s t : State} (h : ∀ n, (s.stn n).Curbed (t.stn n)) (hz : ∀ n, (s.stn n).held → (t.stn n).grantKw = 0)
    (ha : t.allocator.flexSnapshot = []) (hq : 10 ≤ s.plant.quantum → 10 ≤ t.plant.quantum) : GrantEvent s t := by
  refine .quiet ⟨h, fun n hh hne => absurd (hz n hh) hne, by rw [ha]; exact List.nil_sublist _, fun n hn => ?_, hq⟩ fun hs => ?_
  · rw [ha] at hn
    cases hn
  · have hsum : t.sumGrants = 0 := sumOver_eq_zero_of_mem fun n _ => hz n (hs.1 n)
    rw [hsum]
    exact Nat.zero_le _

theorem GrantEvent.arbitrateAll {s v : State} (h : GrantEvent s v) : GrantEvent s v.arbitrateAll :=
  h.curbed (arbitrateAll_curbed v) (capacity_of_kept (kept_arbitrateAll v))

theorem coldStart_idle (i : Option HostFields) (isolated : Bool) (t : Nat) :
    (Station.coldStart i isolated t).grantKw = 0 ∧ (Station.coldStart i isolated t).requestKw = 0 := by
  cases i with
  | none => exact ⟨rfl, rfl⟩
  | some f =>
    rw [coldStart_defined]
    repeat' split
    all_goals exact ⟨rfl, rfl⟩

theorem event_coldStart (s : State) : GrantEvent s s.coldStart := by
  have hfrom (v : State) (i : Image) (c : ConfigSource) (hi : 10 ≤ i.plant.quantum) : GrantEvent s (v.startFrom i c) := by
    have hidle (n : Fin 48) : ((v.startFrom i c).stn n).grantKw = 0 ∧ ((v.startFrom i c).stn n).requestKw = 0 := by
      rw [stn_startFrom]
      exact coldStart_idle _ _ _
    exact .of_start (fun n => .of_idle (hidle n).1 fun _ => (hidle n).2 ▸ Nat.zero_le _) (fun n _ => (hidle n).1) rfl fun _ => hi
  have hsent {v : State} (h : GrantEvent s v) : GrantEvent s v.arbitrateAll.judgeRelay :=
    h.arbitrateAll.demand (demand_judgeRelay _)
  unfold State.coldStart
  dsimp only
  split
  · next i hi =>
    refine hsent (hfrom _ _ _ ?_)
    have hrange : i.inRange = true := by
      unfold State.goodImage at hi
      repeat' split at hi
      · cases hi
        assumption
      all_goals cases hi
    simp only [Image.inRange, Bool.and_eq_true] at hrange
    obtain ⟨⟨⟨⟨⟨-, hplant⟩, -⟩, -⟩, -⟩, -⟩ := hrange
    exact ((inRange_plant_iff _).mp hplant).2.1.1
  · exact hsent ((hfrom _ _ _ (by decide)).demand (demand_raise _ _ _))

theorem event_powerLoss (s : State) : GrantEvent s s.powerLoss := by
  unfold State.powerLoss State.cutSave
  dsimp only
  split <;> exact .of_demand rfl

/-- A warm restart passes over the VACANT and ISOLATED stations, and each of the others asks for nothing (R23). -/
theorem restarted_curbed (s : State) (n : Fin 48) :
    (s.stn n).Curbed (s.restarted.stn n) ∧ ((s.stn n).held → (s.restarted.stn n).grantKw = 0) := by
  rw [stn_restarted]
  have hzero (hne : (s.stn n).state ≠ .active) (hh : (s.stn n).held) : (s.stn n).grantKw = 0 :=
    not_not.mp fun hg => hne (hh hg)
  by_cases hv : (s.stn n).state = .vacant
  · rw [Station.warmRestart, hv]
    exact ⟨.refl _, hzero (by rw [hv]; nofun)⟩
  by_cases hi : (s.stn n).state = .isolated
  · have hne : (s.stn n).state ≠ .active := by rw [hi]; nofun
    rw [Station.warmRestart, hi]
    exact ⟨.of_unattached hne rfl And.right, hzero hne⟩
  · rw [warmRestart_again hv hi, again_eq]
    split <;> exact ⟨.of_idle rfl fun _ => Nat.zero_le _, fun _ => rfl⟩

theorem event_warmRestart (s : State) : GrantEvent s s.warmRestart := by
  have hplant : s.restarted.plant = s.plant := by simp only [State.restarted]
  have hstart : GrantEvent s s.restarted :=
    .of_start (fun n => (restarted_curbed s n).1) (fun n => (restarted_curbed s n).2) rfl (by rw [hplant]; exact id)
  have hsettled : GrantEvent s s.resettled := hstart.arbitrateAll.demand (demand_settleStorage _ s true false)
  exact hsettled.demand (demand_of_unjudged (unjudged_warmRestart s))

/-! ### A step -/

/-- A row that means `f` while the unit is powered. -/
theorem GrantEvent.row {c : Instr} {s t : State} (f : State → State) (hc : exec c = whilePowered f) (he : exec c s = .next t)
    (hf : GrantEvent s (f s)) : GrantEvent s t := by
  rw [hc] at he
  cases hp : s.powered with
  | true => rw [whilePowered_on f s hp] at he; cases he; exact hf
  | false => rw [whilePowered_off f s hp] at he; cases he; exact .of_demand rfl

/-- Every command curbs the grants, or ends with the allocator: a request through the link, and any other by its own event. -/
theorem event_exec {s t : State} (c : Instr) (he : exec c s = .next t) : GrantEvent s t := by
  have hon (f : State → State) (hc : exec c = whilePowered f) (hf : GrantEvent s (f s)) : GrantEvent s t := .row f hc he hf
  have hframe (b : Fin 6) (address : Nat) (r : Option FieldReply) (hc : exec c = whilePowered (·.fieldFrame b address r)) :
      GrantEvent s t := hon _ hc (event_fieldFrame s b address r)
  rcases hr : c.asRequest with _ | ⟨tag, r⟩
  · cases c with
    | coldStart => cases he; exact event_coldStart s
    | powerLoss => exact hon (·.powerLoss) rfl (event_powerLoss s)
    | supervisoryFrameReceived kind tag body => exact hon (·.receive ⟨tag, parseRequest kind body⟩) rfl (event_receive s _)
    | supervisoryBadFrame =>
      exact hon (fun s => { s with link := { s.link with badFrames := countUp s.link.badFrames } }) rfl (.of_demand rfl)
    | supervisoryGapTimeout =>
      exact hon (fun s => { s with link := { s.link with gaps := countUp s.link.gaps } }) rfl (.of_demand rfl)
    | frameSent => exact hon (·.frameSent) rfl (event_frameSent s)
    | saveReadBack agrees => exact hon (·.saveReadBack agrees) rfl (event_saveReadBack s agrees)
    | warmRestart =>
      refine hon (fun s => if s.link.phase = .restartDue then s.warmRestart else s) rfl ?_
      split
      · exact event_warmRestart s
      · exact .of_demand rfl
    | clockTick => exact hon (·.clockTick) rfl (event_clockTick s)
    | holdExpiry n => exact hon (·.holdExpiry n) rfl (event_holdExpiry s n)
    | deviceSilent a => exact hon (·.silence a) rfl (event_silence s a)
    | minRunExpiry u => exact hon (·.minRunExpiry u) rfl (event_minRunExpiry s u)
    | minOffExpiry u => exact hon (·.minOffExpiry u) rfl (event_minOffExpiry s u)
    | confirmExpiry u => exact hon (·.confirmExpiry u) rfl (event_confirmExpiry s u)
    | chillerReport u condition available =>
      refine hon _ rfl ?_
      split
      · exact .recapped (demand_chillerReport s u condition available) s
      · exact .of_demand rfl
    | tankReport soc mode rate =>
      refine hon _ rfl ?_
      split
      · exact (GrantsCurbed.of_demand (demand_tankReport s soc mode rate)).recapacity.allocate_settle s true true
      · exact .of_demand rfl
    | pumpReport running speed =>
      refine hon (fun s => (s.pumpReport running speed).judgeRelay) rfl (.of_demand ?_)
      rw [pumpReport_eq]
      rfl
    | plantDpReport dp => exact hon (fun s => (s.plantDpReport dp).finishPressure s) rfl (event_plantDpReport s dp)
    | plantFrameDiscarded => exact hon (fun s => s) rfl (.of_demand rfl)
    | indexDpStale n => exact hon (·.indexDpStale n) rfl (event_indexDpStale s n)
    | plantDpStale => exact hon (·.plantDpStale) rfl (.of_demand (demand_finishPressure _ s))
    | revertExpiry => exact hon (·.revertExpiry) rfl (event_revertExpiry s)
    | trimExpiry => exact hon (·.trimExpiry) rfl (event_trimExpiry s)
    | replyTimeout b => exact hon (·.replyTimeout b) rfl (event_replyTimeout s b)
    | fieldGapTimeout b => exact hon (·.countBad b) rfl (.of_demand (demand_updBr rfl))
    | fieldBadFrame b => exact hon (·.countBad b) rfl (.of_demand (demand_updBr rfl))
    | fieldInvalidReply b frame => exact hframe b frame.address (parseReply frame) rfl
    | fieldUnawaitedFrame b frame => exact hframe b frame.address (parseReply frame) rfl
    | report b address f => exact hframe b address (some (.report f)) rfl
    | advertise b address caps kw cap rev => exact hframe b address (some (.advertise caps kw cap rev)) rfl
    | capAck b address seq => exact hframe b address (some (.capAck seq)) rfl
    | restAnswer b address answer => exact hframe b address (some (.restAnswer answer)) rfl
    | wakeAck b address => exact hframe b address (some .wakeAck) rfl
    | meterData b address energy volume => exact hframe b address (some (.meterData energy volume)) rfl
    | emptyRotationEnd b => exact hon (·.emptyRotationEnd b) rfl (event_emptyRotationEnd s b)
    | restPollDue n => exact hon (·.restPollDue n) rfl (event_restPollDue s n)
    | wakeTimerExpiry b => exact hon (·.wakeExpiry b) rfl (event_wakeExpiry s b)
    | _ => cases hr
  · exact hon (·.receive ⟨tag, r⟩) (funext fun v => exec_asRequest hr v) (event_receive s _)

/-- The command at the front of the queue is carried out, and without one nothing happens. -/
theorem event_step {s t : State} (h : step s = .next t) : GrantEvent s t := by
  cases hp : s.pending with
  | nil =>
    rw [step, hp] at h
    cases h
    exact .of_demand rfl
  | cons c rest =>
    rw [step, hp] at h
    exact (event_exec (s := { s with pending := rest }) c h).from rfl

/-- Settles O9: a step curbs the grants or ends with the allocator, and each of the three laws is kept either way. -/
theorem grantsNeverExceedCapacity : Obligations.GrantsNeverExceedCapacity :=
  ⟨fun _ _ hs h => (event_step h).grantsLawful hs, fun _ _ _ hs h => (event_step h).demandLawful hs,
    fun _ _ hs h => (event_step h).snapshotLawful hs⟩

end Sys2Proof.Machine
end

section
/-!
The end of a rotation in which nothing was sent, a rest poll that falls due, and the end of the wake time (R77, R87, R129, R143, R144, R146,
R152, R154): what the rotation judges, and that the arbiters of the event's end leave it so.
-/

namespace Sys2Proof.Machine

/-! ### An arbiter and what a rotation has judged (R129, R143) -/

theorem passRotation_of_not_sent {s : State} {b : Fin 6} (h : (s.br b).rotSent = false) : s.passRotation b = s := by
  simp [State.passRotation, h]

/-- A rotation that has sent nothing does not end by itself, so its branch's arbiter judges nothing. -/
theorem judged_arbitrateAll {s : State} {b : Fin 6} (h : (s.br b).rotSent = false) :
    (s.arbitrateAll.br b).judged = (s.br b).judged := by
  obtain ⟨v, -, hv, hb⟩ := br_arbitrateAll s b
  have hpass : v.passRotation b = v := passRotation_of_not_sent (hv ▸ h)
  rw [hb, ← hv]
  rcases arbitrate_cases v b with ⟨e, -⟩ | ⟨-, -, ⟨-, e⟩ | ⟨c, -, e⟩⟩
  · rw [e]
  · rw [e, hpass]
  · rw [e, judged_send, hpass]

/-! ### The offers of a branch that enters OFFERING (R146) -/

theorem stn_foldl_setStanding (l : List (Fin 48)) (x : Standing) (s : State) (n : Fin 48) :
    (l.foldl (fun s m => s.setStanding m x) s).stn n = if n ∈ l then { s.stn n with standing := x } else s.stn n := by
  induction l generalizing s with
  | nil => rfl
  | cons m l ih =>
    have hm : (s.setStanding m x).stn n = if n = m then { s.stn n with standing := x } else s.stn n := by
      rw [State.setStanding, stn_updStn]
      split
      · next e => rw [e]
      · rfl
    rw [List.foldl_cons, ih, hm]
    by_cases e : n = m
    · simp [e]
    · simp [e]

section
variable {s : State} {b : Fin 6} (hg : ∀ n ∈ s.activeIn b, (s.stn n).grantKw = 0)
include hg

/-- With no grant to release, a branch enters OFFERING by its rest state and the offers alone. -/
theorem enterOffering_of_no_grant :
    s.enterOffering b =
      ((s.activeIn b).foldl (fun s n => s.setStanding n .offerOwed)
        (s.updBr b fun c => { c with rest := .offering, idleCount := 0 })).judgeOffering b := by
  unfold State.enterOffering
  extract_lets act v w x
  have hw : w = v := foldl_release_of_no_grant hg
  rw [show x = act.foldl (fun s n => s.setStanding n .offerOwed) v from hw ▸ rfl]

theorem stn_enterOffering (n : Fin 48) :
    (s.enterOffering b).stn n = if n ∈ s.activeIn b then { s.stn n with standing := .offerOwed } else s.stn n := by
  rw [enterOffering_of_no_grant hg, stn_judgeOffering, stn_foldl_setStanding]
  rfl

/-- A branch that enters OFFERING with no ACTIVE station rests at once (R146). -/
theorem br_enterOffering :
    (s.enterOffering b).br b =
      { s.br b with rest := if s.activeIn b = [] then .resting else .offering, idleCount := 0 } := by
  let x := (s.activeIn b).foldl (fun s n => s.setStanding n .offerOwed)
    (s.updBr b fun c => { c with rest := .offering, idleCount := 0 })
  have hx : x.br b = { s.br b with rest := .offering, idleCount := 0 } := by
    rw [unrotated_foldl_setStanding, br_updBr_same]
  have hstn (n : Fin 48) : x.stn n = if n ∈ s.activeIn b then { s.stn n with standing := .offerOwed } else s.stn n :=
    stn_foldl_setStanding _ _ _ n
  have hact : x.activeIn b = s.activeIn b := activeIn_of_eq (by rw [hx]) fun n => by
    rw [hstn]
    split <;> rfl
  have hall : (s.activeIn b).all (fun n => decide ((x.stn n).standing = .accepted)) = (s.activeIn b).isEmpty := by
    cases hl : s.activeIn b with
    | nil => rfl
    | cons n l =>
      have hn : (x.stn n).standing = .offerOwed := by rw [hstn, if_pos (by rw [hl]; exact List.mem_cons_self)]
      simp [hn]
  rw [enterOffering_of_no_grant hg]
  show (x.judgeOffering b).br b = _
  unfold State.judgeOffering
  rw [hact, hall, hx]
  by_cases he : s.activeIn b = []
  · simp [he, hx]
  · simp [he, hx]

end

/-- An offer owed stays owed while the arbiters look for work. -/
theorem offerOwed_arbitrateAll {s : State} {n : Fin 48} (h : (s.stn n).standing = .offerOwed) :
    (s.arbitrateAll.stn n).standing = .offerOwed := by
  have hsend (s : State) (b : Fin 6) (c : Choice) : ((s.send b c).stn n).standing = (s.stn n).standing := by
    cases c with
    | cap =>
      rw [State.send, State.sendCap]
      split <;> rfl
    | rest m => rfl
    | meter =>
      rw [State.send, State.sendMeterAsk]
      split <;> rfl
    | rotation m =>
      rw [State.send, State.sendRotation]
      dsimp only
      split
      · rw [stn_updStn]
        split
        · next e => rw [e]; rfl
        · rfl
      · rfl
  have hpass {s : State} (b : Fin 6) (h : (s.stn n).standing = .offerOwed) : ((s.passRotation b).stn n).standing = .offerOwed := by
    unfold State.passRotation
    split
    · rw [endRotation_eq]
      split
      · next hc =>
        rw [stn_enterOffering fun m hm => no_grant_of_restCalled hc hm]
        split
        · rfl
        · rwa [stn_rotated]
      · rwa [stn_rotated]
    · exact h
  unfold State.arbitrateAll
  generalize allBranches = l
  induction l generalizing s with
  | nil => exact h
  | cons b l ih =>
    refine ih ?_
    rcases arbitrate_cases s b with ⟨e, -⟩ | ⟨-, -, ⟨-, e⟩ | ⟨c, -, e⟩⟩ <;> rw [e]
    · exact h
    · exact hpass b h
    · rw [hsend]
      exact hpass b h

/-! ### The end of a rotation (R129, R143, R144, R146) -/

section
variable (s : State) (b : Fin 6)

theorem activeIn_rotated : (s.rotated b).activeIn b = s.activeIn b :=
  activeIn_of_eq (settings_of_unsent_eq (rotated_arbitrated s b).unsent b) fun n => by rw [stn_rotated]

/-- When the end of a rotation of a LIVE branch calls for automatic rest (R144). -/
theorem restCalled_rotated (h : (s.br b).rest = .live) :
    (s.rotated b).restCalled b = true ↔
      0 < (s.br b).settings.restThreshold ∧
        (s.br b).settings.restThreshold ≤ (if s.rotationIdle b then min 255 ((s.br b).idleCount + 1) else 0) ∧
        ∀ n ∈ s.activeIn b, (s.stn n).resolved.rest = true := by
  have hset : ((s.rotated b).br b).settings = (s.br b).settings := settings_of_unsent_eq (rotated_arbitrated s b).unsent b
  simp only [State.restCalled, Bool.and_eq_true, decide_eq_true_eq, List.all_eq_true, rest_rotated, h, idleCount_rotated s b h,
    activeIn_rotated, stn_rotated, hset, true_and, and_assoc]

theorem rotation_rotated : ((s.rotated b).br b).rotCount = ((s.br b).rotCount + 1) % 8 ∧ ((s.rotated b).br b).rotSent = false := by
  unfold State.rotated State.judgeIdle
  split <;> simp

/-- A rotation that ends leaves a fresh one, its count raised (R129). -/
theorem rotation_endRotation :
    ((s.endRotation b).br b).rotCount = ((s.br b).rotCount + 1) % 8 ∧ ((s.endRotation b).br b).rotSent = false := by
  rw [endRotation_eq]
  split
  · next h =>
    rw [br_enterOffering fun n hn => no_grant_of_restCalled h hn]
    exact rotation_rotated s b
  · exact rotation_rotated s b

theorem endRotation_live (h : (s.rotated b).restCalled b = false) : s.endRotation b = s.rotated b := by
  rw [endRotation_eq, h]
  rfl

/-- Automatic rest: the branch enters OFFERING with every offer owed, or rests at once (R144, R146). -/
theorem endRotation_rest (h : (s.rotated b).restCalled b = true) :
    ((s.endRotation b).br b).rest = (if s.activeIn b = [] then .resting else .offering) ∧
      ((s.endRotation b).br b).idleCount = 0 ∧
      ∀ n ∈ s.activeIn b, ((s.endRotation b).stn n).standing = .offerOwed ∧ ((s.endRotation b).stn n).grantKw = 0 := by
  have hg : ∀ n ∈ (s.rotated b).activeIn b, ((s.rotated b).stn n).grantKw = 0 := fun n hn => no_grant_of_restCalled h hn
  rw [endRotation_eq, if_pos h]
  refine ⟨?_, ?_, fun n hn => ?_⟩
  · rw [br_enterOffering hg, activeIn_rotated]
  · rw [br_enterOffering hg]
  · rw [← activeIn_rotated s b] at hn
    rw [stn_enterOffering hg, if_pos hn]
    exact ⟨rfl, hg n hn⟩

/-! ### The three events -/

theorem judged_iff {c c' : Branch} :
    c'.judged = c.judged ↔ c'.rest = c.rest ∧ c'.idleCount = c.idleCount ∧ c'.rotCount = c.rotCount := by simp [Branch.judged]

variable {s b}

section
variable {t before : State} (ht : t = (s.endRotation b).settle before false false)
include ht

/-- The end of an empty rotation, up to the end of its event. -/
theorem judged_emptyRotation : (t.br b).judged = ((s.endRotation b).br b).judged := by
  rw [ht, br_settle, judged_arbitrateAll (rotation_endRotation s b).2]

theorem emptyRotation_rests (h : (s.rotated b).restCalled b = true) :
    (t.br b).rest = (if s.activeIn b = [] then .resting else .offering) ∧ (t.br b).idleCount = 0 ∧
      ∀ n ∈ s.activeIn b, (t.stn n).standing = .offerOwed ∧ (t.stn n).grantKw = 0 := by
  obtain ⟨hrest, hidle, hstn⟩ := endRotation_rest s b h
  obtain ⟨hr, hi, -⟩ := judged_iff.mp (judged_emptyRotation ht)
  refine ⟨hr.trans hrest, hi.trans hidle, fun n hn => ?_⟩
  obtain ⟨hst, hg⟩ := hstn n hn
  constructor
  · rw [ht, stn_settle]
    exact offerOwed_arbitrateAll hst
  · rw [ht, (sameAllotment_settle _ _ _ _).grantKw n]
    exact hg

theorem emptyRotation_stays (h : (s.rotated b).restCalled b = false) (hl : (s.br b).rest = .live) :
    (t.br b).rest = .live ∧ (t.br b).idleCount = if s.rotationIdle b then min 255 ((s.br b).idleCount + 1) else 0 := by
  have hj := judged_emptyRotation ht
  rw [endRotation_live s b h] at hj
  obtain ⟨hr, hi, -⟩ := judged_iff.mp hj
  exact ⟨hr.trans ((rest_rotated s b).trans hl), hi.trans (idleCount_rotated s b hl)⟩

end

/-- The idle count of a branch that has just become LIVE reaches no threshold but 1 before the event ends (R143, R144). -/
theorem live_arbitrateAll (hl : (s.br b).rest = .live) (hi : (s.br b).idleCount = 0) (ht : (s.br b).settings.restThreshold ≠ 1) :
    (s.arbitrateAll.br b).rest = .live := by
  obtain ⟨v, -, hv, hb⟩ := br_arbitrateAll s b
  rw [← hv] at hl hi ht
  have hnot : (v.rotated b).restCalled b = false := Bool.eq_false_iff.mpr fun hc => by
    obtain ⟨hpos, hle, -⟩ := (restCalled_rotated v b hl).mp hc
    rw [hi] at hle
    split at hle <;> omega
  have hpass : ((v.passRotation b).br b).rest = .live := by
    unfold State.passRotation
    split
    · rw [endRotation_live v b hnot, rest_rotated, hl]
    · exact hl
  rw [hb]
  rcases arbitrate_cases v b with ⟨e, -⟩ | ⟨-, -, ⟨-, e⟩ | ⟨c, -, e⟩⟩ <;> rw [e]
  · exact hl
  · exact hpass
  · exact (congrArg Prod.fst (judged_send _ b c)).trans hpass

/-- EMPTY_ROTATION_END with nothing sent and nothing due (R129, R143, R144). -/
theorem emptyRotationEnd_ends (hw : (s.br b).settings.window ≠ none) (hs : (s.br b).rotSent = false) (hn : s.nextDue b = none) :
    s.emptyRotationEnd b = (s.endRotation b).settle s false false :=
  if_pos ⟨Option.isSome_iff_ne_none.mpr hw, hs, hn⟩

/-- REST_POLL_DUE for an ACTIVE station of a RESTING branch (R154). -/
theorem restPollDue_settles {n : Fin 48} (hb : s.branchOf n = some b) (ha : (s.stn n).state = .active) (hr : (s.br b).rest = .resting) :
    s.restPollDue n =
      (s.updStn n fun r => { r with sincePoll := r.sincePoll.map (max (s.br b).settings.restPoll) }).settle s false false := by
  unfold State.restPollDue
  rw [hb]
  exact if_pos ⟨ha, hr⟩

theorem br_enterLive : (s.enterLive b).br b = { s.br b with rest := .live, wakeTimer := none, idleCount := 0 } :=
  br_updBr_same s b _

/-- WAKE_TIMER_EXPIRY of a WAKING branch: LIVE, and a pass (R77, R152). -/
theorem wakeExpiry_finishes (hr : (s.br b).rest = .waking) (ht : (s.br b).wakeTimer ≠ none) :
    s.wakeExpiry b = (Event.mk (s.enterLive b) true).finish s :=
  if_pos ⟨hr, Option.isSome_iff_ne_none.mpr ht⟩

/-- A branch that becomes LIVE in an event is LIVE and its wake timer stopped at the end of it (R152). -/
theorem live_finish (before : State) (c : Bool) :
    (((Event.mk (s.enterLive b) c).finish before).br b).wakeTimer = none ∧
      ((s.br b).settings.restThreshold ≠ 1 → (((Event.mk (s.enterLive b) c).finish before).br b).rest = .live) := by
  have hall : ((allocate ⟨s.enterLive b, c⟩).br b).ungranted = ((s.enterLive b).br b).ungranted := br_allocate _ b
  have hidle : ((allocate ⟨s.enterLive b, c⟩).br b).idleCount = ((s.enterLive b).br b).idleCount := (congrArg Branch.idleCount hall :)
  rw [br_finish]
  refine ⟨?_, fun hthr => live_arbitrateAll ?_ ?_ ?_⟩
  · rw [wakeTimer_of_unsent (unsent_arbitrateAll _), wakeTimer_allocate]
    show ((s.enterLive b).br b).wakeTimer = none
    rw [br_enterLive]
  · rw [rest_of_queueless hall, br_enterLive]
  · rw [hidle, br_enterLive]
  · rw [settings_of_queueless hall, br_enterLive]
    exact hthr

end

/-- Settles O60: each event by the state its arbiters find, which they leave judged as it is. -/
theorem rotationsAndWakeTimersEnd : Obligations.RotationsAndWakeTimersEnd := by
  intro s b hp
  refine ⟨fun hw hs hn => ?_, fun n hb ha hr => ?_, fun hr ht => ?_⟩
  · refine ⟨_, whilePowered_on (·.emptyRotationEnd b) s hp, ?_⟩
    rw [emptyRotationEnd_ends hw hs hn]
    generalize h : (s.endRotation b).settle s false false = t
    have ht := h.symm
    refine ⟨by rw [ht, kept_settle, kept_endRotation], ?_, fun hl h0 => ?_, fun hl hpos => ?_⟩
    · exact (judged_iff.mp (judged_emptyRotation ht)).2.2.trans (rotation_endRotation s b).1
    · refine (emptyRotation_stays ht (Bool.eq_false_iff.mpr fun hc => ?_) hl).2
      have hpos := ((restCalled_rotated s b hl).mp hc).1
      omega
    · by_cases hc : (s.rotated b).restCalled b = true
      · rw [if_pos ((restCalled_rotated s b hl).mp hc).2]
        exact emptyRotation_rests ht hc
      · rw [if_neg fun h => hc ((restCalled_rotated s b hl).mpr ⟨hpos, h⟩)]
        exact emptyRotation_stays ht (Bool.eq_false_iff.mpr hc) hl
  · refine ⟨_, whilePowered_on (·.restPollDue n) s hp, ?_⟩
    rw [restPollDue_settles hb ha hr, kept_settle, stn_settle]
    refine ⟨kept_updStn _ _ _ fun _ => rfl, ?_⟩
    refine (sincePoll_arbitrateAll _ n).imp (fun h => ?_) fun ⟨h0, d, hd⟩ => ⟨h0, d, ?_⟩
    · rw [h, stn_updStn_same]
    · rw [br_settle]
      exact hd
  · obtain ⟨htimer, hlive⟩ := live_finish (s := s) (b := b) s true
    refine ⟨_, whilePowered_on (·.wakeExpiry b) s hp, ?_⟩
    rw [wakeExpiry_finishes hr ht, kept_finish]
    refine ⟨kept_enterLive s b, htimer, hlive, fun hq => ?_⟩
    exact passEnded_settle (passEnded_allocate rfl (show 0 < s.plant.quantum by omega)) s _ _

end Sys2Proof.Machine
end

section
/-!
A valid CAP-ACK (R77, R87, R124, R128, R131, R132, R134): what it writes of the station and of the queue, the entries that the allocator adds
behind, and the CAP that goes out next.
-/

namespace Sys2Proof.Machine

/-! ### What the acknowledgement leaves of the queue (R131, R134) -/

/-- The flow sent was short of the entry's target, and the branch holds no other entry of the station (R134). -/
abbrev CapEntry.Ramped (e : CapEntry) (f : Flight) (rest : List CapEntry) : Prop :=
  f.flowSent < e.targetFlow ∧ ∀ d ∈ rest, d.station ≠ e.station

/-- The queue behind an acknowledged head, with what a ramp has left of it at the tail under the station's next cap sequence. -/
def CapEntry.leaves (e : CapEntry) (f : Flight) (rest : List CapEntry) (seq : Nat) : List CapEntry :=
  if e.Ramped f rest then rest ++ [⟨e.station, seq, e.targetGrant, e.targetFlow, e.dtUsed, none⟩] else rest

/-- The station's record as the acknowledgement writes it. -/
def Station.capConfirmed (r : Station) (e : CapEntry) (f : Flight) : Station :=
  { r with missCount := 0, confirmedFlow := f.flowSent, confirmedDt := e.dtUsed, confirmedKw := f.grantSent }

theorem holdsEntry_iff (q : List CapEntry) (n : Fin 48) : holdsEntry q n = true ↔ ∃ d ∈ q, d.station = n := by simp [holdsEntry]

theorem stn_appendEntry (s : State) (b : Fin 6) (n : Fin 48) (g f d : Nat) (m : Fin 48) :
    (s.appendEntry b n g f d).stn m = if m = n then { s.stn n with nextSeq := ((s.stn n).nextSeq + 1) % 256 } else s.stn m := by
  rw [State.appendEntry, stn_updStn]
  rfl

theorem br_appendEntry (s : State) (b : Fin 6) (n : Fin 48) (g f dt : Nat) (d : Fin 6) :
    (s.appendEntry b n g f dt).br d =
      if d = b then { s.br b with queue := (s.br b).queue ++ [⟨n, (s.stn n).nextSeq, g, f, dt, none⟩] } else s.br d := by
  rw [State.appendEntry, br_updStn, br_updBr]

/-- The acknowledged head removed and its figures confirmed. -/
def State.headAcked (s : State) (b : Fin 6) (e : CapEntry) (f : Flight) (rest : List CapEntry) : State :=
  (s.updBr b fun c => { c with queue := rest }).updStn e.station fun r =>
    { r with confirmedFlow := f.flowSent, confirmedDt := e.dtUsed, confirmedKw := f.grantSent }

/-- The state in which the allocator finds a valid CAP-ACK. -/
def State.capAcked (s : State) (b : Fin 6) (n : Fin 48) : State := ((s.replying b n).confirmCap b n).updStn n Station.woken

section
variable {s : State} {b : Fin 6} {e : CapEntry} {rest : List CapEntry} {f : Flight} (hq : (s.br b).queue = e :: rest)
    (hf : e.flight = some f)

theorem br_replying (n : Fin 48) (d : Fin 6) : (s.replying b n).br d = if d = b then { s.br b with txn := none } else s.br d := by
  rw [State.replying, br_updStn, br_endTxn]

theorem stn_replying (n m : Fin 48) :
    (s.replying b n).stn m = if m = n then { s.stn n with missCount := 0 } else s.stn m := by
  rw [State.replying, stn_updStn]
  rfl

theorem stn_headAcked_replying (m : Fin 48) :
    ((s.replying b e.station).headAcked b e f rest).stn m =
      if m = e.station then (s.stn e.station).capConfirmed e f else s.stn m := by
  have hold : (s.replying b e.station).stn e.station = { s.stn e.station with missCount := 0 } := by
    rw [stn_replying, if_pos rfl]
  rw [State.headAcked, stn_updStn]
  split
  · show ({ (s.replying b e.station).stn e.station with
      confirmedFlow := f.flowSent, confirmedDt := e.dtUsed, confirmedKw := f.grantSent } : Station) = _
    rw [hold]
    rfl
  · next h => exact (stn_replying e.station m).trans (if_neg h)

include hq hf

theorem confirmCap_head :
    s.confirmCap b e.station =
      if e.Ramped f rest then (s.headAcked b e f rest).appendEntry b e.station e.targetGrant e.targetFlow e.dtUsed
      else s.headAcked b e f rest := by
  have hr : (f.flowSent < e.targetFlow ∧ ¬ holdsEntry rest e.station = true) ↔ e.Ramped f rest := by
    rw [holdsEntry_iff]
    simp [CapEntry.Ramped]
  simp only [State.confirmCap, hq, hf, if_true, ← hr]
  rfl

theorem stn_capAcked (m : Fin 48) :
    (s.capAcked b e.station).stn m =
      if m = e.station then { ((s.stn e.station).capConfirmed e f).woken with
        nextSeq := if e.Ramped f rest then ((s.stn e.station).nextSeq + 1) % 256 else (s.stn e.station).nextSeq } else s.stn m := by
  have hq' : ((s.replying b e.station).br b).queue = e :: rest := by rw [br_replying, if_pos rfl, hq]
  rw [State.capAcked, confirmCap_head hq' hf, stn_updStn]
  by_cases hr : e.Ramped f rest
  · simp only [if_pos hr, stn_appendEntry, stn_headAcked_replying, if_true]
    split <;> rfl
  · simp only [if_neg hr, stn_headAcked_replying, if_true]
    split <;> rfl

theorem br_capAcked (d : Fin 6) :
    (s.capAcked b e.station).br d =
      if d = b then { s.br b with txn := none, queue := e.leaves f rest (s.stn e.station).nextSeq } else s.br d := by
  have hq' : ((s.replying b e.station).br b).queue = e :: rest := by rw [br_replying, if_pos rfl, hq]
  have hhead (d : Fin 6) : ((s.replying b e.station).headAcked b e f rest).br d =
      if d = b then { s.br b with txn := none, queue := rest } else s.br d := by
    rw [State.headAcked, br_updStn, br_updBr, br_replying, br_replying]
    split <;> simp_all
  rw [State.capAcked, br_updStn, confirmCap_head hq' hf, CapEntry.leaves]
  by_cases hr : e.Ramped f rest
  · simp only [if_pos hr, br_appendEntry, hhead, if_true, stn_headAcked_replying]
    split <;> rfl
  · simp only [if_neg hr, hhead]

theorem kept_capAcked : (s.capAcked b e.station).kept = s.kept.withStation e.station ((s.stn e.station).capConfirmed e f) := by
  have hq' : ((s.replying b e.station).br b).queue = e :: rest := by rw [br_replying, if_pos rfl, hq]
  have hput (v : State) (g : Station → Station) :
      (v.updStn e.station g).kept = v.kept.withStation e.station ((v.updStn e.station g).stn e.station) := by
    rw [kept_updStn_with, stn_updStn_same]
  have hhead : ((s.replying b e.station).headAcked b e f rest).kept =
      s.kept.withStation e.station ((s.stn e.station).capConfirmed e f) := by
    have hrec := (stn_headAcked_replying (s := s) (b := b) (e := e) (rest := rest) (f := f) e.station).trans (if_pos rfl)
    rw [← hrec]
    refine (hput _ _).trans ?_
    rw [kept_updBr _ b (fun c => { c with queue := rest }) (fun _ => rfl) (fun _ => rfl) fun _ => rfl, State.replying, kept_updStn_with, kept_endTxn,
      withStation_withStation]
    rfl
  have hconfirm : ((s.replying b e.station).confirmCap b e.station).kept =
      s.kept.withStation e.station ((s.stn e.station).capConfirmed e f) := by
    rw [confirmCap_head hq' hf]
    split
    · rw [kept_appendEntry, hhead]
    · exact hhead
  have hstable : ((s.capAcked b e.station).stn e.station).stable = ((s.stn e.station).capConfirmed e f).stable := by
    rw [stn_capAcked hq hf, if_pos rfl]
    rfl
  refine (hput _ _).trans ?_
  rw [hconfirm, withStation_withStation]
  show s.kept.withStation e.station ((s.capAcked b e.station).stn e.station) = _
  rw [Kept.withStation, Kept.withStation, hstable]

end

/-! ### What the allocator adds behind (R131) -/

/-- The station and the cap sequence of an entry. -/
def CapEntry.key (e : CapEntry) : Fin 48 × Nat := (e.station, e.seq)

/-- A cap change keeps the entries of a queue in their places (R131). -/
theorem keys_handGrant (s : State) (n : Fin 48) (b : Fin 6) :
    (s.br b).queue.map CapEntry.key <+: ((s.handGrant n).br b).queue.map CapEntry.key := by
  cases hb : s.branchOf n with
  | none =>
    rw [handGrant_unrouted hb]
  | some c =>
    rw [handGrant_routed hb, queue_queueChange]
    split
    · split
      · have hkey (g f d : Nat) : (CapEntry.key ∘ fun e => if e.waitsFor n then e.take g f d else e) = CapEntry.key := by
          funext e
          simp only [Function.comp]
          split <;> rfl
        rw [List.map_map, hkey]
      · exact ⟨_, List.map_append.symm⟩
    · exact ⟨[], List.append_nil _⟩

theorem keys_handChanges (before : State) (l : List (Fin 48)) (s : State) (b : Fin 6) :
    (s.br b).queue.map CapEntry.key <+: ((handChanges before l s).br b).queue.map CapEntry.key := by
  unfold handChanges
  induction l generalizing s with
  | nil => exact ⟨[], List.append_nil _⟩
  | cons n l ih =>
    refine List.IsPrefix.trans ?_ (ih _)
    dsimp only
    split
    · exact ⟨[], List.append_nil _⟩
    · exact keys_handGrant s n b

theorem keys_allocate (e : Event) (b : Fin 6) :
    (e.st.br b).queue.map CapEntry.key <+: ((allocate e).br b).queue.map CapEntry.key := by
  obtain ⟨u, l, hu, h⟩ := allocate_regranted e
  rw [h, ← hu.br b]
  exact keys_handChanges e.st l u b

theorem keys_grounded (q : List CapEntry) : (q.map CapEntry.grounded).map CapEntry.key = q.map CapEntry.key := by
  rw [List.map_map]
  rfl

theorem keys_finish (e : Event) (before : State) (b : Fin 6) :
    (e.st.br b).queue.map CapEntry.key <+: ((e.finish before).br b).queue.map CapEntry.key := by
  rw [br_finish, ← keys_grounded ((allocate e).arbitrateAll.br b).queue, queue_arbitrateAll, keys_grounded]
  exact keys_allocate e b

/-! ### The CAP of an entry that waits goes out (R128, R132) -/

theorem confirmedFlow_of_unsent {s t : State} (h : t.unsent = s.unsent) (n : Fin 48) :
    (t.stn n).confirmedFlow = (s.stn n).confirmedFlow := (congrArg Station.confirmedFlow (stn_unsent_of_eq h n) :)

theorem nextSeq_of_unsent {s t : State} (h : t.unsent = s.unsent) (n : Fin 48) : (t.stn n).nextSeq = (s.stn n).nextSeq :=
  (congrArg Station.nextSeq (stn_unsent_of_eq h n) :)

theorem send_arbitrateAll {s : State} {b : Fin 6} {e : CapEntry} {rest : List CapEntry} (hw : (s.br b).settings.window ≠ none)
    (ht : (s.br b).txn = none) (hq : (s.br b).queue = e :: rest) (hf : e.flight = none) (hc : (s.br b).capsInRow ≠ 4) :
    let sent := flowToSend e.targetFlow (s.stn e.station).confirmedFlow (s.br b).settings.rampStep
    (s.arbitrateAll.br b).queue = { e with flight := some ⟨1, sent, grantToSend e sent⟩ } :: rest ∧
      (s.arbitrateAll.br b).txn = some ⟨e.station, .cap e.seq sent (grantToSend e sent), false⟩ := by
  obtain ⟨v, hu, hv, hb⟩ := br_arbitrateAll s b
  rw [← confirmedFlow_of_unsent hu, ← hv]
  rw [← hv] at hw ht hq hc
  have hfirst : v.firstWork b = some .cap := by simp [State.firstWork, hq]
  have hpass : v.passRotation b = v := by simp [State.passRotation, State.seeksRotation, hfirst, hc]
  have hchoose : v.choose b = some .cap := by simp [State.choose, hfirst, hc]
  rw [hb, arbitrate_of_free hw ht, hpass, hchoose]
  simp [State.send, State.sendCap, hq, CapEntry.launch, hf, CapEntry.txn]

/-! ### The event as a whole -/

/-- A valid CAP-ACK, the allocator not yet run: a fall of confirmed_kw calls for a pass (notes/assumptions/11.md). -/
def State.ackEvent (s : State) (b : Fin 6) (e : CapEntry) (f : Flight) : Event :=
  ⟨s.capAcked b e.station, decide (f.grantSent < (s.stn e.station).confirmedKw)⟩

section
variable {s : State} {b : Fin 6} {e : CapEntry} {rest : List CapEntry} {f : Flight} (hq : (s.br b).queue = e :: rest)
    (hf : e.flight = some f)
include hq hf

theorem exec_capAck {flow grant : Nat} (hp : s.powered = true) (hx : (s.br b).txn = some ⟨e.station, .cap e.seq flow grant, false⟩) :
    exec (.capAck b e.station.val e.seq) s = .next ((s.ackEvent b e f).finish s) := by
  have hpair : (TxnKind.cap e.seq flow grant).pairs (.capAck e.seq) = true := by simp [TxnKind.pairs]
  refine (exec_on (c := .capAck b e.station.val e.seq) (·.fieldFrame b e.station.val (some (.capAck e.seq))) rfl hp).trans ?_
  rw [fieldFrame_replied hx hpair rfl]
  have hnew : ((s.capAcked b e.station).stn e.station).confirmedKw = f.grantSent := by
    rw [stn_capAcked hq hf, if_pos rfl]
    rfl
  have hold : ((s.replying b e.station).stn e.station).confirmedKw = (s.stn e.station).confirmedKw := by
    rw [stn_replying, if_pos rfl]
  show Host.Outcome.next (((s.capAcked b e.station).event.callPass
    (decide (((s.capAcked b e.station).stn e.station).confirmedKw < ((s.replying b e.station).stn e.station).confirmedKw))).finish s) = _
  rw [hnew, hold]
  rfl

theorem br_ackEvent : (s.ackEvent b e f).st.br b =
    { s.br b with txn := none, queue := e.leaves f rest (s.stn e.station).nextSeq } := by
  rw [State.ackEvent, br_capAcked hq hf, if_pos rfl]

/-- Without a fall of confirmed_kw, and from lawful caps and grants, the allocator does nothing (R77, R103). -/
theorem allocate_ackEvent (hk : (s.stn e.station).confirmedKw ≤ f.grantSent) (hl : s.capsLawful) (hg : s.sumGrants ≤ s.capacity) :
    allocate (s.ackEvent b e f) = s.capAcked b e.station := by
  have hstn (m : Fin 48) : ((s.capAcked b e.station).stn m).grantKw = (s.stn m).grantKw ∧
      ((s.capAcked b e.station).stn m).grantCap = (s.stn m).grantCap := by
    rw [stn_capAcked hq hf]
    split
    · next h =>
      rw [h]
      exact ⟨rfl, rfl⟩
    · exact ⟨rfl, rfl⟩
  refine allocate_of_quiet (decide_eq_false (by omega)) (shedCalled_of_fallen ?_ (fun d => ?_) (fun m => (hstn m).1.le)
    (fun m => (hstn m).2.le) hl hg)
  · have hk := kept_capAcked (b := b) hq hf
    exact (congrArg Kept.capacity hk : (s.capAcked b e.station).kept.capacity = _)
  · show ((s.capAcked b e.station).br d).settings = _
    rw [br_capAcked hq hf]
    split
    · next h => rw [h]
    · rfl

end

/-- Settles O58: the acknowledgement as it is written, the entries the allocator adds behind, and the next CAP. -/
theorem capsAreAcknowledged : Obligations.CapsAreAcknowledged := by
  intro s b e rest f flow grant hp hx hq hf r ramped again left key
  have hbr := br_ackEvent (b := b) hq hf
  refine ⟨_, exec_capAck hq hf hp hx, ?_, freed_finish (by rw [hbr]) s, ?_, fun hk hqm => ?_, fun hk hl hg => ?_⟩
  · rw [kept_finish]
    exact kept_capAcked hq hf
  · have h := keys_finish (s.ackEvent b e f) s b
    rw [hbr] at h
    exact h
  · have hplant : (s.ackEvent b e f).st.plant = s.plant := plant_of_kept_with (kept_capAcked hq hf)
    exact passEnded_settle (passEnded_allocate (decide_eq_true hk) (by rw [hplant]; omega)) s _ _
  · have hall := allocate_ackEvent hq hf hk hl hg
    have hb : (s.capAcked b e.station).br b =
        { s.br b with txn := none, queue := e.leaves f rest (s.stn e.station).nextSeq } := hbr
    have hseq : (((s.ackEvent b e f).finish s).stn e.station).nextSeq = ((s.capAcked b e.station).stn e.station).nextSeq := by
      rw [stn_finish, hall, nextSeq_of_unsent (unsent_arbitrateAll _)]
    refine ⟨?_, ?_, fun e₁ rest₁ hl₁ hf₁ hw hc => ?_⟩
    · rw [br_finish, hall, queue_arbitrateAll, hb]
      rfl
    · rw [hseq, stn_capAcked hq hf, if_pos rfl]
    · have hsend := send_arbitrateAll (s := s.capAcked b e.station) (b := b) (e := e₁) (rest := rest₁) (by rw [hb]; exact hw)
        (by rw [hb]) (by rw [hb]; exact hl₁) hf₁ (by rw [hb]; exact hc)
      rw [br_finish, stn_finish, hall, confirmedFlow_of_unsent (unsent_arbitrateAll _)]
      rw [hb] at hsend
      exact hsend

end Sys2Proof.Machine
end

section
/-!
SUPPORT. The law of the cap queues (R130) through the operations on them: entries removed, appended, rewritten in place and sent; and through
the allocator, which hands on the grants of ACTIVE stations alone (R88, R131).
-/

namespace Sys2Proof.Machine

/-! ### One queue -/

/-- A queue as R130 has it, each entry for a station that `P` admits. -/
def QueueInOrder (P : Fin 48 → Prop) (q : List CapEntry) : Prop :=
  (∀ e ∈ q, P e.station) ∧ (∀ e ∈ q.tail, e.flight = none) ∧ ((q.filter fun e => e.flight.isNone).map fun e => e.station).Nodup

section
variable {P Q : Fin 48 → Prop} {q : List CapEntry} (h : QueueInOrder P q)
include h

theorem QueueInOrder.mono (hP : ∀ e ∈ q, P e.station → Q e.station) : QueueInOrder Q q :=
  ⟨fun e he => hP e he (h.1 e he), h.2⟩

/-- Entries removed, those behind closing up (R135). -/
theorem QueueInOrder.sublist {q' : List CapEntry} (hs : q'.Sublist q) : QueueInOrder P q' :=
  ⟨fun e he => h.1 e (hs.subset he), fun e he => h.2.1 e (hs.tail.subset he), h.2.2.sublist ((hs.filter _).map _)⟩

/-- An entry rewritten in place keeps its station, and is in flight or waits as before (R131). -/
theorem QueueInOrder.map {f : CapEntry → CapEntry} (hs : ∀ e, (f e).station = e.station) (hf : ∀ e, (f e).flight = e.flight) :
    QueueInOrder P (q.map f) := by
  obtain ⟨hserves, htail, hwait⟩ := h
  refine ⟨fun e he => ?_, fun e he => ?_, ?_⟩
  · obtain ⟨d, hd, rfl⟩ := List.mem_map.mp he
    exact hs d ▸ hserves d hd
  · rw [← List.map_tail] at he
    obtain ⟨d, hd, rfl⟩ := List.mem_map.mp he
    rw [hf]
    exact htail d hd
  · simpa only [List.filter_map, Function.comp_def, hf, List.map_map, hs] using hwait

/-- An entry appended for a station of which none waits (R131). -/
theorem QueueInOrder.append {n : Fin 48} (hn : P n) (hw : holdsWaiting q n = false) (seq g f d : Nat) :
    QueueInOrder P (q ++ [⟨n, seq, g, f, d, none⟩]) := by
  obtain ⟨hserves, htail, hwait⟩ := h
  refine ⟨fun e he => ?_, fun e he => ?_, ?_⟩
  · rcases List.mem_append.mp he with he | he
    · exact hserves e he
    · rw [List.mem_singleton.mp he]
      exact hn
  · cases q with
    | nil => cases he
    | cons a q =>
      rcases List.mem_append.mp he with he | he
      · exact htail e he
      · rw [List.mem_singleton.mp he]
  · rw [List.filter_append, List.map_append]
    refine List.nodup_append.mpr ⟨hwait, List.nodup_singleton n, fun a ha c hc hac => ?_⟩
    obtain ⟨e, he, rfl⟩ := List.mem_map.mp ha
    obtain ⟨he, hf⟩ := List.mem_filter.mp he
    have hen : e.station = n := hac.trans (List.mem_singleton.mp hc)
    rw [Bool.eq_false_iff, ne_eq, holdsWaiting_iff] at hw
    exact hw ⟨e, he, hen, Option.isNone_iff_eq_none.mp hf⟩

end

/-- The head of a queue goes into flight, or goes out again (R132, R133). -/
theorem QueueInOrder.launch {P : Fin 48 → Prop} {e : CapEntry} {rest : List CapEntry} (h : QueueInOrder P (e :: rest)) (flow ramp : Nat) :
    QueueInOrder P (e.launch flow ramp :: rest) := by
  have hstation : (e.launch flow ramp).station = e.station := by
    unfold CapEntry.launch
    split <;> rfl
  have hflight : (e.launch flow ramp).flight.isNone = false := by
    unfold CapEntry.launch
    split <;> rfl
  obtain ⟨hserves, htail, hwait⟩ := h.sublist (List.sublist_cons_self e rest)
  refine ⟨fun d hd => ?_, h.2.1, ?_⟩
  · rcases List.mem_cons.mp hd with rfl | hd
    · exact hstation ▸ h.1 e (List.mem_cons_self ..)
    · exact hserves d hd
  · rw [List.filter_cons, hflight]
    exact hwait

/-- A queue in order holds its head and one entry that waits for each station (R130). -/
theorem QueueInOrder.length_le {w : Range} (hw : w.isWindow = true) {q : List CapEntry}
    (h : QueueInOrder (fun n => w.holds n.val = true) q) : q.length ≤ 13 := by
  cases q with
  | nil => exact Nat.zero_le _
  | cons e rest =>
    obtain ⟨hserves, -, hwait⟩ := h.sublist (List.sublist_cons_self e rest)
    rw [List.filter_eq_self.mpr fun d hd => by rw [h.2.1 d hd]; rfl] at hwait
    have hnodup : (rest.map fun d => d.station.val).Nodup := by
      have := hwait.map Fin.val_injective
      rwa [List.map_map] at this
    have hsub : (rest.map fun d => d.station.val).toFinset ⊆ Finset.Icc w.base w.limit := fun v hv => by
      obtain ⟨d, hd, rfl⟩ := List.mem_map.mp (List.mem_toFinset.mp hv)
      exact Finset.mem_Icc.mpr (of_decide_eq_true (hserves d hd))
    have hcard := Finset.card_le_card hsub
    rw [List.toFinset_card_of_nodup hnodup, List.length_map, Nat.card_Icc] at hcard
    simp only [Range.isWindow, Bool.and_eq_true, decide_eq_true_eq] at hw
    rw [List.length_cons]
    omega

/-! ### The queues of a state -/

/-- A station whose cap changes a branch may queue: ACTIVE, inside the window (R130). -/
def State.serves (s : State) (b : Fin 6) (n : Fin 48) : Prop := (s.stn n).state = .active ∧ s.inWindow b n = true

/-- Every queue as R130 has it, no grant but an ACTIVE station's (R91): what the queues keep through an event. -/
structure State.orderly (s : State) : Prop where
  held : ∀ n, (s.stn n).held
  queues : ∀ b, QueueInOrder (s.serves b) (s.br b).queue

theorem State.orderly.lawful {s : State} (h : s.orderly) : s.queuesLawful := h.queues

/-- The settings of every branch as they were, so its window too. -/
theorem serves_of_settings {s t : State} {b : Fin 6} (hw : (t.br b).settings.window = (s.br b).settings.window) {n : Fin 48}
    (ha : (s.stn n).state = .active → (t.stn n).state = .active) (h : s.serves b n) : t.serves b n := by
  refine ⟨ha h.1, ?_⟩
  rw [State.inWindow, hw]
  exact h.2

section
variable {s t : State} (h : s.orderly)
include h

/-- Entries removed, those that stay keeping their station ACTIVE. -/
theorem State.orderly.mono (hheld : ∀ n, (t.stn n).held) (hw : ∀ b, (t.br b).settings.window = (s.br b).settings.window)
    (hq : ∀ b, (t.br b).queue.Sublist (s.br b).queue)
    (ha : ∀ b, ∀ e ∈ (t.br b).queue, (s.stn e.station).state = .active → (t.stn e.station).state = .active) : t.orderly :=
  ⟨hheld, fun b => ((h.queues b).sublist (hq b)).mono fun e he => serves_of_settings (hw b) (ha b e he)⟩

/-- One branch's queue changed, in order still. -/
theorem State.orderly.requeue {b : Fin 6} (hs : ∀ n, (t.stn n).state = (s.stn n).state)
    (hg : ∀ n, (t.stn n).grantKw = (s.stn n).grantKw) (hw : ∀ d, (t.br d).settings.window = (s.br d).settings.window)
    (hq : ∀ d, d ≠ b → (t.br d).queue = (s.br d).queue) (hb : QueueInOrder (s.serves b) (t.br b).queue) : t.orderly := by
  refine ⟨fun n => ?_, fun d => QueueInOrder.mono (P := s.serves d) ?_ fun e _ => serves_of_settings (hw d) fun ha => (hs _).trans ha⟩
  · rw [Station.held, hs, hg]
    exact h.held n
  · by_cases hd : d = b
    · rw [hd]
      exact hb
    · rw [hq d hd]
      exact h.queues d

/-- A station's record written that stays ACTIVE where it was. -/
theorem State.orderly.setStn {n : Fin 48} {r : Station} (ha : (s.stn n).state = .active → r.state = .active)
    (hr : (s.stn n).held → r.held) : (s.setStn n r).orderly := by
  refine h.mono (fun m => ?_) (fun _ => rfl) (fun _ => .refl _) fun b e _ he => ?_
  · rw [stn_setStn]
    split
    · next e => exact hr (h.held n)
    · exact h.held m
  · rw [stn_setStn]
    split
    · next hn => exact ha (hn ▸ he)
    · exact he

/-- A cap entry appended for a station that the branch serves and of which none waits (R131). -/
theorem State.orderly.appendEntry {b : Fin 6} {n : Fin 48} (hn : s.serves b n) (hw : holdsWaiting (s.br b).queue n = false)
    (g f d : Nat) : (s.appendEntry b n g f d).orderly := by
  have hstn (m : Fin 48) : ∃ q, (s.appendEntry b n g f d).stn m = { s.stn m with nextSeq := q } := by
    rw [stn_appendEntry]
    split
    · next e => exact ⟨_, by rw [e]⟩
    · exact ⟨_, rfl⟩
  refine h.requeue (b := b) (fun m => ?_) (fun m => ?_) (fun c => ?_) (fun c hc => ?_) ?_
  · obtain ⟨q, hq⟩ := hstn m
    rw [hq]
  · obtain ⟨q, hq⟩ := hstn m
    rw [hq]
  · rw [br_appendEntry]
    split
    · next e => rw [e]
    · rfl
  · rw [br_appendEntry, if_neg hc]
  · rw [br_appendEntry, if_pos rfl]
    exact (h.queues b).append hn hw _ g f d

/-- A cap change of a station that the branch serves (R131). -/
theorem State.orderly.queueChange {b : Fin 6} {n : Fin 48} (hn : s.serves b n) (g f d : Nat) : (s.queueChange b n g f d).orderly := by
  unfold State.queueChange
  split
  · refine h.requeue (b := b) (fun _ => rfl) (fun _ => rfl) (fun c => ?_) (fun c hc => ?_) ?_
    · rw [br_updBr]
      split
      · next e => rw [e]
      · rfl
    · rw [br_updBr, if_neg hc]
    · rw [br_updBr_same]
      refine (h.queues b).map (fun e => ?_) fun e => ?_
      · split <;> rfl
      · split <;> rfl
  · next hw => exact h.appendEntry hn (Bool.eq_false_iff.mpr hw) g f d

/-- An ACTIVE station's grant handed to its branch (R88). -/
theorem State.orderly.handGrant {n : Fin 48} (ha : (s.stn n).state = .active) : (s.handGrant n).orderly := by
  cases hb : s.branchOf n with
  | none => rwa [handGrant_unrouted hb]
  | some b =>
    rw [handGrant_routed hb]
    exact h.queueChange ⟨ha, inWindow_of_branchOf hb⟩ _ _ _

/-- A release lowers a grant above 0 kW, which only an ACTIVE station holds (R89, R91). -/
theorem State.orderly.release (n : Fin 48) (k : Nat) : (s.release n k).orderly := by
  unfold State.release
  split
  · next hk =>
    have ha : (s.stn n).state = .active := h.held n (by omega)
    refine State.orderly.handGrant (h.setStn (r := { s.stn n with grantKw := k }) id fun _ _ => ha) ?_
    rw [stn_setStn_same]
    exact ha
  · exact h

/-- The changes of an event handed on, where every station whose grant has changed is ACTIVE (R88, R111). -/
theorem State.orderly.handChanges {before : State} (ha : ∀ n, (s.stn n).grantKw ≠ (before.stn n).grantKw → (s.stn n).state = .active)
    (l : List (Fin 48)) : (handChanges before l s).orderly := by
  unfold Machine.handChanges
  induction l generalizing s with
  | nil => exact h
  | cons m l ih =>
    rw [List.foldl_cons]
    split
    · exact ih h ha
    · next hm =>
      refine ih (h.handGrant (ha m hm)) fun n hn => ?_
      rw [grantKw_handGrant] at hn
      obtain ⟨q, hq⟩ := stn_handGrant s m n
      rw [hq]
      split
      · next e => exact e ▸ ha n hn
      · exact ha n hn

end

/-- The allocator changes the grant of no station but an ACTIVE one (R74, R78, R91). -/
theorem State.orderly.allocate {e : Event} (h : e.st.orderly) : (allocate e).orderly := by
  obtain ⟨u, l, hu, hal⟩ := allocate_regranted e
  have hstate (n : Fin 48) : (u.stn n).state = (e.st.stn n).state := by
    obtain ⟨g, k, hs⟩ := hu.stn n
    rw [hs]
  have hheld (n : Fin 48) : (u.stn n).held := fun hne => by
    have := held_allocate (h.held n)
    rw [Station.held, hal, grantKw_handChanges, ← hal, state_allocate, ← hstate] at this
    exact this hne
  rw [hal]
  refine State.orderly.handChanges (h.mono hheld (fun b => by rw [hu.br]) (fun b => by rw [hu.br]) fun b d _ hd => ?_) (fun n hn => ?_) l
  · exact (hstate _).trans hd
  · by_cases hz : (u.stn n).grantKw = 0
    · exact (hstate n).trans (h.held n (by omega))
    · exact hheld n hz

end Sys2Proof.Machine
end

section
/-!
SUPPORT. The law of the cap queues (R130) through the operations of an event: those that leave alone all that the law looks at, and those that
take a station off its branch, end a transaction or send one.
-/

namespace Sys2Proof.Machine

/-! ### What the law looks at -/

/-- What of a station's record the law of the queues looks at. -/
def Station.role (r : Station) : StationState × Nat := (r.state, r.grantKw)

/-- What of a branch's record the law of the queues looks at. -/
def Branch.backlog (c : Branch) : Option Range × List CapEntry := (c.settings.window, c.queue)

/-- What of the state the law of the queues looks at. -/
def State.roster (s : State) : (Fin 48 → StationState × Nat) × (Fin 6 → Option Range × List CapEntry) :=
  (fun n => (s.stn n).role, fun b => (s.br b).backlog)

theorem roster_eq {s t : State} (hs : ∀ n, (t.stn n).role = (s.stn n).role) (hb : ∀ b, (t.br b).backlog = (s.br b).backlog) :
    t.roster = s.roster := by
  simp only [State.roster, hs, hb]

theorem role_of_roster {s t : State} (h : t.roster = s.roster) (n : Fin 48) : (t.stn n).role = (s.stn n).role :=
  congrFun (congrArg (fun r => r.1) h) n

theorem backlog_of_roster {s t : State} (h : t.roster = s.roster) (b : Fin 6) : (t.br b).backlog = (s.br b).backlog :=
  congrFun (congrArg (fun r => r.2) h) b

theorem Station.held_of_role {r r' : Station} (h : r'.role = r.role) (k : r.held) : r'.held := by
  obtain ⟨hs, hg⟩ := Prod.mk.inj h
  rwa [Station.held, hs, hg]

theorem State.orderly.of_roster {s t : State} (h : s.orderly) (hr : t.roster = s.roster) : t.orderly := by
  have hb (b : Fin 6) := Prod.mk.inj (backlog_of_roster hr b)
  refine h.mono (fun n => Station.held_of_role (role_of_roster hr n) (h.held n)) (fun b => (hb b).1)
    (fun b => by rw [(hb b).2]) fun b e _ ha => ?_
  exact (congrArg Prod.fst (role_of_roster hr e.station) :).trans ha

/-! ### Operations that leave it alone -/

section
variable (s : State)

theorem roster_setStn {s : State} {n : Fin 48} {r : Station} (h : r.role = (s.stn n).role) : (s.setStn n r).roster = s.roster := by
  refine roster_eq (fun m => ?_) fun _ => rfl
  rw [stn_setStn]
  split
  · next e => rw [e, h]
  · rfl

theorem roster_updStn {s : State} {n : Fin 48} {f : Station → Station} (h : (f (s.stn n)).role = (s.stn n).role) :
    (s.updStn n f).roster = s.roster := roster_setStn h

theorem roster_updBr {s : State} {b : Fin 6} {f : Branch → Branch} (h : (f (s.br b)).backlog = (s.br b).backlog) :
    (s.updBr b f).roster = s.roster := by
  refine roster_eq (fun _ => rfl) fun d => ?_
  rw [br_updBr]
  split
  · next e => rw [e, h]
  · rfl

theorem roster_of_unjudged {s t : State} (h : t.unjudged = s.unjudged) : t.roster = s.roster := (congrArg State.roster h :)

@[simp] theorem roster_raise (k : FaultKind) (x : Nat) : (s.raise k x).roster = s.roster := roster_of_unjudged (unjudged_raise s k x)

@[simp] theorem roster_endTxn (b : Fin 6) : (s.endTxn b).roster = s.roster := roster_updBr rfl

@[simp] theorem roster_endRead (b : Fin 6) (n : Fin 48) (o : MeterOutcome) : (s.endRead b n o).roster = s.roster := by
  refine roster_eq (fun m => by rw [stn_endRead]) fun d => ?_
  rw [br_endRead]
  split
  · next e =>
    rw [e]
    rfl
  · rfl

theorem roster_of_roused {s t : State} (h : s.Roused t) : t.roster = s.roster := by
  refine roster_eq (fun n => ?_) fun b => ?_
  · obtain ⟨x, hx⟩ := h.stn n
    rw [hx]
    rfl
  · exact Prod.ext (congrArg BranchSettings.window (h.same.settings b)) (h.queue b)

@[simp] theorem roster_judgeOffering (b : Fin 6) : (s.judgeOffering b).roster = s.roster := by
  unfold State.judgeOffering
  split
  · exact roster_updBr rfl
  · rfl

@[simp] theorem roster_judgeOfferingOf (n : Fin 48) : (s.judgeOfferingOf n).roster = s.roster := by
  unfold State.judgeOfferingOf
  split
  · exact roster_judgeOffering s _
  · rfl

@[simp] theorem roster_settleStorage (before : State) (t r : Bool) : (s.settleStorage before t r).roster = s.roster := by
  refine roster_eq (fun n => ?_) fun b => ?_
  · rw [State.stn, stations_settleStorage]
    rfl
  · rw [State.br, branches_settleStorage]
    rfl

end

/-- What an arbiter has done but for the queue of its branch. -/
theorem Arbitrated.roster {b : Fin 6} {s t : State} (h : Arbitrated b s t) (hq : (t.br b).queue = (s.br b).queue) :
    t.roster = s.roster := by
  refine roster_eq (fun n => (congrArg Station.role (stn_unsent_of_eq h.unsent n) :)) fun d => ?_
  by_cases hd : d = b
  · subst hd
    exact Prod.ext (congrArg BranchSettings.window (settings_of_unsent_eq h.unsent d)) hq
  · rw [h.others d hd]

theorem roster_endRotation (s : State) (b : Fin 6) : (s.endRotation b).roster = s.roster :=
  (endRotation_arbitrated s b).roster (congrArg Branch.queue (unrotated_endRotation s b) :)

/-! ### The arbiters (R128, R132) -/

section
variable {s : State} (h : s.orderly)
include h

/-- The CAP of the head goes out: the head alone comes to be in flight (R130, R132). -/
theorem State.orderly.sendCap (b : Fin 6) : (s.sendCap b).orderly := by
  unfold State.sendCap
  split
  · exact h
  · next e rest hq =>
    refine h.requeue (b := b) (fun _ => rfl) (fun _ => rfl) (fun d => ?_) (fun d hd => ?_) ?_
    · rw [br_updBr]
      split
      · next e => rw [e]
      · rfl
    · rw [br_updBr, if_neg hd]
    · rw [br_updBr_same]
      exact (hq ▸ h.queues b).launch _ _

/-- What else an arbiter sends leaves the queue alone (R128). -/
theorem State.orderly.send (b : Fin 6) (c : Choice) : (s.send b c).orderly := by
  cases c with
  | cap => exact h.sendCap b
  | rest n => exact h.of_roster (roster_updBr rfl)
  | meter =>
    show (s.sendMeterAsk b).orderly
    unfold State.sendMeterAsk
    split
    · exact h.of_roster (roster_updBr rfl)
    · exact h
  | rotation n =>
    show (s.sendRotation b n).orderly
    unfold State.sendRotation
    dsimp only
    split
    · exact h.of_roster ((roster_updStn rfl).trans (roster_updBr rfl))
    · exact h.of_roster (roster_updBr rfl)

theorem State.orderly.arbitrate (b : Fin 6) : (s.arbitrate b).orderly := by
  have hpass : (s.passRotation b).orderly :=
    h.of_roster ((passRotation_arbitrated s b).roster (congrArg Branch.queue (unrotated_passRotation s b) :))
  rcases arbitrate_cases s b with ⟨e, -⟩ | ⟨-, -, ⟨-, e⟩ | ⟨c, -, e⟩⟩ <;> rw [e]
  · exact h
  · exact hpass
  · exact hpass.send b c

theorem State.orderly.arbitrateAll : s.arbitrateAll.orderly := by
  unfold State.arbitrateAll
  generalize allBranches = l
  induction l generalizing s with
  | nil => exact h
  | cons b l ih => exact ih (h.arbitrate b)

/-- The end of an event after the allocator (R128). -/
theorem State.orderly.settle (before : State) (t r : Bool) : (s.settle before t r).orderly :=
  h.arbitrateAll.of_roster ((roster_of_unjudged (unjudged_settle s before t r)).trans (roster_settleStorage _ _ _ _))

/-! ### A station off its branch (R91, R135) -/

/-- A station's entries removed from every queue, the station no longer ACTIVE or without a grant (R91, R135). -/
theorem State.orderly.withdraw {t : State} {n : Fin 48} (hn : (t.stn n).held) (hs : ∀ m, m ≠ n → (t.stn m).role = (s.stn m).role)
    (hb : ∀ b, (t.br b).backlog = ((s.br b).removeEntries n).backlog) : t.orderly := by
  have hq (b : Fin 6) : (t.br b).queue = (s.br b).queue.filter fun e => decide (e.station ≠ n) := (congrArg Prod.snd (hb b) :)
  refine h.mono (fun m => ?_) (fun b => (congrArg Prod.fst (hb b) :)) (fun b => hq b ▸ List.filter_sublist) fun b e he ha => ?_
  · by_cases e : m = n
    · exact e ▸ hn
    · exact Station.held_of_role (hs m e) (h.held m)
  · rw [hq] at he
    exact (congrArg Prod.fst (hs e.station (of_decide_eq_true (List.mem_filter.mp he).2)) :).trans ha

theorem State.orderly.takeOff {r : Station} (hr : r.grantKw = 0) (n : Fin 48) (o : MeterOutcome) : (s.takeOff n o r).orderly := by
  refine h.withdraw (n := n) ?_ (fun m hm => ?_) fun b => ?_
  · rw [stn_takeOff, if_pos rfl]
    exact fun hne => absurd hr hne
  · rw [stn_takeOff, if_neg hm]
  · rw [br_takeOff]
    rfl

/-- A record written for a station that is not ACTIVE, without a grant: no entry of it is queued. -/
theorem State.orderly.setIdle {n : Fin 48} {r : Station} (hs : (s.stn n).state ≠ .active) (hr : r.grantKw = (s.stn n).grantKw) :
    (s.setStn n r).orderly :=
  h.setStn (fun ha => absurd ha hs) fun hh hne => absurd (hh (hr ▸ hne)) hs

/-! ### Releases and recomputes (R68, R89, R92) -/

theorem State.orderly.releaseAll (l : List (Fin 48)) : (l.foldl (fun s n => s.release n 0) s).orderly := by
  induction l generalizing s with
  | nil => exact h
  | cons n l ih => exact ih (h.release n 0)

theorem State.orderly.enterOffering (b : Fin 6) : (s.enterOffering b).orderly := by
  unfold State.enterOffering
  extract_lets act v w x
  have hw : w.orderly := (h.of_roster (roster_updBr rfl) : v.orderly).releaseAll act
  exact hw.of_roster ((roster_judgeOffering x b).trans (roster_of_roused (roused_standings act .offerOwed w).1))

end

/-- A recompute hands on a grant above 0 kW alone, which an ACTIVE station holds (R68, R91). -/
theorem orderly_recompute {e : Event} (h : e.st.orderly) (n : Fin 48) : (e.recompute n).st.orderly := by
  have hdt : (e.st.updStn n fun r => { r with grantDt := e.st.effectiveDt n }).orderly := h.of_roster (roster_updStn rfl)
  unfold Event.recompute
  rw [callPass_st]
  dsimp only
  split
  · next hg => exact hdt.handGrant (hdt.held n (by omega))
  · exact hdt

theorem orderly_recomputeDeadband {e : Event} (h : e.st.orderly) (n : Fin 48) : (e.recomputeDeadband n).st.orderly := by
  rcases recomputeDeadband_cases n e with ⟨-, e⟩ | ⟨-, e⟩ <;> rw [e]
  · exact orderly_recompute h n
  · exact h

/-- What is done to one station after another keeps the queues in order where it does so at each. -/
theorem orderly_foldl {f : Event → Fin 48 → Event} (hf : ∀ e n, e.st.orderly → (f e n).st.orderly) (l : List (Fin 48)) {e : Event}
    (h : e.st.orderly) : (l.foldl f e).st.orderly := by
  induction l generalizing e with
  | nil => exact h
  | cons n l ih => exact ih (hf e n h)

theorem orderly_recomputeAll {e : Event} (h : e.st.orderly) : e.recomputeAll.st.orderly :=
  orderly_foldl (fun e n h => by
    unfold Event.recomputeExact
    split
    · exact orderly_recompute h n
    · exact h) allStations h

/-! ### Reports (R9, R10, R17, R21) -/

section
variable {s : State} (h : s.orderly)
include h

theorem State.orderly.queueUnlessWaiting {n : Fin 48} (ha : (s.stn n).state = .active) (b : Fin 6) :
    (s.queueUnlessWaiting b n).orderly := by
  unfold State.queueUnlessWaiting
  split
  · exact h
  · exact h.handGrant ha

theorem State.orderly.queueUnlessHeld {n : Fin 48} (ha : (s.stn n).state = .active) (b : Fin 6) :
    (s.queueUnlessHeld b n).orderly := by
  unfold State.queueUnlessHeld
  split
  · exact h
  · exact h.handGrant ha

/-- A report taken from an ACTIVE station (R17, R21, R67, R89). -/
theorem State.orderly.reportActive {n : Fin 48} (ha : (s.stn n).state = .active) (b : Fin 6) (flag c : Bool) :
    ((Event.mk s c).reportActive b n flag).st.orderly := by
  rw [reportActive_st]
  refine orderly_recomputeDeadband (e := ⟨s.relieved b n flag, c⟩) (State.orderly.release ?_ n _) n
  split
  · exact h.queueUnlessWaiting ha b
  · exact h

/-- A station that enters ACTIVE holds no entry yet, and no grant (R10). -/
theorem State.orderly.reportAttaching (n : Fin 48) (c : Bool) : ((Event.mk s c).reportAttaching n).st.orderly := by
  unfold Event.reportAttaching
  split
  · have hset : (s.setStn n { s.stn n with state := .active, debounce := 0, grantDt := s.effectiveDt n }).orderly :=
      h.setStn (fun _ => rfl) fun _ _ => rfl
    exact hset.of_roster rfl
  · exact h.of_roster (roster_updStn rfl)

theorem State.orderly.reporting (b : Fin 6) (n : Fin 48) (f : ReportFields) (c : Bool) : (Event.reporting s b n f c).st.orderly := by
  have hheard : (s.heard b n f).orderly := by
    refine h.of_roster (roster_eq (fun m => ?_) fun d => ?_)
    · rw [stn_heard]
      split
      · next e => rw [e]; rfl
      · rfl
    · obtain ⟨hq, hset, -⟩ := br_heard s b n f d
      exact Prod.ext (congrArg BranchSettings.window hset) hq
  unfold Event.reporting
  split
  · next ha => exact hheard.reportActive (by rw [stn_heard, if_pos rfl]; exact ha) b f.standalone c
  · exact hheard.reportAttaching n c

/-- A newcomer's entry, its place in the rest, and the wake reasons (R10, R148, R153). -/
theorem State.orderly.afterReport {n : Fin 48} {newcomer : Bool} (ha : newcomer = true → (s.stn n).state = .active) (b : Fin 6)
    (wakes : Bool) : (s.afterReport b n newcomer wakes).orderly := by
  refine State.orderly.of_roster ?_ (roster_of_roused (roused_afterReport s b n newcomer wakes))
  split
  · next hn => exact h.queueUnlessHeld (ha hn) b
  · exact h

end

/-! ### The head of a queue taken off (R133, R134) -/

/-- A branch's queue without its head. -/
def State.behead (s : State) (b : Fin 6) (rest : List CapEntry) : State := s.updBr b fun c => { c with queue := rest }

section
variable {s : State} (h : s.orderly)
include h

/-- The head of one queue removed. -/
theorem State.orderly.behead {b : Fin 6} {e : CapEntry} {rest : List CapEntry} (hq : (s.br b).queue = e :: rest) :
    (s.behead b rest).orderly := by
  refine h.mono h.held (fun d => ?_) (fun d => ?_) fun _ _ _ => id
  all_goals
    rw [State.behead, br_updBr]
    split
  · next e => rw [e]
  · rfl
  · next e => rw [e, hq]; exact List.sublist_cons_self _ rest
  · exact .refl _

/-- A branch whose queue has lost its head gets another entry for the head's station where it holds none (R133, R134). -/
theorem State.orderly.replaceHead {t : State} {b : Fin 6} {e : CapEntry} {rest : List CapEntry} (hq : (s.br b).queue = e :: rest)
    (ht : t.roster = (s.behead b rest).roster) (hheld : ¬ holdsEntry rest e.station = true) (g f d : Nat) :
    (t.appendEntry b e.station g f d).orderly := by
  have hserves : s.serves b e.station := (h.queues b).1 e (by rw [hq]; exact List.mem_cons_self ..)
  have hb : (s.behead b rest).br b = { s.br b with queue := rest } := br_updBr_same ..
  obtain ⟨hw, hrest⟩ := Prod.mk.inj ((backlog_of_roster ht b).trans (congrArg Branch.backlog hb))
  refine ((h.behead hq).of_roster ht).appendEntry ?_ ?_ g f d
  · exact serves_of_settings hw (fun ha => (congrArg Prod.fst (role_of_roster ht e.station) :).trans ha) hserves
  · rw [hrest, Bool.eq_false_iff, ne_eq, holdsWaiting_iff]
    rintro ⟨x, hx, hn, -⟩
    exact hheld ((holdsEntry_iff rest e.station).mpr ⟨x, hx, hn⟩)

/-- A CAP-ACK takes the head it confirms off, and a ramp goes on at the tail (R134). -/
theorem State.orderly.confirmCap (b : Fin 6) (n : Fin 48) : (s.confirmCap b n).orderly := by
  unfold State.confirmCap
  split
  · next e rest hq =>
    split
    · next f hf =>
      split
      · next hn =>
        subst hn
        have hacked : (s.headAcked b e f rest).roster = (s.behead b rest).roster := roster_updStn rfl
        dsimp only
        split
        · next hr => exact h.replaceHead hq hacked hr.2 _ _ _
        · exact (h.behead hq).of_roster hacked
      · exact h
    · exact h
  · exact h

/-- A CAP at its third miss is taken off, and the present grant queued anew (R133). -/
theorem State.orderly.requeued {b : Fin 6} {n : Fin 48} {rest : List CapEntry} (ht : (s.br b).thirdAttempt n rest) :
    (s.requeue b n rest).orderly := by
  obtain ⟨e, f, hq, -, rfl, -⟩ := ht
  have hdrop : (s.dropHead b rest).roster = (s.behead b rest).roster := by
    refine roster_eq (fun _ => rfl) fun d => ?_
    rw [State.dropHead, State.behead, br_updBr, br_updBr]
    split <;> rfl
  unfold State.requeue
  split
  · exact (h.behead hq).of_roster hdrop
  · next hheld => exact h.replaceHead hq hdrop hheld _ _ _

theorem State.orderly.missKind (b : Fin 6) (x : Txn) : (s.missKind b x).orderly := by
  rcases missKind_cases s b x with e | ⟨rest, -, ht, e⟩ | e <;> rw [e]
  · exact h
  · exact h.requeued ht
  · rcases missMeter_cases s b x.station with e | ⟨r, e⟩ | e <;> rw [e]
    · exact h
    · exact h.of_roster (roster_updBr rfl)
    · exact h.of_roster (roster_endRead s b _ _)

end

end Sys2Proof.Machine
end

section
/-!
SUPPORT. The laws of the windows, the speed command, the source and the cap queues (R116, R130, R159, R166) through the end of an event: the
judging of the source brings its law about, whatever went before, and the rest is what the event itself has kept of the others.
-/

namespace Sys2Proof.Machine

/-! ### The source (R159, R160, R163) -/

section
variable (s : State)

theorem secondaryValid_of_unjudged {s t : State} (h : t.unjudged = s.unjudged) : t.secondaryValid = s.secondaryValid :=
  (congrArg State.secondaryValid h :)

/-- The law of the source, on a state that differs in what the judging writes alone. -/
theorem sourceLawful_of_unjudged {s t : State} (h : t.unjudged = s.unjudged)
    (hp : t.pressure.source = .primary → s.primaryValid = true)
    (hq : t.pressure.source = .secondary → s.secondaryValid = true) :
    t.sourceLawful :=
  ⟨fun e => (primaryValid_of_unjudged h).trans (hp e), fun e => (secondaryValid_of_unjudged h).trans (hq e)⟩

/-- The fallback rule gives PLANT or HOLD (9.4). -/
theorem fallbackSource_unlocked : s.fallbackSource ≠ .primary ∧ s.fallbackSource ≠ .secondary := by
  unfold State.fallbackSource
  split <;> exact ⟨nofun, nofun⟩

theorem sourceLawful_setSource_fallback : (s.setSource s.fallbackSource).sourceLawful :=
  ⟨fun e => absurd e (fallbackSource_unlocked s).1, fun e => absurd e (fallbackSource_unlocked s).2⟩

theorem sourceLawful_loseSource (n : Option (Fin 48)) : (s.loseSource n).sourceLawful := by
  have hp : (s.loseSource n).pressure.source = s.fallbackSource := congrArg PressureUnit.source (pressure_loseSource s n)
  exact ⟨fun e => absurd (hp ▸ e) (fallbackSource_unlocked s).1, fun e => absurd (hp ▸ e) (fallbackSource_unlocked s).2⟩

theorem sourceLawful_lock_secondary (h : s.secondaryValid = true) : (s.lock .secondary).sourceLawful :=
  sourceLawful_of_unjudged (unjudged_lock s _) nofun fun _ => h

theorem sourceLawful_judgeSource (was : RefSettings) : (s.judgeSource was).sourceLawful := by
  unfold State.judgeSource
  split
  · next hs =>
    split
    · next hv => exact ⟨fun _ => hv, fun e => absurd (hs.symm.trans e) nofun⟩
    split
    · next hv => exact sourceLawful_lock_secondary s (Bool.and_eq_true .. ▸ hv).2
    · exact sourceLawful_loseSource s _
  · next hs =>
    split
    · next hv => exact ⟨fun e => absurd (hs.symm.trans e) nofun, fun _ => hv⟩
    · exact sourceLawful_loseSource s _
  all_goals
    split
    · next hv => exact sourceLawful_lock_secondary s (Bool.and_eq_true .. ▸ hv).2
    · exact sourceLawful_setSource_fallback s

theorem sourceLawful_judgeRevert {s : State} (h : s.sourceLawful) : s.judgeRevert.sourceLawful := by
  unfold State.judgeRevert
  split
  · exact h
  · next hn =>
    split
    · exact h
    · split
      · exact sourceLawful_of_unjudged (unjudged_lock s _) (fun _ => by simpa using (not_or.mp hn).2) nofun
      · exact h

theorem sourceLawful_judgePressure (was : RefSettings) : (s.judgePressure was).sourceLawful :=
  sourceLawful_judgeRevert (sourceLawful_judgeSource s was)

theorem sourceLawful_settle (before : State) (t r : Bool) : (s.settle before t r).sourceLawful :=
  sourceLawful_judgePressure (s.arbitrateAll.settleStorage before t r) before.pressure.ref

theorem sourceLawful_finishPressure (before : State) : (s.finishPressure before).sourceLawful :=
  sourceLawful_judgePressure s before.pressure.ref

/-- A change of the counts of a branch has no part in the validity of a candidate (R158). -/
theorem sourceLawful_updBr {s : State} {b : Fin 6} {f : Branch → Branch} (h : (f (s.br b)).duty = (s.br b).duty)
    (hs : s.sourceLawful) : (s.updBr b f).sourceLawful := by
  have hduty (d : Fin 6) : ((s.updBr b f).br d).duty = (s.br d).duty := by
    rw [br_updBr]
    split
    · next e => rw [e, h]
    · rfl
  have hw (n : Fin 48) : (s.updBr b f).branchOf n = s.branchOf n :=
    branchOf_of_windows (fun d => (congrArg Prod.fst (hduty d) :)) n
  have hrest (d : Fin 6) : ((s.updBr b f).br d).rest = (s.br d).rest := (congrArg Prod.snd (hduty d) :)
  have hvalid (c : Option (Fin 48)) : (s.updBr b f).candidateValid c = s.candidateValid c := by
    simp only [State.candidateValid, State.branchCarries, hw, hrest]
    rfl
  exact ⟨fun e => (hvalid _).trans (hs.1 e), fun e => (hvalid _).trans (hs.2 e)⟩

end

/-! ### What the laws of the windows and of the speed look at -/

/-- What of the kept part the laws of the windows and of the speed command look at (R116, R166). -/
def Kept.rails (k : Kept) : (Fin 6 → Option Range) × PumpSettings × Option Nat := (fun b => (k.branches b).1.window, k.pump, k.speed)

@[simp] theorem rails_withStation (k : Kept) (n : Fin 48) (r : Station) : (k.withStation n r).rails = k.rails := rfl

theorem rails_of_roster {s t : State} (h : t.roster = s.roster) (hp : t.pressure = s.pressure) : t.kept.rails = s.kept.rails := by
  have hw : (fun b => (t.br b).settings.window) = fun b => (s.br b).settings.window :=
    funext fun b => congrArg Prod.fst (backlog_of_roster h b)
  exact Prod.ext hw (Prod.ext (congrArg PressureUnit.pump hp) (congrArg PressureUnit.speed hp))

/-- What an event has kept before its end: the laws but that of the source, which its end judges. -/
structure LawsCarried (s t : State) : Prop where
  windows : s.windowsLawful → t.windowsLawful
  speed : s.speedLawful → t.speedLawful
  orderly : s.orderly → t.orderly

/-- What an event keeps: the laws of the windows, of the speed command, of the source and of the cap queues. -/
structure LawsKept (s t : State) : Prop extends LawsCarried s t where
  source : s.sourceLawful → t.sourceLawful

/-- An event that leaves the windows, the pump settings and the speed command alone. -/
theorem LawsCarried.of_rails {s t : State} {k : Kept} (hk : t.kept = k) (hr : k.rails = s.kept.rails) (ho : s.orderly → t.orderly) :
    LawsCarried s t := by
  have hrails : t.kept.rails = s.kept.rails := hk ▸ hr
  have hw (b : Fin 6) : (t.br b).settings.window = (s.br b).settings.window := congrFun (congrArg Prod.fst hrails) b
  have hpump : t.pressure.pump = s.pressure.pump := congrArg (fun r => r.2.1) hrails
  have hspeed : t.pressure.speed = s.pressure.speed := congrArg (fun r => r.2.2) hrails
  refine ⟨fun h => ?_, fun h => ?_, ho⟩
  · simp only [State.windowsLawful, hw]
    exact h
  · simp only [State.speedLawful, hpump, hspeed]
    exact h

theorem LawsCarried.of_roster {s t : State} (h : t.roster = s.roster) (hp : t.pressure = s.pressure) : LawsCarried s t :=
  .of_rails rfl (rails_of_roster h hp) fun ho => ho.of_roster h

/-- What the judging of the source leaves alone. -/
theorem LawsCarried.of_unjudged {s t : State} (h : t.unjudged = s.unjudged) : LawsCarried s t :=
  .of_rails rfl (congrArg (fun v => v.kept.rails) h :) fun ho => ho.of_roster (roster_of_unjudged h)

theorem LawsCarried.refl (s : State) : LawsCarried s s := ⟨id, id, id⟩

theorem LawsCarried.trans {s t u : State} (h : LawsCarried s t) (k : LawsCarried t u) : LawsCarried s u :=
  ⟨k.windows ∘ h.windows, k.speed ∘ h.speed, k.orderly ∘ h.orderly⟩

theorem LawsKept.trans {s t u : State} (h : LawsKept s t) (k : LawsKept t u) : LawsKept s u :=
  ⟨h.toLawsCarried.trans k.toLawsCarried, k.source ∘ h.source⟩

/-- The state with nothing in it but what the four laws look at. -/
def State.site (s : State) : State :=
  { State.reset with stations := s.stations, branches := s.branches, pressure := s.pressure }

/-- An event that leaves alone all that the laws look at. -/
theorem LawsKept.quiet {s t : State} (h : t.site = s.site) : LawsKept s t :=
  ⟨.of_roster (congrArg State.roster h :) (congrArg State.pressure h :), fun hl => (congrArg State.sourceLawful h :).mpr hl⟩

theorem LawsCarried.of_site {s t : State} (h : t.site = s.site) : LawsCarried s t := (LawsKept.quiet h).toLawsCarried

/-- The state with nothing in it but its stations, its branches, and the source with the settings that judge it. -/
def State.unspeeded (s : State) : State :=
  { s.site with pressure := { State.reset.pressure with ref := s.pressure.ref, source := s.pressure.source } }

/-- An event that moves the speed command, within the range in force. -/
theorem LawsKept.of_speed {s t : State} (h : t.unspeeded = s.unspeeded) (hv : s.speedLawful → t.speedLawful) : LawsKept s t :=
  ⟨⟨(congrArg State.windowsLawful h :).mpr, hv, fun ho => ho.of_roster (congrArg State.roster h :)⟩,
    (congrArg State.sourceLawful h :).mpr⟩

/-! ### The end of an event -/

section
variable {s t : State} (h : LawsCarried s t)
include h

theorem LawsCarried.settle (before : State) (c r : Bool) : LawsKept s (t.settle before c r) :=
  ⟨h.trans (.of_rails (kept_settle t before c r) rfl fun ho => ho.settle before c r), fun _ => sourceLawful_settle _ _ _ _⟩

theorem LawsCarried.finishPressure (before : State) : LawsKept s (t.finishPressure before) :=
  ⟨h.trans (.of_unjudged (unjudged_finishPressure t before)), fun _ => sourceLawful_finishPressure _ _⟩

end

section
variable {s : State} {e : Event} (h : LawsCarried s e.st)
include h

theorem LawsCarried.allocate : LawsCarried s (Machine.allocate e) :=
  h.trans (.of_rails (kept_allocate e) rfl State.orderly.allocate)

theorem LawsCarried.finish (before : State) : LawsKept s (e.finish before) := h.allocate.settle before _ _

end

/-- An event in which A is worked out again (R39). -/
theorem LawsCarried.recapped {s v : State} (h : LawsCarried s v) (before : State) :
    LawsKept s (v.event.recapacity.finish before) :=
  LawsCarried.finish (e := v.event.recapacity) (h.trans (.of_roster rfl rfl)) before

end Sys2Proof.Machine
end

section
/-!
SUPPORT. The laws of the windows, the speed command, the source and the cap queues through the host's requests (R116, R117, R130, R157, R159).
-/

namespace Sys2Proof.Machine

/-! ### The plant's records -/

section
variable (s : State)

@[simp] theorem site_raise (k : FaultKind) (x : Nat) : (s.raise k x).site = s.site :=
  (congrArg State.site (unraised_raise s k x) :)

theorem site_closeSession (r : Request) (reply : Reply) : (s.closeSession r reply).site = s.site := by
  unfold State.closeSession
  split <;> rfl

theorem site_enableStorage (on : Bool) : (s.enableStorage on).site = s.site := by
  unfold State.enableStorage
  dsimp only
  split
  · exact site_raise { s with tank := { s.tank with enabled := false } } .storageReserve storageSubject
  all_goals rfl

theorem site_judgeStorage (soc : Nat) : (s.judgeStorage soc).site = s.site := by
  unfold State.judgeStorage
  repeat' split
  · exact site_enableStorage s true
  · exact site_enableStorage s false
  · exact site_enableStorage s _

theorem site_refitTank (old : Nat) : (s.refitTank old).site = s.site := by
  unfold State.refitTank
  repeat' split
  · rfl
  · rfl
  · rfl
  · exact site_judgeStorage { s with tank := { s.tank with soc := _ } } _
  · rfl

theorem site_defineChiller (u : Fin 8) (c : ChillerSettings) : (s.defineChiller u c).site = s.site := by
  unfold State.defineChiller
  dsimp only
  repeat' split
  all_goals rfl

end

/-! ### Requests that move no station, branch or source -/

section
variable (s : State)

theorem laws_onChCmd (unit command : Nat) : LawsKept s (s.onChCmd unit command).1 := by
  unfold State.onChCmd
  split
  · unfold State.chillerStart
    dsimp only
    repeat' split
    all_goals exact .quiet rfl
  · unfold State.chillerStop
    dsimp only
    split
    · split
      · exact (LawsCarried.of_site (s := s) (t := s.stopChiller _) rfl).recapped s
      · exact .quiet rfl
    all_goals exact .quiet rfl
  · exact .quiet rfl

theorem laws_onClock (tod : Nat) : LawsKept s (s.onClock tod).1 := by
  unfold State.onClock State.setClock
  split
  · exact .quiet rfl
  · dsimp only
    split
    · exact .quiet rfl
    · exact (LawsCarried.of_site (s := s) (t := { s with clock := some tod }) rfl).recapped s

theorem laws_onChDef (f : ChDefFields) : LawsKept s (s.onChDef f).1 := by
  unfold State.onChDef
  split
  · split
    · exact (LawsCarried.of_site (site_defineChiller s _ _)).recapped s
    · exact .quiet rfl
  · exact .quiet rfl

theorem laws_onSchedWin (a b : Nat) : LawsKept s (s.onSchedWin a b).1 := by
  unfold State.onSchedWin
  split <;> exact .quiet rfl

theorem laws_onSchedData (flag : Nat) (records : List SlotFields) : LawsKept s (s.onSchedData flag records).1 := by
  have hload (l : LoadSession) (start : Nat) (w : LoadWork) : LawsKept s (s.loadEnd l start w) := by
    by_cases hw : s.writesCurrent start w.pointer = true
    · rw [State.loadEnd, if_pos hw]
      have h : LawsCarried s (s.withLoad l w).event.recapacity.st := .of_site rfl
      exact h.allocate.settle s true false
    · rw [loadEnd_elsewhere hw]
      exact .quiet rfl
  unfold State.onSchedData
  split
  · exact .quiet rfl
  split
  · exact .quiet rfl
  split
  · exact .quiet rfl
  · rw [loadSlots_eq]
    exact hload _ _ _

/-- A REF-DEF writes the settings that the judging of the source then follows (R156). -/
theorem laws_onRefDef (f : RefDefFields) : LawsKept s (s.onRefDef f).1 := by
  unfold State.onRefDef
  split
  · next r _ => exact (LawsCarried.of_rails (s := s) (t := s.setRef r) rfl rfl fun h => h.of_roster rfl).finishPressure s
  · exact .quiet rfl

/-! ### PUMP-DEF (R157, R166) -/

theorem clamp_within {p : PumpSettings} (h : p.minSpeed ≤ p.maxSpeed) (v : Int) :
    p.minSpeed ≤ p.clamp v ∧ p.clamp v ≤ p.maxSpeed := by
  unfold PumpSettings.clamp
  omega

/-- A PUMP-DEF clamps the speed command into the range it brings (R157). -/
theorem speedLawful_setPump {p : PumpSettings} (h : p.minSpeed ≤ p.maxSpeed) : (s.setPump p).speedLawful := by
  unfold State.setPump
  dsimp only
  split
  · next v hv =>
    split
    · next hc =>
      refine ⟨h, fun w hw => ?_⟩
      obtain rfl : v = w := Option.some.inj (hv.symm.trans hw)
      exact hc ▸ clamp_within h v
    · refine ⟨h, fun w hw => ?_⟩
      obtain rfl := Option.some.inj hw
      exact clamp_within h v
  · next hn => exact ⟨h, fun w hw => absurd (hn.symm.trans hw) nofun⟩

theorem laws_onPumpDef (p : PumpSettings) : LawsKept s (s.onPumpDef p).1 := by
  unfold State.onPumpDef
  split
  · next hp =>
    simp only [PumpSettings.inRange, Bool.and_eq_true, decide_eq_true_eq] at hp
    refine .of_speed ?_ fun _ => speedLawful_setPump s hp.1.2
    show (s.setPump p).unspeeded = s.unspeeded
    unfold State.setPump
    dsimp only
    repeat' split
    all_goals rfl
  · exact .quiet rfl

theorem laws_onMeter (tag n : Nat) : LawsKept s (s.onMeter tag n).1 := by
  unfold State.onMeter
  repeat' split
  case isFalse => exact (LawsCarried.of_roster (roster_updBr rfl) rfl).settle s false false
  all_goals exact .quiet rfl

theorem laws_onFaultAck (kind subject : Nat) : LawsKept s (s.onFaultAck kind subject).1 := by
  unfold State.onFaultAck
  repeat' split
  all_goals exact .quiet rfl

theorem laws_onFaultMask (mask : Nat) : LawsKept s (s.onFaultMask mask).1 := by
  unfold State.onFaultMask
  split <;> exact .quiet rfl

/-! ### BR-REST and BR-WAKE (R145, R149) -/

theorem laws_onBrRest (n : Nat) : LawsKept s (s.onBrRest n).1 := by
  unfold State.onBrRest
  split
  · exact .quiet rfl
  · next b _ =>
    split
    · exact .quiet rfl
    · split
      · exact .quiet rfl
      · exact .quiet rfl
      · exact .quiet rfl
      · split
        · have h : LawsCarried s (s.enterOffering b).event.st := .of_rails (kept_enterOffering s b) rfl (·.enterOffering b)
          exact h.finish s
        · exact .quiet rfl

theorem laws_onBrWake (n : Nat) : LawsKept s (s.onBrWake n).1 := by
  have hwake (b : Fin 6) : LawsKept s ((s.enterWaking b).settle s false false) :=
    LawsCarried.settle (.of_rails (kept_enterWaking s b) rfl fun h => h.of_roster (roster_of_roused (roused_enterWaking s b).1)) s _ _
  unfold State.onBrWake
  split
  · exact .quiet rfl
  · split
    · exact .quiet rfl
    · split
      · exact hwake _
      · exact hwake _
      · exact .quiet rfl
      · exact .quiet rfl

/-! ### STN-DEF, STN-DROP and ISOLATE (R4, R5, R15, R135) -/

/-- A station redefined keeps its state and its grant, until a release holds it to its contract (R4, R90). -/
theorem orderly_redefine {s : State} (h : s.orderly) (n : Fin 48) (f : HostFields) : (s.event.redefine n f).st.orderly := by
  have hnew := redefine_eq (s.stn n) f
  have hset : (s.setStn n ((s.stn n).redefine f)).roster = s.roster := roster_setStn (by rw [hnew]; rfl)
  have hclass : (s.reclassed n f).roster = s.roster := by
    unfold State.reclassed
    split
    · exact hset
    · exact hset
  have hwoken : (s.rewoken n f).roster = s.roster := by
    unfold State.rewoken State.restLost
    split
    · split
      · exact (roster_of_roused (roused_wakeReason _ _)).trans hclass
      · exact hclass
    · exact hclass
  have hreleased : ((s.rewoken n f).release n f.contractKw).orderly := (h.of_roster hwoken).release n _
  unfold Event.redefine
  extract_lets old new e1 e2 e3 e4
  split
  · exact orderly_recomputeAll (e := e4) hreleased
  · exact hreleased

theorem laws_onStnDef (f : StnDefFields) : LawsKept s (s.onStnDef f).1 := by
  unfold State.onStnDef
  split
  · next n h _ _ =>
    dsimp only
    split
    · next hv =>
      have hc : LawsCarried s (s.setStn n (Station.define h (rangeHolds s.isolation n.val))) := by
        refine .of_rails (kept_setStn_with s n _) rfl fun ho => ho.setStn (fun ha => by rw [hv] at ha; cases ha) fun _ hne => ?_
        refine absurd ?_ hne
        unfold Station.define
        split <;> rfl
      exact LawsCarried.finish (e := ⟨_, false⟩) hc s
    · have hc : LawsCarried s (s.event.redefine n h).st := .of_rails (kept_redefine s n h) rfl fun ho => orderly_redefine ho n h
      exact hc.finish s
  · exact .quiet rfl

theorem laws_onStnDrop (n : Nat) : LawsKept s (s.onStnDrop n).1 := by
  unfold State.onStnDrop
  split
  · split
    · exact .quiet rfl
    · next n _ _ =>
      have hk := kept_drop s n
      rw [kept_finish] at hk
      have hc : LawsCarried s (s.event.drop n).st := .of_rails hk rfl fun ho => by
        rw [drop_st]
        exact (ho.takeOff rfl n .dropped).of_roster (roster_judgeOfferingOf _ n)
      exact hc.finish s
  · exact .quiet rfl

/-- One station of a changed isolation range: taken off its branch, let out again, or left alone (R15, R16). -/
theorem orderly_isolateStation (old new : Option Range) {e : Event} (h : e.st.orderly) (n : Fin 48) :
    (e.isolateStation old new n).st.orderly := by
  rcases isolateStation_cases old new e n with ⟨⟨hv, hin, hout⟩, he⟩ | ⟨hstay, he⟩ <;> rw [he]
  · refine State.orderly.of_roster (h.takeOff ?_ n .isolated) (roster_judgeOfferingOf _ n)
    rw [Station.moved, if_neg hv, if_pos ⟨hin, hout⟩]
    rfl
  · unfold Station.moved
    split
    · exact h.setStn id id
    split
    · next hv hm => exact absurd ⟨hv, hm.1, hm.2⟩ hstay
    split
    · next hm => exact h.setIdle (by rw [hm.2.2]; nofun) rfl
    · exact h.setStn id id

theorem laws_onIsolate (base limit : Nat) : LawsKept s (s.onIsolate base limit).1 := by
  unfold State.onIsolate
  split
  · split
    · exact .quiet rfl
    · next new _ _ =>
      have hc : LawsCarried s (s.event.setIsolation new).st := .of_rails (kept_setIsolation s new) rfl fun ho =>
        orderly_foldl (fun e n h => orderly_isolateStation s.isolation new h n) allStations
          (e := ({ s with isolation := new } : State).event) (ho.of_roster rfl)
      exact hc.finish s
  · exact .quiet rfl

/-! ### PLANT-DEF (R69, R76) -/

theorem laws_onPlantDef (p : PlantSettings) : LawsKept s (s.onPlantDef p).1 := by
  cases hr : p.inRange with
  | false =>
    rw [onPlantDef_refused s hr]
    exact .quiet rfl
  | true =>
    have hsite : (s.replanted p).site = s.site := site_refitTank { s with plant := p } _
    have hfit (ho : s.orderly) : (s.replanted p).event.recapacity.st.orderly := ho.of_roster (congrArg State.roster hsite :)
    have hc : LawsCarried s (s.recomputedPlant p).st := by
      refine .of_rails (kept_recomputedPlant s p) (congrArg Kept.rails (kept_replanted s p) :) fun ho => ?_
      unfold State.recomputedPlant
      split
      · exact hfit ho
      · exact orderly_recomputeAll (hfit ho)
    rw [onPlantDef_accepted s hr, applyPlant_eq]
    exact LawsCarried.finish (e := (s.recomputedPlant p).callPass _) (by rw [callPass_st]; exact hc) s

/-! ### BR-DEF (R117, R118) -/

theorem isWindow_of_inRange {c : BranchSettings} (h : c.inRange = true) {w : Range} (hw : c.window = some w) : w.isWindow = true := by
  simp only [BranchSettings.inRange, hw, Bool.and_eq_true] at h
  tauto

theorem inRange_of_branchSettingsOf {f : BrDefFields} {c : BranchSettings} (h : branchSettingsOf f = some c) : c.inRange = true := by
  unfold branchSettingsOf at h
  split at h
  · obtain ⟨hr, hc⟩ := Option.ite_none_right_eq_some.mp h
    exact Option.some.inj hc ▸ hr
  · cases h

/-- An accepted BR-DEF brings a window, or none, and one that is not taken leaves the windows apart (R116, R117). -/
theorem windowsLawful_withSettings {s t : State} (h : s.windowsLawful) {b : Fin 6} {c : BranchSettings} (hc : c.inRange = true)
    (hset : ∀ d, (t.br d).settings = if d = b then c else (s.br d).settings) (ht : s.windowTaken b c.window = false) :
    t.windowsLawful := by
  refine ⟨fun d w hw => ?_, windowsApart_withSettings h.2 hset ht⟩
  rw [hset] at hw
  split at hw
  · exact isWindow_of_inRange hc hw
  · exact h.1 d w hw

/-- A branch that is not busy holds no entry: each would be an ACTIVE station's of its window (R117, R130). -/
theorem State.orderly.queue_of_idle {s : State} (h : s.orderly) {b : Fin 6} {w : Option Range} (hb : s.branchBusy b w = false) :
    (s.br b).queue = [] := by
  cases hq : (s.br b).queue with
  | nil => rfl
  | cons e rest =>
    have he : e ∈ (s.br b).queue := by rw [hq]; exact List.mem_cons_self ..
    obtain ⟨ha, hin⟩ := (h.queues b).1 e he
    have hheld : ∃ d : Fin 6, holdsEntry (s.br d).queue e.station = true := ⟨b, (holdsEntry_iff _ _).mpr ⟨e, he, rfl⟩⟩
    have hbusy : s.stationBusy e.station = true := by
      obtain ⟨d, hd⟩ := hheld
      simp only [State.stationBusy, Bool.or_eq_true, List.any_eq_true]
      exact .inr ⟨d, by simp [allBranches], .inl hd⟩
    have : s.branchBusy b w = true := by
      simp only [State.branchBusy, Bool.or_eq_true, List.any_eq_true, Bool.and_eq_true, decide_eq_true_eq]
      exact .inr ⟨e.station, mem_allStations _, ⟨.inl hin, by rw [ha]; nofun⟩, hbusy⟩
    rw [this] at hb
    cases hb

/-- Another window for a branch without entries (R118). -/
theorem State.orderly.reopen {s : State} (h : s.orderly) {b : Fin 6} (hq : (s.br b).queue = []) (c : BranchSettings) :
    (s.updBr b fun r => r.reopen c).orderly := by
  refine ⟨h.held, fun d => ?_⟩
  by_cases hd : d = b
  · subst hd
    have he : ((s.updBr d fun r => r.reopen c).br d).queue = [] := by rw [br_updBr_same]; exact hq
    rw [he]
    exact ⟨nofun, nofun, List.nodup_nil⟩
  · have hbr : (s.updBr b fun r => r.reopen c).br d = s.br d := by rw [br_updBr, if_neg hd]
    rw [hbr]
    exact (h.queues d).mono fun e _ => serves_of_settings (s := s) (by rw [hbr]) id

/-- A station that has changed its branch leaves the queues as it leaves ACTIVE (R6, R135). -/
theorem orderly_moveWindow {e : Event} (h : e.st.orderly) (n : Fin 48) : (e.moveWindow n).st.orderly := by
  unfold Event.moveWindow
  split
  · rw [returnToSeeking_st, map_st]
    have hrec : (e.st.detach n).stn n = (e.st.stn n).detached := by rw [stn_detach, if_pos rfl]
    rw [hrec]
    refine h.withdraw (n := n) ?_ (fun m hm => ?_) fun b => ?_
    · rw [stn_setStn_same]
      refine fun hne => absurd ?_ hne
      unfold Station.startHold
      split <;> rfl
    · rw [stn_setStn_ne _ hm, stn_detach, if_neg hm]
    · rw [br_setStn, br_detach]
      rfl
  · refine h.of_roster (roster_eq (fun m => ?_) fun b => ?_)
    · rw [map_st, stn_mapBr]
    · rw [map_st, br_mapBr]
      rfl

theorem laws_onBrDef (f : BrDefFields) : LawsKept s (s.onBrDef f).1 := by
  unfold State.onBrDef
  split
  · next b c _ hf =>
    have hin : c.inRange = true := inRange_of_branchSettingsOf hf
    split
    · exact .quiet rfl
    next ht =>
    split
    · exact .quiet rfl
    next hbusy =>
    split
    · exact .quiet rfl
    have hk := kept_applyBranch s b c
    have hset (d : Fin 6) : ((s.event.applyBranch b c).st.br d).settings = if d = b then c else (s.br d).settings := by
      refine (congrArg (fun k => (k.branches d).1) hk :).trans ?_
      show (if d = b then _ else _ : BranchSettings × Nat × Nat).1 = _
      split <;> rfl
    have hspeed : (s.event.applyBranch b c).st.pressure.pump = s.pressure.pump ∧
        (s.event.applyBranch b c).st.pressure.speed = s.pressure.speed := ⟨(congrArg Kept.pump hk :), (congrArg Kept.speed hk :)⟩
    have hc : LawsCarried s (s.event.applyBranch b c).st := by
      refine ⟨fun h => windowsLawful_withSettings h hin hset (Bool.eq_false_iff.mpr ht), fun h => ?_, fun h => ?_⟩
      · rwa [State.speedLawful, hspeed.1, hspeed.2]
      · by_cases hw : (s.br b).settings.window = c.window
        · rw [applyBranch_same s b c hw]
          exact h.of_roster (roster_updBr (Prod.ext hw.symm rfl))
        · rw [applyBranch_moves s b c hw]
          have hq := h.queue_of_idle (Bool.eq_false_iff.mpr fun hb => hbusy ⟨hw, hb⟩)
          exact orderly_foldl (fun e n h => orderly_moveWindow h n) _ (e := ⟨_, false⟩) (h.reopen hq c)
    exact hc.finish s
  · exact .quiet rfl

/-! ### A request carried out, and the supervisory link -/

theorem laws_carryOut (tag : Nat) (r : Request) : LawsKept s (s.carryOut tag r).1 := by
  cases r with
  | clock tod => exact laws_onClock s tod
  | stnDef f => exact laws_onStnDef s f
  | stnDrop n => exact laws_onStnDrop s n
  | brDef f => exact laws_onBrDef s f
  | isolate base limit => exact laws_onIsolate s base limit
  | chDef f => exact laws_onChDef s f
  | chCmd unit command => exact laws_onChCmd s unit command
  | plantDef p => exact laws_onPlantDef s p
  | schedWin first last => exact laws_onSchedWin s first last
  | schedData flag records => exact laws_onSchedData s flag records
  | refDef f => exact laws_onRefDef s f
  | pumpDef p => exact laws_onPumpDef s p
  | brRest b => exact laws_onBrRest s b
  | brWake b => exact laws_onBrWake s b
  | meter n => exact laws_onMeter s tag n
  | getStn n => exact .quiet (congrArg State.site (onGetStn_fst s n))
  | getBr b part => exact .quiet (congrArg State.site (onGetBr_fst s b part))
  | getPlant part => exact .quiet (congrArg State.site (onGetPlant_fst s part))
  | getRef => exact .quiet rfl
  | getFaults part => exact .quiet (congrArg State.site (onGetFaults_fst s part))
  | faultAck kind subject => exact laws_onFaultAck s kind subject
  | faultMask mask => exact laws_onFaultMask s mask
  | save => exact .quiet rfl
  | restart => exact .quiet rfl
  | unknown kind => exact .quiet rfl
  | badFormat kind => exact .quiet rfl

/-- An event that begins from the same stations, branches and pressures. -/
theorem LawsKept.from {s u t : State} (h : LawsKept u t) (hu : u.site = s.site) : LawsKept s t := (LawsKept.quiet hu).trans h

theorem laws_handle (f : HostFrame) : LawsKept s (s.handle f) := by
  obtain ⟨tag, r⟩ := f
  by_cases h1 : r = .save
  · subst h1
    exact .quiet rfl
  by_cases h2 : r = .restart
  · subst h2
    exact .quiet rfl
  rw [handle_eq h1 h2]
  exact (laws_carryOut s tag r).trans (.quiet (site_closeSession _ _ _))

theorem laws_takeNext : LawsKept s s.takeNext := by
  unfold State.takeNext
  split
  · exact (laws_handle _ _).from rfl
  · exact .quiet rfl

theorem laws_receive (f : HostFrame) : LawsKept s (s.receive f) := by
  unfold State.receive
  split
  · exact .quiet (site_raise _ _ _)
  · exact (laws_takeNext _).from rfl

theorem laws_frameSent : LawsKept s s.frameSent := by
  unfold State.frameSent
  split
  · exact .quiet rfl
  · dsimp only
    split
    · exact .quiet rfl
    · split
      · exact (laws_takeNext _).from rfl
      all_goals exact .quiet rfl

theorem laws_saveReadBack (agrees : Bool) : LawsKept s (s.saveReadBack agrees) := by
  unfold State.saveReadBack
  split
  · split
    · exact .quiet (site_closeSession _ _ _)
    · exact .quiet rfl
  all_goals exact .quiet rfl

end

end Sys2Proof.Machine
end

section
/-!
The laws of the windows, the speed command, the source and the cap queues through a step (R116, R130, R159, R166): what comes in on a segment,
the plant bus, the timers and the starts, and the two statements.
-/

namespace Sys2Proof.Machine

/-! ### Replies (R7, R17, R124, R134, R137, R147, R151) -/

section
variable (s : State) (b : Fin 6) (n : Fin 48)

theorem rails_reporting (f : ReportFields) (c : Bool) : (Event.reporting s b n f c).st.kept.rails = s.kept.rails := by
  unfold Event.reporting Event.reportAttaching
  split
  · rw [kept_reportActive, rails_withStation, kept_heard, rails_withStation]
  · split
    · rw [kept_enterActive, rails_withStation, kept_heard, rails_withStation]
    · rw [map_st, kept_updStn_with, rails_withStation, kept_heard, rails_withStation]

/-- The queues have no part in the laws of the windows and of the speed. -/
theorem rails_confirmCap : (s.confirmCap b n).kept.rails = s.kept.rails := by
  have hhead (e : CapEntry) (f : Flight) (rest : List CapEntry) : (s.headAcked b e f rest).kept.rails = s.kept.rails := by
    rw [State.headAcked, kept_updStn_with, rails_withStation, kept_updBr] <;> intro <;> rfl
  unfold State.confirmCap
  split
  · next e rest _ =>
    split
    · next f _ =>
      split
      · next hn =>
        subst hn
        dsimp only
        split
        · exact (congrArg Kept.rails (kept_appendEntry _ _ _ _ _ _)).trans (hhead e f rest)
        · exact hhead e f rest
      · rfl
    · rfl
  · rfl

theorem laws_replying : LawsCarried s (s.replying b n) :=
  .of_roster ((roster_updStn rfl).trans (roster_endTxn s b)) rfl

theorem laws_report (f : ReportFields) : LawsKept s ((s.replying b n).report s b n f) := by
  obtain ⟨c, hc⟩ := report_eq s b n f
  have hevent : LawsCarried s (Event.reporting s b n f c).st := .of_rails rfl (rails_reporting s b n f c) (·.reporting b n f c)
  rw [State.replying, hc]
  refine LawsCarried.settle (hevent.allocate.trans ?_) s _ _
  refine .of_rails (kept_afterReport _ b n _ _) rfl fun h => h.afterReport (fun ha => ?_) b _
  rw [state_allocate]
  simp only [Bool.and_eq_true, decide_eq_true_eq] at ha
  exact ha.2

/-- An ADVERTISE comes from a station that is not ACTIVE (R7). -/
theorem laws_advertise (hs : (s.stn n).state ≠ .active) (caps kw cap rev : Nat) :
    LawsKept s ((s.replying b n).advertise s n caps kw cap rev) := by
  have hidle : ((s.replying b n).stn n).state ≠ .active := by
    rw [stn_replying, if_pos rfl]
    exact hs
  have hset : LawsCarried (s.replying b n) ((s.replying b n).setStn n (((s.replying b n).stn n).advertise caps kw cap rev)) :=
    .of_rails (kept_setStn_with _ n _) rfl (·.setIdle hidle rfl)
  exact LawsCarried.finish (e := (s.replying b n).event.putStn n _) ((laws_replying s b n).trans hset) s

theorem laws_capAck : LawsKept s ((s.replying b n).capAck s b n) := by
  have hacked : LawsCarried (s.replying b n) ((s.replying b n).confirmCap b n) :=
    .of_rails rfl (rails_confirmCap _ b n) (·.confirmCap b n)
  have hwoken : LawsCarried ((s.replying b n).confirmCap b n) (((s.replying b n).confirmCap b n).updStn n Station.woken) :=
    .of_roster (roster_updStn rfl) rfl
  exact LawsCarried.finish (e := ⟨((s.replying b n).confirmCap b n).updStn n Station.woken, _⟩)
    (((laws_replying s b n).trans hacked).trans hwoken) s

theorem laws_restAnswer (before : State) (answer : Nat) : LawsKept s (s.restAnswer before b n answer) := by
  unfold State.restAnswer
  dsimp only
  refine LawsCarried.settle ?_ before false false
  split
  · exact .refl s
  split
  · exact .of_rails (kept_enterWaking s b) rfl (·.of_roster (roster_of_roused (roused_enterWaking s b).1))
  split
  · exact .of_rails ((kept_judgeOffering _ b).trans (kept_setStanding s n _)) rfl
      (·.of_roster ((roster_judgeOffering _ b).trans (roster_of_roused (roused_setStanding s n .accepted))))
  · exact .refl s

/-- A reply handed to its rule. -/
theorem laws_takeReply (r : FieldReply) (ha : (s.stn n).state.accepts r = true) :
    LawsKept s ((s.replying b n).takeReply s b n r) := by
  have hreply := laws_replying s b n
  cases r with
  | report f => exact laws_report s b n f
  | advertise caps kw cap rev => exact laws_advertise s b n (fun e => by rw [e] at ha; cases ha) caps kw cap rev
  | capAck seq => exact laws_capAck s b n
  | restAnswer answer =>
    have h := laws_restAnswer (s.replying b n) b n s answer
    exact ⟨hreply.trans h.toLawsCarried, fun _ => sourceLawful_settle _ _ _ _⟩
  | wakeAck => exact (hreply.trans (.of_roster (roster_updStn rfl) rfl)).settle s false false
  | meterData energy volume =>
    exact (hreply.trans (.of_rails (kept_endRead _ b n _) rfl (·.of_roster (roster_endRead _ b n _)))).settle s false false

theorem laws_fieldFrame (address : Nat) (r : Option FieldReply) : LawsKept s (s.fieldFrame b address r) := by
  have hcount : LawsKept s (s.countProtocol b) := ⟨.of_roster (roster_updBr rfl) rfl, sourceLawful_updBr rfl⟩
  unfold State.fieldFrame
  split
  · exact .quiet rfl
  next x _ =>
  split
  · exact .quiet rfl
  split
  · next r =>
    split
    · next hv =>
      unfold State.replied
      split
      · exact (LawsCarried.of_roster (roster_endTxn s b) rfl).settle s false false
      · next hab =>
        simp only [State.validReply, Bool.and_eq_true, Bool.or_eq_true] at hv
        exact laws_takeReply s b x.station r (hv.2.resolve_left hab)
    · exact hcount
  · exact hcount

/-! ### A miss (R9, R11, R126, R133, R137) -/

theorem rails_missKind (x : Txn) : (s.missKind b x).kept.rails = s.kept.rails := by
  refine Prod.ext (funext fun d => (congrArg BranchSettings.window (settings_missKind s b x d) :)) ?_
  rcases missKind_cases s b x with e | ⟨rest, -, -, e⟩ | e <;> rw [e]
  · rw [kept_requeue]
    rfl
  · rw [kept_missMeter]

/-- A miss takes a station off its branch, sends it back to SEEKING, or counts. -/
theorem laws_miss (e : Event) (x : Txn) : LawsCarried e.st (e.miss b x).st := by
  unfold Event.miss
  dsimp only
  split
  · split
    · refine .of_rails rfl ?_ fun h => ?_
      · rw [lose_st, kept_judgeOfferingOf, kept_raise, kept_takeOff, rails_withStation]
      · rw [lose_st]
        exact (h.takeOff (lost_idle _ _).1 x.station .lost).of_roster ((roster_judgeOfferingOf _ _).trans (roster_raise _ _ _))
    · rw [map_st]
      exact (LawsCarried.of_roster (roster_updStn rfl) rfl).trans (.of_rails rfl (rails_missKind _ b x) (·.missKind b x))
  · next ha =>
    split
    · rw [returnToSeeking_st]
      refine .of_rails (kept_setStn_with _ _ _) rfl (·.setIdle (by rw [ha]; nofun) ?_)
      unfold Station.startHold
      split <;> rfl
    · exact .of_roster (roster_updStn rfl) rfl
  all_goals exact .refl _

theorem laws_replyTimeout : LawsKept s (s.replyTimeout b) := by
  have hend : LawsCarried s (s.endTxn b) := .of_roster (roster_endTxn s b) rfl
  unfold State.replyTimeout
  split
  · exact .quiet rfl
  · next x _ =>
    split
    · exact hend.settle s false false
    · exact (hend.trans (laws_miss b (s.endTxn b).event x)).finish s

/-! ### The plant bus (R25, R38, R167) -/

theorem site_chillerReport (u : Fin 8) (condition : RunCondition) (available : Nat) :
    (s.chillerReport u condition available).site = s.site := by
  rw [chillerReport_eq]
  split
  · exact site_raise (s.unitHeard u condition available) _ _
  · rfl

theorem site_tankReport (soc : Nat) (mode : TankMode) (rate : Nat) : (s.tankReport soc mode rate).site = s.site := by
  unfold State.tankReport
  dsimp only
  split
  · unfold State.firstStorage
    dsimp only
    repeat' split
    · exact site_raise _ _ _
    · exact site_raise _ _ _
    · rfl
    · rfl
  · exact site_judgeStorage _ _

/-- A reported speed is adopted clamped, while the command is none (R167). -/
theorem laws_pumpReport (running : Bool) (speed : Nat) : LawsKept s (s.pumpReport running speed).judgeRelay := by
  rw [pumpReport_eq]
  refine .of_speed rfl fun h => ⟨h.1, fun v hv => ?_⟩
  have hmin := h.1
  change s.speedAfter (pumpSpeedOf speed) = some v at hv
  show s.pressure.pump.minSpeed ≤ v ∧ v ≤ s.pressure.pump.maxSpeed
  unfold State.speedAfter at hv
  split at hv
  · next c hc => exact h.2 v (hc.trans hv)
  · obtain ⟨x, -, hx⟩ := Option.map_eq_some_iff.mp hv
    omega

theorem laws_plantDpReport (dp : Nat) : LawsKept s ((s.plantDpReport dp).finishPressure s) := by
  refine LawsCarried.finishPressure (.of_site ?_) s
  unfold State.plantDpReport
  dsimp only
  split <;> rfl

/-! ### The timers -/

theorem laws_age : LawsCarried s s.age :=
  .of_rails (kept_age s) rfl (·.of_roster (roster_eq (fun n => by rw [stn_age]; rfl) fun b => by rw [br_age]; rfl))

theorem laws_clockTick : LawsKept s s.clockTick := by
  by_cases hc : s.age.currentSlot = s.currentSlot
  · rw [clockTick_within hc]
    exact (laws_age s).finishPressure s
  · rw [clockTick_change hc]
    exact (laws_age s).recapped s

theorem laws_holdExpiry : LawsKept s (s.holdExpiry n) := by
  unfold State.holdExpiry
  dsimp only
  split
  · exact LawsCarried.finish (e := ⟨s.setStn n (s.stn n).expireHold, _⟩) (.of_roster (roster_setStn rfl) rfl) s
  · exact .quiet rfl

theorem laws_silence (a : Fin 11) : LawsKept s (s.silence a) := by
  unfold State.silence
  split
  · refine LawsCarried.recapped (.of_site ?_) s
    unfold State.fallSilent State.deviceSilent
    repeat' split
    all_goals exact site_raise (s.setWatch a ⟨true, 15⟩) _ _
  · exact .quiet rfl

theorem laws_minRunExpiry (u : Fin 8) : LawsKept s (s.minRunExpiry u) := by
  unfold State.minRunExpiry
  split
  · refine LawsCarried.recapped (.of_site ?_) s
    rw [minRunOut_eq]
    split <;> rfl
  · exact .quiet rfl

theorem laws_minOffExpiry (u : Fin 8) : LawsKept s (s.minOffExpiry u) := by
  unfold State.minOffExpiry
  split
  · rw [minOffOut_eq]
    split <;> exact .quiet rfl
  · exact .quiet rfl

theorem laws_confirmExpiry (u : Fin 8) : LawsKept s (s.confirmExpiry u) := by
  unfold State.confirmExpiry
  split
  · rcases confirmOut_cases s u with e | ⟨k, e⟩ <;> rw [e]
    · exact .quiet rfl
    · exact .quiet (site_raise (s.setChiller u _) k u.val)
  · exact .quiet rfl

theorem laws_indexDpStale : LawsKept s (s.indexDpStale n) := by
  unfold State.indexDpStale
  dsimp only
  split
  · have hset : LawsCarried s (s.setStn n { s.stn n with indexDp := (s.stn n).indexDp.map (DpReading.past s.pressure.ref.freshness) }) :=
      .of_roster (roster_setStn rfl) rfl
    exact hset.finishPressure s
  · exact .quiet rfl

theorem laws_plantDpStale : LawsKept s s.plantDpStale := by
  have hpast : LawsCarried s { s with plantDp := s.plantDp.map (DpReading.past s.pressure.ref.freshness) } := .of_site rfl
  exact hpast.finishPressure s

theorem laws_revertExpiry : LawsKept s s.revertExpiry := by
  unfold State.revertExpiry
  split
  · have hlock : LawsCarried s ((s.setRevert none).lock .primary) :=
      .of_unjudged ((unjudged_lock _ _).trans (unjudged_setRevert s none))
    exact hlock.finishPressure s
  · exact .quiet rfl

/-- A trim leaves the speed command where it was or clamps it (R166). -/
theorem trimmed_within {p : PumpSettings} (h : p.minSpeed ≤ p.maxSpeed) (e : Int) {v : Nat}
    (hv : p.minSpeed ≤ v ∧ v ≤ p.maxSpeed) : p.minSpeed ≤ p.trimmed e v ∧ p.trimmed e v ≤ p.maxSpeed := by
  unfold PumpSettings.trimmed
  split
  · exact hv
  · exact clamp_within h _

theorem speedLawful_trim {s : State} (h : s.speedLawful) : s.trim.speedLawful := by
  unfold State.trim
  split
  · next e v _ hv =>
    split
    · dsimp only
      split
      all_goals
        refine ⟨h.1, fun w hw => ?_⟩
        obtain rfl := Option.some.inj hw
        exact trimmed_within h.1 e (h.2 v hv)
    · exact h
  all_goals exact h

theorem laws_trimExpiry : LawsKept s s.trimExpiry := by
  refine .of_speed ?_ speedLawful_trim
  unfold State.trimExpiry State.trim
  dsimp only
  repeat' split
  all_goals rfl

theorem laws_emptyRotationEnd : LawsKept s (s.emptyRotationEnd b) := by
  unfold State.emptyRotationEnd
  split
  · exact LawsCarried.settle (.of_rails (kept_endRotation s b) rfl (·.of_roster (roster_endRotation s b))) s false false
  · exact .quiet rfl

theorem laws_restPollDue : LawsKept s (s.restPollDue n) := by
  unfold State.restPollDue
  split
  · split
    · exact (LawsCarried.of_roster (roster_updStn rfl) rfl).settle s false false
    · exact .quiet rfl
  · exact .quiet rfl

theorem laws_wakeExpiry : LawsKept s (s.wakeExpiry b) := by
  unfold State.wakeExpiry
  split
  · have hlive : LawsCarried s (s.enterLive b) := .of_roster (roster_updBr rfl) rfl
    exact LawsCarried.finish (e := (s.enterLive b).event.callPass true) hlive s
  · exact .quiet rfl

end

/-! ### The starts (R22, R23, R139, R168, R185) -/

/-- A state in which no station holds a grant and every queue is empty. -/
theorem orderly_of_idle {s : State} (hg : ∀ n, (s.stn n).grantKw = 0) (hq : ∀ b, (s.br b).queue = []) : s.orderly :=
  ⟨fun n hne => absurd (hg n) hne, fun b => by rw [hq]; exact ⟨nofun, nofun, List.nodup_nil⟩⟩

theorem inRange_of_goodImage {s : State} {i : Image} (h : s.goodImage = some i) : i.inRange = true := by
  unfold State.goodImage at h
  repeat' split at h
  · cases h
    assumption
  all_goals cases h

/-- The windows of an image in its ranges, disjoint (R116, R185). -/
theorem windowsLawful_startFrom (s : State) {i : Image} (c : ConfigSource) (h : i.inRange = true) : (s.startFrom i c).windowsLawful := by
  simp only [Image.inRange, Bool.and_eq_true, Bool.not_eq_true', List.all_eq_true] at h
  obtain ⟨⟨⟨⟨⟨⟨⟨⟨-, hbranches⟩, hclash⟩, -⟩, -⟩, -⟩, -⟩, -⟩, -⟩ := h
  have hset (b : Fin 6) : ((s.startFrom i c).br b).settings = i.branches[b.val] := by
    rw [br_startFrom]
    rfl
  have hapart {a b : Fin 6} (hab : a < b) : windowsOverlap i.branches[a.val].window i.branches[b.val].window = false := by
    rw [Bool.eq_false_iff]
    intro ho
    refine Bool.eq_false_iff.mp hclash ?_
    simp only [Image.windowsClash, List.any_eq_true, Bool.and_eq_true, decide_eq_true_eq]
    exact ⟨a, by simp [allBranches], b, by simp [allBranches], hab, ho⟩
  refine ⟨fun b w hw => ?_, fun b d hbd => ?_⟩
  · rw [hset] at hw
    exact isWindow_of_inRange (hbranches b (by simp [allBranches])) hw
  · rw [hset, hset]
    rcases lt_or_gt_of_ne hbd with hlt | hgt
    · exact hapart hlt
    · rw [windowsOverlap_comm]
      exact hapart hgt

theorem laws_coldStart (s : State) : LawsKept s s.coldStart := by
  have hfrom (v : State) (i : Image) (c : ConfigSource) (hi : i.inRange = true) : LawsKept s (v.startFrom i c) := by
    refine ⟨⟨fun _ => windowsLawful_startFrom v c hi, fun _ => ⟨?_, nofun⟩, fun _ => orderly_of_idle (fun n => ?_) fun b => ?_⟩,
      fun _ => ⟨nofun, nofun⟩⟩
    · simp only [Image.inRange, PumpSettings.inRange, Bool.and_eq_true, decide_eq_true_eq] at hi
      show i.pump.minSpeed ≤ i.pump.maxSpeed
      tauto
    · rw [stn_startFrom]
      exact (coldStart_idle _ _ _).1
    · rw [br_startFrom]
      rfl
  have hsent {v : State} (h : LawsCarried s v) (hv : v.pressure.source = .hold) : LawsKept s v.arbitrateAll.judgeRelay := by
    have hsent : v.arbitrateAll.pressure.source = .hold := (congrArg (fun v => v.pressure.source) (unsent_arbitrateAll v) :).trans hv
    have hp : v.arbitrateAll.judgeRelay.pressure.source = .hold := by
      generalize v.arbitrateAll = u at hsent
      exact hsent
    have hsend : LawsCarried v v.arbitrateAll := .of_rails (kept_arbitrateAll v) rfl (·.arbitrateAll)
    refine ⟨(h.trans hsend).trans (.of_unjudged (unjudged_judgeRelay _)), fun _ => ⟨fun e => ?_, fun e => ?_⟩⟩
    · exact absurd (hp.symm.trans e) nofun
    · exact absurd (hp.symm.trans e) nofun
  unfold State.coldStart
  dsimp only
  split
  · next i hi => exact hsent (hfrom _ i .stored (inRange_of_goodImage hi)).toLawsCarried rfl
  · have hraised := (hfrom s.cutSave Image.defaults .defaults (by decide)).trans (.quiet (site_raise _ .configLost 0))
    refine hsent hraised.toLawsCarried ?_
    rw [pressure_raise]
    rfl

theorem laws_powerLoss (s : State) : LawsKept s s.powerLoss := by
  unfold State.powerLoss State.cutSave
  dsimp only
  split <;> exact .quiet rfl

/-- A warm restart leaves no grant and no entry, and the source as the fallback rule gives it (R23, R139, R168). -/
theorem laws_warmRestart (s : State) : LawsKept s s.warmRestart := by
  have hstart : LawsCarried s s.restarted := by
    refine .of_rails (kept_restarted s) rfl fun h => orderly_of_idle (fun n => (restarted_curbed s n).2 (h.held n)) fun b => ?_
    rw [br_restarted]
    rfl
  have hsettled : LawsCarried s.restarted s.resettled := .of_rails
    ((kept_settleStorage _ s true false).trans (kept_arbitrateAll _)) rfl fun h => h.arbitrateAll.of_roster (roster_settleStorage _ _ _ _)
  have hu := unjudged_warmRestart s
  have hsource := (source_warmRestart s).1
  refine ⟨(hstart.trans hsettled).trans (.of_unjudged hu), fun _ => ⟨fun e => ?_, fun e => ?_⟩⟩
  · exact absurd (hsource.symm.trans e) (fallbackSource_unlocked s).1
  · exact absurd (hsource.symm.trans e) (fallbackSource_unlocked s).2

/-! ### A step -/

/-- A row that means `f` while the unit is powered. -/
theorem LawsKept.row {c : Instr} {s t : State} (f : State → State) (hc : exec c = whilePowered f) (he : exec c s = .next t)
    (hf : LawsKept s (f s)) : LawsKept s t := by
  rw [hc] at he
  cases hp : s.powered with
  | true => rw [whilePowered_on f s hp] at he; cases he; exact hf
  | false => rw [whilePowered_off f s hp] at he; cases he; exact .quiet rfl

/-- Every command keeps the laws: a request through the link, and any other by its own event. -/
theorem laws_exec {s t : State} (c : Instr) (he : exec c s = .next t) : LawsKept s t := by
  have hon (f : State → State) (hc : exec c = whilePowered f) (hf : LawsKept s (f s)) : LawsKept s t := .row f hc he hf
  have hframe (b : Fin 6) (address : Nat) (r : Option FieldReply) (hc : exec c = whilePowered (·.fieldFrame b address r)) :
      LawsKept s t := hon _ hc (laws_fieldFrame s b address r)
  have hbad (b : Fin 6) : LawsKept s (s.countBad b) := ⟨.of_roster (roster_updBr rfl) rfl, sourceLawful_updBr rfl⟩
  rcases hr : c.asRequest with _ | ⟨tag, r⟩
  · cases c with
    | coldStart => cases he; exact laws_coldStart s
    | powerLoss => exact hon (·.powerLoss) rfl (laws_powerLoss s)
    | supervisoryFrameReceived kind tag body => exact hon (·.receive ⟨tag, parseRequest kind body⟩) rfl (laws_receive s _)
    | supervisoryBadFrame =>
      exact hon (fun s => { s with link := { s.link with badFrames := countUp s.link.badFrames } }) rfl (.quiet rfl)
    | supervisoryGapTimeout =>
      exact hon (fun s => { s with link := { s.link with gaps := countUp s.link.gaps } }) rfl (.quiet rfl)
    | frameSent => exact hon (·.frameSent) rfl (laws_frameSent s)
    | saveReadBack agrees => exact hon (·.saveReadBack agrees) rfl (laws_saveReadBack s agrees)
    | warmRestart =>
      refine hon (fun s => if s.link.phase = .restartDue then s.warmRestart else s) rfl ?_
      split
      · exact laws_warmRestart s
      · exact .quiet rfl
    | clockTick => exact hon (·.clockTick) rfl (laws_clockTick s)
    | holdExpiry n => exact hon (·.holdExpiry n) rfl (laws_holdExpiry s n)
    | deviceSilent a => exact hon (·.silence a) rfl (laws_silence s a)
    | minRunExpiry u => exact hon (·.minRunExpiry u) rfl (laws_minRunExpiry s u)
    | minOffExpiry u => exact hon (·.minOffExpiry u) rfl (laws_minOffExpiry s u)
    | confirmExpiry u => exact hon (·.confirmExpiry u) rfl (laws_confirmExpiry s u)
    | chillerReport u condition available =>
      refine hon _ rfl ?_
      split
      · exact (LawsCarried.of_site (site_chillerReport s u condition available)).recapped s
      · exact .quiet rfl
    | tankReport soc mode rate =>
      refine hon _ rfl ?_
      split
      · have h : LawsCarried s (s.tankReport soc mode rate).event.recapacity.st := .of_site (site_tankReport s soc mode rate)
        exact h.allocate.settle s true true
      · exact .quiet rfl
    | pumpReport running speed =>
      exact hon (fun s => (s.pumpReport running speed).judgeRelay) rfl (laws_pumpReport s running speed)
    | plantDpReport dp => exact hon (fun s => (s.plantDpReport dp).finishPressure s) rfl (laws_plantDpReport s dp)
    | plantFrameDiscarded => exact hon (fun s => s) rfl (.quiet rfl)
    | indexDpStale n => exact hon (·.indexDpStale n) rfl (laws_indexDpStale s n)
    | plantDpStale => exact hon (·.plantDpStale) rfl (laws_plantDpStale s)
    | revertExpiry => exact hon (·.revertExpiry) rfl (laws_revertExpiry s)
    | trimExpiry => exact hon (·.trimExpiry) rfl (laws_trimExpiry s)
    | replyTimeout b => exact hon (·.replyTimeout b) rfl (laws_replyTimeout s b)
    | fieldGapTimeout b => exact hon (·.countBad b) rfl (hbad b)
    | fieldBadFrame b => exact hon (·.countBad b) rfl (hbad b)
    | fieldInvalidReply b frame => exact hframe b frame.address (parseReply frame) rfl
    | fieldUnawaitedFrame b frame => exact hframe b frame.address (parseReply frame) rfl
    | report b address f => exact hframe b address (some (.report f)) rfl
    | advertise b address caps kw cap rev => exact hframe b address (some (.advertise caps kw cap rev)) rfl
    | capAck b address seq => exact hframe b address (some (.capAck seq)) rfl
    | restAnswer b address answer => exact hframe b address (some (.restAnswer answer)) rfl
    | wakeAck b address => exact hframe b address (some .wakeAck) rfl
    | meterData b address energy volume => exact hframe b address (some (.meterData energy volume)) rfl
    | emptyRotationEnd b => exact hon (·.emptyRotationEnd b) rfl (laws_emptyRotationEnd s b)
    | restPollDue n => exact hon (·.restPollDue n) rfl (laws_restPollDue s n)
    | wakeTimerExpiry b => exact hon (·.wakeExpiry b) rfl (laws_wakeExpiry s b)
    | _ => cases hr
  · exact hon (·.receive ⟨tag, r⟩) (funext fun v => exec_asRequest hr v) (laws_receive s _)

/-- The command at the front of the queue is carried out, and without one nothing happens. -/
theorem laws_step {s t : State} (h : step s = .next t) : LawsKept s t := by
  cases hp : s.pending with
  | nil =>
    rw [step, hp] at h
    cases h
    exact .quiet rfl
  | cons c rest =>
    rw [step, hp] at h
    exact (laws_exec (s := { s with pending := rest }) c h).from rfl

/-- Settles O8: a step keeps each of the three laws, whatever its command. -/
theorem windowsAndSpeedStayLawful : Obligations.WindowsAndSpeedStayLawful :=
  ⟨fun _ _ hs h => (laws_step h).windows hs, fun _ _ hs h => (laws_step h).speed hs, fun _ _ hs h => (laws_step h).source hs⟩

/-- The queue of a branch whose window is lawful holds no more than 13 entries, and that of a disabled one none (R116, R130). -/
theorem queue_length_le {s : State} (hw : s.windowsLawful) (hq : s.queuesLawful) (b : Fin 6) : (s.br b).queue.length ≤ 13 := by
  have hqb : QueueInOrder (s.serves b) (s.br b).queue := hq b
  cases hwin : (s.br b).settings.window with
  | none =>
    have hnone : (s.br b).queue = [] := List.eq_nil_iff_forall_not_mem.mpr fun e he => by
      have hin := (hqb.1 e he).2
      rw [State.inWindow, hwin] at hin
      cases hin
    rw [hnone]
    exact Nat.zero_le _
  | some w =>
    refine QueueInOrder.length_le (hw.1 b w hwin) (hqb.mono fun e _ he => ?_)
    have hin := he.2
    rwa [State.inWindow, hwin] at hin

/-- Settles O11: a step keeps the queues in order where only ACTIVE stations hold a grant, and such a queue has at most 13 entries. -/
theorem capQueuesStayLawful : Obligations.CapQueuesStayLawful :=
  ⟨fun _ _ _ hg hq h => ((laws_step h).orderly ⟨hg.1, hq⟩).lawful, fun _ => queue_length_le⟩

end Sys2Proof.Machine
end

section
/-!
Meter reads (R136, R137): METER takes the read slot of its station's branch, and METER-DATA ends the read.
-/

namespace Sys2Proof.Machine

/-! ### METER (R136) -/

section
variable {s : State} (tag : Nat)

theorem onMeter_above {n : Nat} (h : 47 < n) : s.onMeter tag n = (s, .refused .range) := by
  simp [State.onMeter, stationOf_above h, State.refuse]

/-- A station that is not ACTIVE is refused, routed or not. -/
theorem onMeter_idle {n : Fin 48} (h : (s.stn n).state ≠ .active) : s.onMeter tag n.val = (s, .refused .state) := by
  simp only [State.onMeter, stationOf_val]
  split
  · rfl
  · rw [if_pos h]
    rfl

section
variable {n : Fin 48} {b : Fin 6} (ha : (s.stn n).state = .active) (hb : s.branchOf n = some b)
include ha hb

/-- The checks that follow, for an ACTIVE station of a branch. -/
theorem onMeter_routed : s.onMeter tag n.val =
    if (s.stn n).resolved.meter = false then (s, .refused .capability)
    else if (s.br b).read.isSome then (s, .refused .busy)
    else ((s.updBr b fun c => { c with read := some ⟨n, tag, 0, true⟩ }).settle s false false, .taken) := by
  simp only [State.onMeter, stationOf_val, hb, State.refuse]
  rw [if_neg (not_not.mpr ha)]

theorem onMeter_unable (hm : (s.stn n).resolved.meter = false) : s.onMeter tag n.val = (s, .refused .capability) := by
  rw [onMeter_routed tag ha hb, if_pos hm]

theorem onMeter_busy (hm : (s.stn n).resolved.meter = true) (hr : (s.br b).read ≠ none) :
    s.onMeter tag n.val = (s, .refused .busy) := by
  rw [onMeter_routed tag ha hb, if_neg (by simp [hm]), if_pos (Option.isSome_iff_ne_none.mpr hr)]

theorem onMeter_taken (hm : (s.stn n).resolved.meter = true) (hr : (s.br b).read = none) : s.onMeter tag n.val =
    ((s.updBr b fun c => { c with read := some ⟨n, tag, 0, true⟩ }).settle s false false, .taken) := by
  rw [onMeter_routed tag ha hb, if_neg (by simp [hm]), if_neg (by simp [hr])]

end

/-- A read that has just taken the slot is owed its METER-ASK at the end of the event, or has had it sent (R136, R137). -/
theorem read_taken (s before : State) (b : Fin 6) (n : Fin 48) :
    let t := (s.updBr b fun c => { c with read := some ⟨n, tag, 0, true⟩ }).settle before false false
    (t.br b).read = some ⟨n, tag, 0, true⟩ ∨
      ((t.br b).read = some ⟨n, tag, 1, false⟩ ∧ (t.br b).txn = some ⟨n, .meterAsk, false⟩) := by
  intro t
  have hread : ((s.updBr b fun c => { c with read := some ⟨n, tag, 0, true⟩ }).br b).read = some ⟨n, tag, 0, true⟩ := by
    rw [br_updBr_same]
  have h := read_arbitrateAll (s.updBr b fun c => { c with read := some ⟨n, tag, 0, true⟩ }) b
  rw [← br_settle _ before false false] at h
  rcases h with h | ⟨r, hr, hsent, htxn⟩
  · exact .inl (h.trans hread)
  · obtain rfl := Option.some.inj (hread.symm.trans hr)
    exact .inr ⟨hsent, htxn⟩

end

/-! ### METER-DATA (R137) -/

section
variable {s : State} {b : Fin 6} {r : MeterRead} (h : (s.br b).read = some r) (before : State) (o : MeterOutcome)
include h

theorem read_endRead : ((s.endRead b r.station o).br b).read = none := by
  rw [br_endRead, if_pos rfl]
  simp [Branch.withoutRead, h]

/-- A read that ends in an event has freed its slot, and its METER-DONE is on the link. -/
theorem read_ended :
    (((s.endRead b r.station o).settle before false false).br b).read = none ∧
      .notice (.meterDone r.tag r.station o) ∈ ((s.endRead b r.station o).settle before false false).link.sending.toList ++
        ((s.endRead b r.station o).settle before false false).link.waiting := by
  refine ⟨?_, ?_⟩
  · rw [br_settle]
    exact (read_arbitrateAll _ b).none (read_endRead h o)
  · obtain ⟨k, hk, hle⟩ := noted_endRead h o
    exact (hk.settle (by omega) before false false).mem

end

/-- Settles O43: METER's checks in their order and the slot taken; and a METER-DATA handed to its rule. -/
theorem meterReads : Obligations.MeterReads := by
  refine ⟨fun s tag n hs hn => exec_refused rfl hs (onMeter_above tag hn),
    fun s tag n hs => ⟨fun hi => ?_, fun b ha hb => ⟨?_, ?_, ?_⟩⟩, fun s b n r energy volume hp hx hr hn => ?_⟩
  · exact exec_refused rfl hs (onMeter_idle tag hi)
  · exact fun hm => exec_refused rfl hs (onMeter_unable tag ha hb hm)
  · exact fun hm hr => exec_refused rfl hs (onMeter_busy tag ha hb hm hr)
  · intro hm hr
    have hkept : ((s.updBr b fun c => { c with read := some ⟨n, tag, 0, true⟩ }).settle s false false).kept = s.kept := by
      rw [kept_settle, kept_updBr] <;> intro <;> rfl
    obtain ⟨he, hk⟩ := exec_request (c := .meter tag n.val) rfl hs (onMeter_taken tag ha hb hm hr) nofun nofun rfl rfl
      (congrArg Kept.link hkept :)
    have hread := read_taken tag s s b n
    generalize State.settle _ s false false = v at he hk hkept hread
    refine ⟨_, he, ?_, hread⟩
    rw [hk, hkept]
    rfl
  · subst hn
    have hread : ((s.replying b r.station).br b).read = some r := by
      rw [br_replying, if_pos rfl]
      exact hr
    have hframe : s.fieldFrame b r.station.val (some (.meterData energy volume)) =
        ((s.replying b r.station).endRead b r.station (.data energy volume)).settle s false false := fieldFrame_replied hx rfl rfl
    have hkept : (((s.replying b r.station).endRead b r.station (.data energy volume)).settle s false false).kept =
        s.kept.withStation r.station { s.stn r.station with missCount := 0 } := by
      rw [kept_settle, kept_endRead, State.replying, kept_updStn_with, kept_endTxn]
      rfl
    have hexec := exec_on (c := .meterData b r.station.val energy volume)
      (·.fieldFrame b r.station.val (some (.meterData energy volume))) rfl hp
    rw [hframe] at hexec
    exact ⟨_, hexec, hkept, read_ended hread s (.data energy volume)⟩

end Sys2Proof.Machine
end

section
/-!
The frames of the two links read back from their bytes (R122, R178, R182, Tables 7-2, 7-3 and 11-1): numbers, bodies, seals, and the frames.
-/

namespace Sys2Proof.Machine

/-! ### Numbers and bodies (00_scope.md 1.6, R182) -/

@[simp] theorem length_bytesOf (n v : Nat) : (bytesOf n v).length = n := by
  induction n with
  | zero => rfl
  | succ n ih => rw [bytesOf, List.length_cons, ih]

theorem bytesOf_one (v : Nat) : bytesOf 1 v = [BitVec.ofNat 8 v] := by simp [bytesOf]

theorem toNat_byte {v : Nat} (h : v < 256) : (BitVec.ofNat 8 v : Byte).toNat = v := by
  rw [BitVec.toNat_ofNat]
  exact Nat.mod_eq_of_lt h

/-- The bytes of a number read after others: what is above their places is lost. -/
theorem foldl_bytesOf (n v acc : Nat) :
    (bytesOf n v).foldl (fun acc b => acc * 256 + b.toNat) acc = acc * 256 ^ n + v % 256 ^ n := by
  induction n generalizing acc with
  | zero => simp [bytesOf, Nat.mod_one]
  | succ n ih =>
    have hdigit : v % 256 ^ (n + 1) = v / 256 ^ n % 256 * 256 ^ n + v % 256 ^ n := by
      rw [pow_succ, Nat.mod_mul]
      ring
    rw [bytesOf, List.foldl_cons, ih, BitVec.toNat_ofNat, hdigit]
    ring

/-- A number is read back from the bytes it fits. -/
theorem ofBytes_bytesOf {n v : Nat} (h : v < 256 ^ n) : ofBytes (bytesOf n v) = v := by
  rw [ofBytes, foldl_bytesOf, Nat.zero_mul, Nat.zero_add, Nat.mod_eq_of_lt h]

/-- A run of fields is read back from the body it is sent in. -/
theorem splitBody_encodeBody {fs : List Field} (h : fieldsFit fs = true) :
    splitBody (fs.map Field.bytes) (encodeBody fs) = some (fs.map Field.value) := by
  induction fs with
  | nil => rfl
  | cons f fs ih =>
    obtain ⟨hf, hfs⟩ := Bool.and_eq_true_iff.mp (h : (_ && _) = true)
    have hlen : f.encode.length = f.bytes := length_bytesOf f.bytes f.value
    have hbody : encodeBody (f :: fs) = f.encode ++ encodeBody fs := rfl
    have hnot : ¬ (f.encode ++ encodeBody fs).length < f.bytes := by
      rw [List.length_append, hlen]
      omega
    rw [hbody, List.map_cons, splitBody, if_neg hnot, ← hlen, List.drop_left, List.take_left, ih hfs]
    show some (ofBytes f.encode :: fs.map Field.value) = _
    rw [Field.encode, ofBytes_bytesOf (of_decide_eq_true hf)]
    rfl

/-! ### A frame between its start byte and its CRC (R122) -/

theorem openFrame_sealFrame (start : Byte) (inner : List Byte) : openFrame start (sealFrame start inner) = some inner := by
  have hlen : (inner ++ bytesOf 2 (crc16 inner).toNat).length - 2 = inner.length := by simp
  have htake : (inner ++ bytesOf 2 (crc16 inner).toNat).take inner.length = inner := List.take_left
  have hdrop : (inner ++ bytesOf 2 (crc16 inner).toNat).drop inner.length = bytesOf 2 (crc16 inner).toNat := List.drop_left
  simp only [openFrame, sealFrame, hlen, htake, hdrop]
  exact if_pos (by simp)

/-- A supervisory frame is read back from its bytes (R178, Table 11-1). -/
theorem readSupervisory_supervisoryWire {kind tag : Nat} {body : List Byte} (hk : kind < 256) (ht : tag < 256)
    (hb : body.length ≤ 250) : readSupervisory (supervisoryWire kind tag body) = some (kind, tag, body) := by
  have hlen : (BitVec.ofNat 8 body.length : Byte).toNat = body.length := toNat_byte (by omega)
  rw [readSupervisory, supervisoryWire, openFrame_sealFrame]
  simp only [bytesOf_one, List.cons_append, List.nil_append]
  rw [if_pos ⟨hlen, hb⟩, toNat_byte hk, toNat_byte ht]

/-- A station frame is read back from its bytes (R123, Table 7-2). -/
theorem readField_fieldWire {f : FieldFrame} (h : frameFits f = true) : readField (fieldWire f) = some f := by
  simp only [frameFits, Bool.and_eq_true, decide_eq_true_eq] at h
  obtain ⟨⟨⟨ha, hk⟩, hs⟩, hb⟩ := h
  have hlen : (BitVec.ofNat 8 f.body.length : Byte).toNat = f.body.length := toNat_byte (by omega)
  rw [readField, fieldWire, openFrame_sealFrame]
  simp only [bytesOf_one, List.cons_append, List.nil_append]
  rw [if_pos ⟨hlen, hb⟩, toNat_byte ha, toNat_byte hk, toNat_byte hs]

/-! ### The replies of a station (Table 7-3) -/

/-- The flags byte of a report: bit 0 alone (Table 7-3). -/
theorem testBit_flag (b : Bool) : b.toNat.testBit 0 = b := by cases b <;> rfl

theorem fieldsFit_append (fs gs : List Field) : fieldsFit (fs ++ gs) = (fieldsFit fs && fieldsFit gs) := List.all_append

/-- A station's reply is read back from its frame. -/
theorem parseReply_frame {address : Nat} {r : FieldReply} (h : r.fits = true) : parseReply (r.frame address) = some r := by
  cases r with
  | report f =>
    have hfit : fieldsFit [⟨2, f.requestKw⟩, ⟨2, f.supply⟩, ⟨2, f.ret⟩, ⟨2, f.indexDp⟩, ⟨1, f.standalone.toNat⟩] = true := by
      refine (fieldsFit_append [_, _, _, _] [_]).trans (Bool.and_eq_true_iff.mpr ⟨h, ?_⟩)
      cases f.standalone <;> rfl
    have hbody : splitBody [2, 2, 2, 2, 1] _ = some [f.requestKw, f.supply, f.ret, f.indexDp, f.standalone.toNat] := splitBody_encodeBody hfit
    simp only [parseReply, FieldReply.frame, hbody, testBit_flag]
  | advertise c k p v =>
    have hbody : splitBody [1, 2, 2, 1] _ = some [c, k, p, v] := splitBody_encodeBody h
    simp only [parseReply, FieldReply.frame, hbody]
  | capAck seq => rfl
  | restAnswer a =>
    have hbody : splitBody [1] _ = some [a] := splitBody_encodeBody h
    simp only [parseReply, FieldReply.frame, hbody]
  | wakeAck => rfl
  | meterData e v =>
    have hbody : splitBody [4, 4] _ = some [e, v] := splitBody_encodeBody h
    simp only [parseReply, FieldReply.frame, hbody]

/-- Settles O14: each of the three readings undoes its encoding. -/
theorem framesRoundTrip : Obligations.FramesRoundTrip :=
  ⟨fun _ _ _ => readSupervisory_supervisoryWire, fun _ => readField_fieldWire, fun _ _ => parseReply_frame⟩

end Sys2Proof.Machine
end

section
/-!
The host's BR-REST and BR-WAKE, and a station's answer to a REST-OFFER or a WAKE (R92, R145 to R151): the standings and the rest state they
write, and that the arbiters of the event's end leave them so.
-/

namespace Sys2Proof.Machine

/-! ### A branch that is not LIVE, through the arbiters (R129, R144) -/

/-- An arbiter leaves the rest state of every branch that is not LIVE. -/
theorem Arbitrated.rest_eq {b d : Fin 6} {s t : State} (h : Arbitrated b s t) (hr : (s.br d).rest ≠ .live) :
    (t.br d).rest = (s.br d).rest := by
  by_cases hd : d = b
  · subst hd
    exact h.rest hr
  · rw [h.others d hd]

theorem restCalled_rotated_of_not_live {s : State} {b : Fin 6} (h : (s.br b).rest ≠ .live) : (s.rotated b).restCalled b = false := by
  simp [State.restCalled, rest_rotated, h]

/-- The idle count is judged at the end of a rotation of a LIVE branch alone (R143). -/
theorem idleCount_arbitrateAll {s : State} {b : Fin 6} (h : (s.br b).rest ≠ .live) :
    (s.arbitrateAll.br b).idleCount = (s.br b).idleCount := by
  obtain ⟨v, -, hv, hb⟩ := br_arbitrateAll s b
  rw [← hv] at h ⊢
  have hpass : ((v.passRotation b).br b).idleCount = (v.br b).idleCount := by
    unfold State.passRotation
    split
    · rw [endRotation_live v b (restCalled_rotated_of_not_live h)]
      simp [State.rotated, State.judgeIdle, h]
    · rfl
  rw [hb]
  rcases arbitrate_cases v b with ⟨e, -⟩ | ⟨-, -, ⟨-, e⟩ | ⟨c, -, e⟩⟩ <;> rw [e]
  · exact hpass
  · exact (judged_iff.mp (judged_send _ b c)).2.1.trans hpass

/-! ### A standing, through the arbiters (R142, R146) -/

/-- The sending of a transaction writes no standing. -/
theorem standing_send (s : State) (b : Fin 6) (c : Choice) (n : Fin 48) : ((s.send b c).stn n).standing = (s.stn n).standing := by
  cases c with
  | cap =>
    rw [State.send, State.sendCap]
    split <;> rfl
  | rest m => rfl
  | meter =>
    rw [State.send, State.sendMeterAsk]
    split <;> rfl
  | rotation m =>
    rw [State.send, State.sendRotation]
    dsimp only
    split
    · rw [stn_updStn]
      split
      · next e => rw [e]; rfl
      · rfl
    · rfl

/-- An arbiter writes standings in the window of a LIVE branch alone: those of the offers its automatic rest brings. -/
theorem standing_arbitrate {s : State} {d : Fin 6} {n : Fin 48} (h : s.inWindow d n = true → (s.br d).rest ≠ .live) :
    ((s.arbitrate d).stn n).standing = (s.stn n).standing := by
  have hpass : ((s.passRotation d).stn n).standing = (s.stn n).standing := by
    unfold State.passRotation
    split
    · rw [endRotation_eq]
      split
      · next hc =>
        rw [stn_enterOffering fun m hm => no_grant_of_restCalled hc hm, stn_rotated, activeIn_rotated, if_neg]
        intro hn
        rw [restCalled_rotated_of_not_live (h (mem_activeIn.mp hn).1)] at hc
        cases hc
      · rw [stn_rotated]
    · rfl
  rcases arbitrate_cases s d with ⟨e, -⟩ | ⟨-, -, ⟨-, e⟩ | ⟨c, -, e⟩⟩ <;> rw [e]
  · exact hpass
  · exact (standing_send _ d c n).trans hpass

/-- The standing of a station in no LIVE branch's window stays while the arbiters look for work. -/
theorem standing_arbitrateAll {s : State} {n : Fin 48} (h : ∀ d, s.inWindow d n = true → (s.br d).rest ≠ .live) :
    (s.arbitrateAll.stn n).standing = (s.stn n).standing := by
  unfold State.arbitrateAll
  generalize allBranches = l
  induction l generalizing s with
  | nil => rfl
  | cons b l ih =>
    have hb := arbitrate_arbitrated s b
    rw [List.foldl_cons, ih fun d hd => ?_, standing_arbitrate (h b)]
    rw [inWindow_of_settings (settings_of_unsent_eq hb.unsent d)] at hd
    rw [hb.rest_eq (h d hd)]
    exact h d hd

/-- With windows apart, a station of a branch that is not LIVE keeps its standing to the end of the event (R116). -/
theorem standing_settle {s : State} {b : Fin 6} {n : Fin 48} (hw : s.windowsApart) (hn : s.inWindow b n = true)
    (hr : (s.br b).rest ≠ .live) (before : State) (t r : Bool) : ((s.settle before t r).stn n).standing = (s.stn n).standing := by
  rw [stn_settle, standing_arbitrateAll]
  intro d hd
  rwa [← hw.unique hn hd]

theorem rest_settle_of_not_live {s : State} {b : Fin 6} (hr : (s.br b).rest ≠ .live) (before : State) (t r : Bool) :
    ((s.settle before t r).br b).rest = (s.br b).rest := by
  rw [br_settle, rest_arbitrateAll hr]

/-! ### A branch that enters OFFERING, its grants released (R92, R146) -/

/-- A branch in OFFERING, its grants released and the offers not yet owed. -/
def State.released (s : State) (b : Fin 6) : State :=
  (s.activeIn b).foldl (fun s n => s.release n 0) (s.updBr b fun c => { c with rest := .offering, idleCount := 0 })

section
variable (s : State) (b : Fin 6)

theorem ungranted_released :
    (s.released b).ungranted = (s.updBr b fun c => { c with rest := .offering, idleCount := 0 }).ungranted :=
  foldl_keeps State.ungranted _ (fun s n => ungranted_release s n 0) _ _

theorem br_released :
    ((s.released b).br b).ungranted = { s.br b with rest := .offering, idleCount := 0, queue := [] } := by
  rw [← br_ungranted, ungranted_released, br_ungranted, br_updBr_same]
  rfl

theorem activeIn_released : (s.released b).activeIn b = s.activeIn b := by
  refine activeIn_of_eq ?_ fun n => ?_
  · exact (congrArg Branch.settings (br_released s b) :)
  · have h : ((s.released b).stn n).ungranted = (s.stn n).ungranted := by
      rw [← stn_ungranted, ungranted_released, stn_ungranted]
      rfl
    exact (congrArg Station.state h :)

theorem grant_released {n : Fin 48} (h : n ∈ s.activeIn b) : ((s.released b).stn n).grantKw = 0 := grant_foldl_release h

/-- A branch whose record a change leaves as it is. -/
theorem updBr_of_fixed {s : State} {b : Fin 6} {f : Branch → Branch} (h : f (s.br b) = s.br b) : s.updBr b f = s := by
  rw [State.updBr, h]
  simp [State.setBr, State.br]

theorem Branch.offering_fixed {c : Branch} (hr : c.rest = .offering) (hi : c.idleCount = 0) :
    { c with rest := .offering, idleCount := 0 } = c := by
  cases c
  cases hr
  cases hi
  rfl

/-- A branch enters OFFERING as it does with its grants released before. -/
theorem enterOffering_released : s.enterOffering b = (s.released b).enterOffering b := by
  have hbr := br_released s b
  have hrest : ((s.released b).br b).rest = .offering := (congrArg Branch.rest hbr :)
  have hidle : ((s.released b).br b).idleCount = 0 := (congrArg Branch.idleCount hbr :)
  rw [enterOffering_of_no_grant fun n hn => grant_released s b (activeIn_released s b ▸ hn), activeIn_released,
    updBr_of_fixed (Branch.offering_fixed hrest hidle)]
  rfl

/-- The branch that has entered OFFERING, or RESTING with none ACTIVE, and the stations it offers rest (R146). -/
theorem enterOffering_offers :
    ((s.enterOffering b).br b).rest = (if s.activeIn b = [] then .resting else .offering) ∧
      ((s.enterOffering b).br b).idleCount = 0 ∧
      ∀ n ∈ s.activeIn b, ((s.enterOffering b).stn n).grantKw = 0 ∧ ((s.enterOffering b).stn n).standing = .offerOwed := by
  have hg : ∀ n ∈ (s.released b).activeIn b, ((s.released b).stn n).grantKw = 0 := fun n hn =>
    grant_released s b (activeIn_released s b ▸ hn)
  rw [enterOffering_released, br_enterOffering hg, activeIn_released]
  refine ⟨rfl, rfl, fun n hn => ?_⟩
  rw [stn_enterOffering hg, activeIn_released, if_pos hn]
  exact ⟨grant_released s b hn, rfl⟩

end

/-- With no pass called for, the allocator leaves the record of a station without a grant alone. -/
theorem stn_allocate_of_no_grant {e : Event} {n : Fin 48} (hp : e.pass = false) (hg : (e.st.stn n).grantKw = 0) :
    (allocate e).stn n = e.st.stn n := by
  have hs := stn_sheds_of_no_grant hg
  unfold allocate
  rw [hp]
  exact (stn_handChanges_of_eq _ (congrArg Station.grantKw hs)).trans hs

theorem idleCount_of_queueless {c c' : Branch} (h : c.ungranted = c'.ungranted) : c.idleCount = c'.idleCount :=
  (congrArg Branch.idleCount h :)

/-- What BR-REST leaves at the end of its event (R145, R146). -/
theorem offers_finish (s before : State) (b : Fin 6) :
    let t := (s.enterOffering b).event.finish before
    (t.br b).rest = (if s.activeIn b = [] then .resting else .offering) ∧ (t.br b).idleCount = 0 ∧
      ∀ n ∈ s.activeIn b, (t.stn n).grantKw = 0 ∧ (t.stn n).standing = .offerOwed := by
  intro t
  obtain ⟨hrest, hidle, hstn⟩ := enterOffering_offers s b
  have hall := br_allocate (s.enterOffering b).event b
  have hr : ((allocate (s.enterOffering b).event).br b).rest = if s.activeIn b = [] then .resting else .offering :=
    (rest_of_queueless hall).trans hrest
  have hi : ((allocate (s.enterOffering b).event).br b).idleCount = 0 := (idleCount_of_queueless hall).trans hidle
  have hnl : ((allocate (s.enterOffering b).event).br b).rest ≠ .live := by
    rw [hr]
    split <;> nofun
  have hbr : t.br b = (allocate (s.enterOffering b).event).arbitrateAll.br b := br_finish _ _ b
  refine ⟨?_, ?_, fun n hn => ?_⟩
  · rw [hbr, rest_arbitrateAll hnl, hr]
  · rw [hbr, idleCount_arbitrateAll hnl, hi]
  · obtain ⟨hg, hst⟩ := hstn n hn
    have hrec : (allocate (s.enterOffering b).event).stn n = (s.enterOffering b).stn n := stn_allocate_of_no_grant rfl hg
    constructor
    · exact ((sameAllotment_settle _ _ _ _).grantKw n).trans ((congrArg Station.grantKw hrec).trans hg)
    · rw [show t.stn n = _ from stn_finish _ _ n]
      exact offerOwed_arbitrateAll ((congrArg Station.standing hrec).trans hst)

/-! ### BR-REST (R145) -/

section
variable {s : State} {b : Fin 6}

theorem onBrRest_above {n : Nat} (h : 5 < n) : s.onBrRest n = (s, .refused .range) := by
  simp [State.onBrRest, branchOfNumber_above h, State.refuse]

theorem onBrRest_disabled (hw : (s.br b).settings.window = none) : s.onBrRest b.val = (s, .refused .state) := by
  simp [State.onBrRest, hw, State.refuse]

section
variable (hw : (s.br b).settings.window ≠ none)
include hw

theorem onBrRest_at_rest (hr : (s.br b).rest = .offering ∨ (s.br b).rest = .resting) : s.onBrRest b.val = (s, .done []) := by
  rcases hr with hr | hr <;> simp [State.onBrRest, hw, hr, State.doneEmpty]

theorem onBrRest_waking (hr : (s.br b).rest = .waking) : s.onBrRest b.val = (s, .refused .busy) := by
  simp [State.onBrRest, hw, hr, State.refuse]

theorem onBrRest_live (hr : (s.br b).rest = .live) : s.onBrRest b.val =
    if ∀ n ∈ s.activeIn b, (s.stn n).resolved.rest = true then ((s.enterOffering b).event.finish s, .done [])
    else (s, .refused .capability) := by
  simp [State.onBrRest, hw, hr, State.refuse, State.doneEmpty]

end

end

/-- A request answered DONE with no effect closes the load session alone (R52). -/
theorem exec_done {c : Instr} {tag : Nat} {r : Request} {s : State} (hc : c.asRequest = some (tag, r)) (hs : s.ready)
    (h : s.carryOut tag r = (s, .done [])) (h1 : r ≠ .save) (h2 : r ≠ .restart) (hk : r.keepsSession = false) :
    exec c s = .next (State.answeredOnly { s with session := none } tag (.done [])) :=
  (exec_request hc hs h h1 h2 rfl hk rfl).1

/-- A request answered DONE whose event ends in `s'`, with the kept part as it was: the records are those of `s'`. -/
theorem exec_done_kept {c : Instr} {tag : Nat} {r : Request} {s s' : State} (hc : c.asRequest = some (tag, r)) (hs : s.ready)
    (h : s.carryOut tag r = (s', .done [])) (h1 : r ≠ .save) (h2 : r ≠ .restart) (hk : r.keepsSession = false)
    (hkept : s'.kept = s.kept) :
    ∃ t, exec c s = .next t ∧ t.kept = s.afterRequest tag (.done []) ∧ t.br = s'.br ∧ t.stn = s'.stn := by
  obtain ⟨he, ht⟩ := exec_request hc hs h h1 h2 rfl hk (congrArg Kept.link hkept :)
  refine ⟨_, he, ?_, rfl, rfl⟩
  rw [ht, hkept]
  rfl

/-- Settles O41: BR-REST's checks in their order, and the OFFERING branch at the end of its event. -/
theorem branchesAreRested : Obligations.BranchesAreRested := by
  refine ⟨fun s tag branch hs h => exec_refused rfl hs (onBrRest_above h), fun s tag b hs => ?_⟩
  refine ⟨fun hw => exec_refused rfl hs (onBrRest_disabled hw), fun hw => ⟨fun hr => ?_, fun hr => ?_, fun hr hno => ?_,
    fun hr hall => ?_⟩⟩
  · exact exec_done rfl hs (onBrRest_at_rest hw hr) nofun nofun rfl
  · exact exec_refused rfl hs (onBrRest_waking hw hr)
  · refine exec_refused rfl hs ((onBrRest_live hw hr).trans (if_neg fun hall => ?_))
    obtain ⟨n, hn, hf⟩ := hno
    rw [hall n hn] at hf
    cases hf
  · obtain ⟨t, he, hk, hbr, hstn⟩ := exec_done_kept (c := .brRest tag b.val) rfl hs ((onBrRest_live hw hr).trans (if_pos hall))
      nofun nofun rfl ((kept_finish _ s).trans (kept_enterOffering s b))
    refine ⟨t, he, hk, ?_⟩
    rw [hbr, hstn]
    exact offers_finish s s b

/-! ### A branch that enters WAKING (R150) -/

section
variable (s : State) (b : Fin 6)

theorem br_enterWaking : (s.enterWaking b).br = (s.startWaking b).br := by
  have h := (roused_standings ((s.startWaking b).activeIn b) .wakeOwed (s.startWaking b)).2
  funext d
  exact congrArg (fun v : Vector Branch 6 => v[d.val]) h

theorem settings_enterWaking (d : Fin 6) : ((s.enterWaking b).br d).settings = (s.br d).settings :=
  (roused_enterWaking s b).1.same.settings d

theorem standing_enterWaking {n : Fin 48} (hn : n ∈ s.activeIn b) : ((s.enterWaking b).stn n).standing = .wakeOwed := by
  have hact : (s.startWaking b).activeIn b = s.activeIn b := activeIn_of_eq (by rw [br_startWaking, if_pos rfl]) fun _ => rfl
  have h := stn_foldl_setStanding ((s.startWaking b).activeIn b) .wakeOwed (s.startWaking b) n
  rw [if_pos (hact ▸ hn)] at h
  exact (congrArg Station.standing h :)

end

theorem windowsApart_of_settings {s t : State} (hw : s.windowsApart) (h : ∀ d, (t.br d).settings = (s.br d).settings) :
    t.windowsApart := by
  intro b c hne
  rw [h, h]
  exact hw b c hne

/-- A branch that enters WAKING in an event is WAKING at the end of it, its timer running and every WAKE owed (R150). -/
theorem waking_settle {s : State} (hw : s.windowsApart) (b : Fin 6) (before : State) :
    let t := (s.enterWaking b).settle before false false
    (t.br b).rest = .waking ∧ (t.br b).wakeTimer = some (s.br b).settings.wakeTime ∧
      ∀ n ∈ s.activeIn b, (t.stn n).standing = .wakeOwed := by
  intro t
  have hbr : (s.enterWaking b).br b = { s.br b with rest := .waking, wakeTimer := some (s.br b).settings.wakeTime } := by
    rw [br_enterWaking, br_startWaking, if_pos rfl]
  have hset := settings_enterWaking s b
  have hr : ((s.enterWaking b).br b).rest = .waking := (roused_enterWaking s b).2
  refine ⟨rest_settle hr before false false, ?_, fun n hn => ?_⟩
  · rw [br_settle, wakeTimer_of_unsent (unsent_arbitrateAll _), hbr]
  · have hin : (s.enterWaking b).inWindow b n = true := (inWindow_of_settings (hset b) n).trans (mem_activeIn.mp hn).1
    rw [standing_settle (windowsApart_of_settings hw hset) hin (by rw [hr]; nofun)]
    exact standing_enterWaking s b hn

/-! ### BR-WAKE (R149) -/

section
variable {s : State} {b : Fin 6}

theorem onBrWake_above {n : Nat} (h : 5 < n) : s.onBrWake n = (s, .refused .range) := by
  simp [State.onBrWake, branchOfNumber_above h, State.refuse]

theorem onBrWake_disabled (hw : (s.br b).settings.window = none) : s.onBrWake b.val = (s, .refused .state) := by
  simp [State.onBrWake, hw, State.refuse]

theorem onBrWake_awake (hw : (s.br b).settings.window ≠ none) (hr : (s.br b).rest = .waking ∨ (s.br b).rest = .live) :
    s.onBrWake b.val = (s, .done []) := by
  rcases hr with hr | hr <;> simp [State.onBrWake, hw, hr, State.doneEmpty]

theorem onBrWake_at_rest (hw : (s.br b).settings.window ≠ none) (hr : (s.br b).rest = .offering ∨ (s.br b).rest = .resting) :
    s.onBrWake b.val = ((s.enterWaking b).settle s false false, .done []) := by
  rcases hr with hr | hr <;> simp [State.onBrWake, hw, hr, State.doneEmpty]

end

/-- Settles O42: BR-WAKE's checks, and the WAKING branch at the end of its event. -/
theorem branchesAreWoken : Obligations.BranchesAreWoken := by
  refine ⟨fun s tag branch hs h => exec_refused rfl hs (onBrWake_above h), fun s tag b hs => ?_⟩
  refine ⟨fun hw => exec_refused rfl hs (onBrWake_disabled hw), fun hw hr => ?_, fun hw hr hlaw => ?_⟩
  · exact exec_done rfl hs (onBrWake_awake hw hr) nofun nofun rfl
  · obtain ⟨t, he, hk, hbr, hstn⟩ := exec_done_kept (c := .brWake tag b.val) rfl hs (onBrWake_at_rest hw hr)
      nofun nofun rfl ((kept_settle _ s _ _).trans (kept_enterWaking s b))
    refine ⟨t, he, hk, ?_⟩
    rw [hbr, hstn]
    exact waking_settle hlaw.2 b s

/-! ### REST-ANSWER (R147, R150) -/

/-- An OFFERING branch rests once every ACTIVE station of its window stands accepted (R147). -/
theorem rest_judgeOffering {s : State} {b : Fin 6} (hr : (s.br b).rest = .offering) :
    ((s.judgeOffering b).br b).rest =
      if ∀ n ∈ s.activeIn b, (s.stn n).standing = .accepted then .resting else .offering := by
  unfold State.judgeOffering
  simp only [hr, true_and, List.all_eq_true, decide_eq_true_eq]
  split
  · rw [br_updBr_same]
  · exact hr

theorem settings_judgeOffering (s : State) (b d : Fin 6) : ((s.judgeOffering b).br d).settings = (s.br d).settings :=
  (congrArg Prod.fst (congrFun (congrArg Kept.branches (kept_judgeOffering s b)) d) :)

/-- An accept in OFFERING, up to the end of its event: the standing is kept, and the branch rests or goes on offering (R147). -/
theorem accepted_settle {s : State} {b : Fin 6} {n : Fin 48} (hw : s.windowsApart) (hn : s.inWindow b n = true)
    (hr : (s.br b).rest = .offering) (before : State) :
    let t := ((s.setStanding n .accepted).judgeOffering b).settle before false false
    (t.stn n).standing = .accepted ∧
      (t.br b).rest = if ∀ m ∈ s.activeIn b, m ≠ n → (s.stn m).standing = .accepted then .resting else .offering := by
  intro t
  have hset (d : Fin 6) : (((s.setStanding n .accepted).judgeOffering b).br d).settings = (s.br d).settings :=
    settings_judgeOffering _ b d
  have hstn (m : Fin 48) :
      (s.setStanding n .accepted).stn m = if m = n then { s.stn n with standing := .accepted } else s.stn m :=
    stn_updStn s n m _
  have hact : (s.setStanding n .accepted).activeIn b = s.activeIn b := activeIn_of_eq rfl fun m => by
    rw [hstn]
    split
    · next e => rw [e]
    · rfl
  have hiff : (∀ m ∈ s.activeIn b, ((s.setStanding n .accepted).stn m).standing = .accepted) ↔
      ∀ m ∈ s.activeIn b, m ≠ n → (s.stn m).standing = .accepted := by
    refine forall₂_congr fun m _ => ?_
    rw [hstn]
    by_cases e : m = n <;> simp [e]
  have hrest : (((s.setStanding n .accepted).judgeOffering b).br b).rest =
      if ∀ m ∈ s.activeIn b, m ≠ n → (s.stn m).standing = .accepted then .resting else .offering := by
    rw [rest_judgeOffering (s := s.setStanding n .accepted) hr, hact, if_congr hiff rfl rfl]
  have hnl : (((s.setStanding n .accepted).judgeOffering b).br b).rest ≠ .live := by
    rw [hrest]
    split <;> nofun
  refine ⟨?_, (rest_settle_of_not_live hnl _ _ _).trans hrest⟩
  rw [standing_settle (windowsApart_of_settings hw hset) ((inWindow_of_settings (hset b) n).trans hn) hnl, stn_judgeOffering, hstn,
    if_pos rfl]

section
variable {s : State} {b : Fin 6} {n : Fin 48} (hr : (s.br b).rest = .offering) (before : State)
include hr

theorem restAnswer_declined : s.restAnswer before b n 0 = (s.enterWaking b).settle before false false := by
  simp [State.restAnswer, hr]

theorem restAnswer_accepted (hs : (s.stn n).standing = .offerOwed) :
    s.restAnswer before b n 1 = ((s.setStanding n .accepted).judgeOffering b).settle before false false := by
  simp [State.restAnswer, hr, hs]

end

/-! ### The state in which an answer is judged (R124) -/

section
variable (s : State) (b : Fin 6) (n : Fin 48)

theorem kept_replying : (s.replying b n).kept = s.kept.withStation n { s.stn n with missCount := 0 } := by
  rw [State.replying, kept_updStn_with, kept_endTxn]
  rfl

theorem rest_replying (d : Fin 6) : ((s.replying b n).br d).rest = (s.br d).rest := by
  rw [br_replying]
  split
  · next e => rw [e]
  · rfl

theorem settings_replying (d : Fin 6) : ((s.replying b n).br d).settings = (s.br d).settings := by
  rw [br_replying]
  split
  · next e => rw [e]
  · rfl

theorem standing_replying (m : Fin 48) : ((s.replying b n).stn m).standing = (s.stn m).standing := by
  rw [stn_replying]
  split
  · next e => rw [e]
  · rfl

theorem activeIn_replying (d : Fin 6) : (s.replying b n).activeIn d = s.activeIn d := by
  refine activeIn_of_eq (settings_replying s b n d) fun m => ?_
  rw [stn_replying]
  split
  · next e => rw [e]
  · rfl

end

section
variable {s : State} {b : Fin 6} {n : Fin 48} (hp : s.powered = true)
include hp

/-- The answer to a REST-OFFER, either way, is handed to R147. -/
theorem exec_restAnswer (hx : (s.br b).txn = some ⟨n, .restOffer, false⟩) {a : Nat} (ha : a ≤ 1) :
    exec (.restAnswer b n.val a) s = .next ((s.replying b n).restAnswer s b n a) := by
  have hpairs : TxnKind.restOffer.pairs (.restAnswer a) = true := decide_eq_true ha
  rw [exec_on (·.fieldFrame b n.val (some (.restAnswer a))) rfl hp, fieldFrame_replied hx hpairs rfl]
  rfl

/-- The answer to a WAKE is handed to R151. -/
theorem exec_wakeAck (hx : (s.br b).txn = some ⟨n, .wake, false⟩) :
    exec (.wakeAck b n.val) s = .next (((s.replying b n).updStn n Station.woken).settle s false false) := by
  rw [exec_on (·.fieldFrame b n.val (some .wakeAck)) rfl hp, fieldFrame_replied hx rfl rfl]
  rfl

end

/-- Settles O59: each answer is handed to its rule, and the arbiters leave what that writes. -/
theorem restIsAnswered : Obligations.RestIsAnswered := by
  intro s b n hp hlaw hn _
  have hw : (s.replying b n).windowsApart := windowsApart_of_settings hlaw.2 (settings_replying s b n)
  have hin : (s.replying b n).inWindow b n = true := (inWindow_of_settings (settings_replying s b n b) n).trans hn
  refine ⟨fun hx hr => ?_, fun hx hr hst => ?_⟩
  · have hr' : ((s.replying b n).br b).rest = .offering := (rest_replying s b n b).trans hr
    refine ⟨fun hst => ⟨_, exec_restAnswer hp hx (Nat.le_refl 1), ?_⟩, _, exec_restAnswer hp hx (Nat.zero_le 1), ?_⟩
    · obtain ⟨hstand, hrest⟩ := accepted_settle hw hin hr' s
      simp only [activeIn_replying, standing_replying] at hrest
      rw [restAnswer_accepted hr' s ((standing_replying s b n n).trans hst)]
      refine ⟨?_, hstand, fun hall => hrest.trans (if_pos hall), fun ⟨m, hm, hne, hno⟩ => hrest.trans (if_neg fun hall => ?_)⟩
      · rw [kept_settle, kept_judgeOffering, kept_setStanding, kept_replying]
      · exact hno (hall m hm hne)
    · obtain ⟨hrest, htimer, hwake⟩ := waking_settle hw b s
      rw [settings_replying] at htimer
      rw [activeIn_replying] at hwake
      rw [restAnswer_declined hr' s]
      refine ⟨?_, hrest, htimer, hwake⟩
      rw [kept_settle, kept_enterWaking, kept_replying]
  · let u := (s.replying b n).updStn n Station.woken
    have hu : u.windowsApart := hw
    have hnl : (u.br b).rest ≠ .live := by
      rw [br_updStn, rest_replying, hr]
      nofun
    refine ⟨_, exec_wakeAck hp hx, ?_, ?_⟩
    · rw [kept_settle, kept_updStn _ _ Station.woken fun _ => rfl, kept_replying]
    · rw [standing_settle hu hin hnl, stn_updStn_same, Station.woken, standing_replying, hst]
      rfl

end Sys2Proof.Machine
end

section
/-!
PUMP-DEF and the trim (R157, R165 to R167): where the speed command goes, and the PUMP-SET that tells the pump group of it.
-/

namespace Sys2Proof.Machine

/-! ### PUMP-DEF (R157) -/

/-- The ranges of Table 9-3, one by one. -/
theorem pump_inRange_iff (p : PumpSettings) :
    p.inRange = true ↔ p.deadband ≤ 200 ∧ (1 ≤ p.interval ∧ p.interval ≤ 60) ∧ (1 ≤ p.gain ∧ p.gain ≤ 1000) ∧
      (1 ≤ p.maxStep ∧ p.maxStep ≤ 100) ∧ p.minSpeed ≤ p.maxSpeed ∧ p.maxSpeed ≤ 1000 := by
  simp [PumpSettings.inRange, within, and_assoc]

theorem onPumpDef_refused (s : State) {p : PumpSettings} (h : p.inRange = false) : s.onPumpDef p = (s, .refused .range) := by
  simp [State.onPumpDef, h, State.refuse]

theorem onPumpDef_accepted (s : State) {p : PumpSettings} (h : p.inRange = true) : s.onPumpDef p = (s.setPump p, .done []) := by
  simp [State.onPumpDef, h, State.doneEmpty]

/-- With no speed command the trim settings alone are replaced. -/
theorem setPump_of_none {s : State} (h : s.pressure.speed = none) (p : PumpSettings) :
    s.setPump p = { s with pressure := { s.pressure with pump := p } } := by
  simp only [State.setPump, h]

/-- A speed command is clamped into the new range, and sent where that moves it. -/
theorem setPump_of_some {s : State} {v : Nat} (h : s.pressure.speed = some v) (p : PumpSettings) :
    s.setPump p = { s with
      pressure := { s.pressure with pump := p, speed := some (p.clamp v) }
      busSent := if p.clamp v = v then s.busSent else s.busSent ++ [.pumpSet (p.clamp v)] } := by
  simp only [State.setPump, h]
  split
  · next hc => rw [hc, ← h]
  · rfl

/-- An accepted PUMP-DEF closes the load session and is answered DONE. -/
theorem exec_pumpDef_accepted {s : State} (hs : s.ready) (tag : Nat) {p : PumpSettings} (hp : p.inRange = true) :
    exec (.pumpDef tag p) s = .next (State.answeredOnly { s.setPump p with session := none } tag (.done [])) :=
  (exec_ready rfl hs).trans (congrArg _ (handle_done nofun nofun (onPumpDef_accepted s hp) rfl rfl))

/-- Settles O40: the ranges of Table 9-3, and an accepted PUMP-DEF by whether there is a speed command. -/
theorem pumpTrimIsDefined : Obligations.PumpTrimIsDefined := by
  intro s tag p hs
  refine ⟨fun hout => exec_refused rfl hs (onPumpDef_refused s ?_), fun hp hv => ?_, fun v hp hv => ?_⟩
  · refine Bool.eq_false_iff.mpr fun hp => ?_
    have hr := (pump_inRange_iff p).mp hp
    omega
  · rw [exec_pumpDef_accepted hs tag hp, setPump_of_none hv]
  · rw [exec_pumpDef_accepted hs tag hp, setPump_of_some hv, clamp_natCast]

/-! ### The trim (R165, R166) -/

/-- A trim that R165 does not let be taken leaves everything as it is. -/
theorem trim_of_held {s : State} (h : s.trimError = none ∨ s.pumpsRun = false ∨ s.pressure.speed = none) : s.trim = s := by
  unfold State.trim
  split
  · next he hv =>
    rw [he, hv] at h
    rw [if_neg (by simpa using h)]
  · rfl
  · rfl

/-- A trim that is taken moves the speed command, and sends it where it has changed. -/
theorem trim_of_taken {s : State} {e : Int} {v : Nat} (he : s.trimError = some e) (hr : s.pumpsRun = true)
    (hv : s.pressure.speed = some v) :
    s.trim = { s with
      pressure := { s.pressure with
        speed := some (s.pressure.pump.trimmed e v)
        lastTrim := some ⟨e, s.pressure.source⟩ }
      busSent := if s.pressure.pump.trimmed e v = v then s.busSent
        else s.busSent ++ [.pumpSet (s.pressure.pump.trimmed e v)] } := by
  simp only [State.trim, he, hv, hr, if_true]
  split <;> rfl

/-- The step of a trim outside the deadband: the truncated product, at least 1 ‰ either way, and at most max step (R166). -/
theorem trimStep_eq (gain maxStep : Nat) {e : Int} (he : e ≠ 0) :
    trimStep gain maxStep e =
      let q := (e * gain).tdiv 1000
      let δ := if q = 0 then e.sign else q
      if (maxStep : Int) < δ then (maxStep : Int) else if δ < -(maxStep : Int) then -(maxStep : Int) else δ := by
  have hsign : (if 0 < e then 1 else -1 : Int) = e.sign := by
    split
    · next h => exact (Int.sign_eq_one_of_pos h).symm
    · exact (Int.sign_eq_neg_one_of_neg (by omega)).symm
  simp only [trimStep, hsign]
  omega

/-- Settles O54: the speed command stays where R165 holds it, and otherwise moves by the step of R166. -/
theorem theSpeedIsTrimmed : Obligations.TheSpeedIsTrimmed := by
  intro s hp p index e running
  have hexec : exec .trimExpiry s = .next s.trim.restartTrim := exec_on (·.trimExpiry) rfl hp
  have herr : s.trimError = e := by
    have hindex (c : Option (Fin 48)) :
        ((c.bind fun n => (s.stn n).indexDp).map fun r => (s.pressure.ref.indexSetpoint : Int) - r.value) =
          (index c).map fun (m : Nat) => (s.pressure.ref.indexSetpoint : Int) - m := by
      cases c with
      | none => rfl
      | some n => exact (Option.map_map (fun m : Nat => (s.pressure.ref.indexSetpoint : Int) - m) DpReading.value _).symm
    unfold State.trimError
    simp only [hindex]
    rfl
  rw [hexec, ← herr]
  refine ⟨fun hheld => by rw [trim_of_held hheld]; rfl, fun err v he hr hv => ?_⟩
  intro q δ₀ δ v'
  have hspeed : s.pressure.pump.trimmed err v = v' := by
    by_cases hin : err.natAbs ≤ p.deadband
    · exact (if_pos hin).trans (if_pos hin).symm
    · have hne : err ≠ 0 := by omega
      refine (if_neg hin).trans (Eq.trans ?_ (if_neg hin).symm)
      rw [trimStep_eq _ _ hne]
      rfl
  rw [trim_of_taken he hr hv, hspeed]
  rfl

end Sys2Proof.Machine
end

section
/-!
REF-DEF (R156, R163): the checks of Table 9-2, and the source judged under the settings of an accepted one.
-/

namespace Sys2Proof.Machine

/-! ### The checks of REF-DEF (R156) -/

theorem flagOfCode_eq_some {n : Nat} {b : Bool} : flagOfCode n = some b ↔ n = b.toNat := by
  unfold flagOfCode
  split <;> cases b <;> simp_all

theorem fallbackOfCode_eq_some {n : Nat} {f : Fallback} : fallbackOfCode n = some f ↔ n = f.code := by
  unfold fallbackOfCode
  split <;> cases f <;> simp_all [Fallback.code]

/-- The code of an index candidate: its station number, or 0xFF for none (R156). -/
theorem stationOrNone_eq_some {n : Nat} {c : Option (Fin 48)} :
    stationOrNone n = some c ↔ n = (c.map Fin.val).getD 0xFF := by
  unfold stationOrNone
  cases c with
  | none =>
    split
    · exact iff_of_false nofun fun (e : n = 0xFF) => by omega
    · simp
  | some m =>
    split
    · simp [Fin.ext_iff]
    · exact iff_of_false (by split <;> nofun) fun (e : n = m.val) => by omega

/-- The ranges of Table 9-2, one by one. -/
theorem ref_inRange_iff (r : RefSettings) :
    r.inRange = true ↔ (r.primary = none ∨ r.primary ≠ r.secondary) ∧ r.revertDelay ≤ 600 ∧
      (5 ≤ r.freshness ∧ r.freshness ≤ 60) ∧ (200 ≤ r.indexSetpoint ∧ r.indexSetpoint ≤ 3000) ∧
      200 ≤ r.plantSetpoint ∧ r.plantSetpoint ≤ 3000 := by
  simp [RefSettings.inRange, within, and_assoc]

/-- A REF-DEF that passes every check of R156 is the frame of the settings it carries. -/
theorem refSettingsOf_eq_some {f : RefDefFields} {r : RefSettings} :
    refSettingsOf f = some r ↔ r.inRange = true ∧ f = r.asFrame := by
  constructor
  · intro e
    unfold refSettingsOf at e
    split at e
    · next ep eq ea ef =>
      dsimp only at e
      split at e
      · next hr =>
        cases e
        refine ⟨hr, ?_⟩
        simp only [RefSettings.asFrame, ← stationOrNone_eq_some.mp ep, ← stationOrNone_eq_some.mp eq,
          ← flagOfCode_eq_some.mp ea, ← fallbackOfCode_eq_some.mp ef]
      · cases e
    · cases e
  · rintro ⟨hr, rfl⟩
    simp only [refSettingsOf, RefSettings.asFrame, (stationOrNone_eq_some (c := r.primary)).mpr rfl,
      (stationOrNone_eq_some (c := r.secondary)).mpr rfl, (flagOfCode_eq_some (b := r.autoSwitch)).mpr rfl,
      (fallbackOfCode_eq_some (f := r.fallback)).mpr rfl, hr, if_true]

/-- A REF-DEF with a field out of range, or one station named twice, carries no settings (R156). -/
theorem refSettingsOf_eq_none {f : RefDefFields}
    (h : (47 < f.primary ∧ f.primary ≠ 0xFF) ∨ (47 < f.secondary ∧ f.secondary ≠ 0xFF) ∨
      (f.primary ≤ 47 ∧ f.primary = f.secondary) ∨ 1 < f.autoSwitch ∨ 1 < f.fallback ∨ 600 < f.revertDelay ∨
      f.freshness < 5 ∨ 60 < f.freshness ∨ f.indexSetpoint < 200 ∨ 3000 < f.indexSetpoint ∨ f.plantSetpoint < 200 ∨
      3000 < f.plantSetpoint) :
    refSettingsOf f = none := by
  by_contra hne
  obtain ⟨r, hf⟩ := Option.ne_none_iff_exists'.mp hne
  obtain ⟨hr, rfl⟩ := refSettingsOf_eq_some.mp hf
  obtain ⟨htwice, hrest⟩ := (ref_inRange_iff r).mp hr
  have hcode (c : Option (Fin 48)) : (c.map Fin.val).getD 0xFF ≤ 47 ∨ (c.map Fin.val).getD 0xFF = 0xFF ∧ c = none := by
    cases c with
    | none => exact .inr ⟨rfl, rfl⟩
    | some n => exact .inl (Nat.le_of_lt_succ n.isLt)
  have hp := hcode r.primary
  have hq := hcode r.secondary
  have ha : r.autoSwitch.toNat ≤ 1 := r.autoSwitch.toNat_le
  have hfb : r.fallback.code ≤ 1 := by cases r.fallback <;> decide
  have hone : (r.primary.map Fin.val).getD 0xFF = (r.secondary.map Fin.val).getD 0xFF → r.primary = r.secondary := fun e =>
    Option.some.inj ((stationOrNone_eq_some.mpr rfl).symm.trans (stationOrNone_eq_some.mpr e))
  simp only [RefSettings.asFrame] at h
  rcases h with h | h | ⟨h, e⟩ | h
  · omega
  · omega
  · rcases htwice with hn | hn
    · rw [hn] at h
      exact absurd h (by decide)
    · exact hn (hone e)
  · omega

/-- Settles O39: the checks of R156, and the source judged under the new settings. -/
theorem pressureReferenceIsDefined : Obligations.PressureReferenceIsDefined := by
  refine ⟨fun s tag f hs h => exec_refused rfl hs ?_, fun s tag r hs hr => ?_⟩
  · show s.onRefDef f = _
    rw [State.onRefDef, refSettingsOf_eq_none h]
    rfl
  · have hdone : s.onRefDef r.asFrame = ((s.setRef r).finishPressure s, .done []) := by
      rw [State.onRefDef, refSettingsOf_eq_some.mpr ⟨hr, rfl⟩]
      rfl
    have hk : ((s.setRef r).finishPressure s).kept = { s.kept with ref := r } := kept_finishPressure (s.setRef r) s
    obtain ⟨he, hkept⟩ := exec_request (c := .refDef tag r.asFrame) rfl hs hdone nofun nofun rfl rfl (congrArg Kept.link hk)
    have hu := unjudged_finishPressure (s.setRef r) s
    have hlaw := sourceLawful_finishPressure (s.setRef r) s
    generalize (s.setRef r).finishPressure s = t at hk he hkept hu hlaw
    obtain ⟨hbus, hbranches⟩ := busSent_of_unjudged hu
    refine ⟨_, he, ?_, (congrArg State.stations hu :), hbranches, hbus, hlaw.1, hlaw.2⟩
    rw [hkept, hk]
    rfl

end Sys2Proof.Machine
end

section
/-!
The timers of the pressure reference unit (R158 to R162, R164): what the judging of the source makes of a candidate or a
plant DP that has gone stale, and the return to PRIMARY.
-/

namespace Sys2Proof.Machine

/-! ### The source judged where a pressure is lost (R159 to R161) -/

section
variable {s : State} (was : RefSettings)

/-- A primary that is lost gives way to a valid secondary with auto-switch, and otherwise to the fallback (R159). -/
theorem judgeSource_primary_lost (hs : s.pressure.source = .primary) (hp : s.primaryValid = false) :
    s.judgeSource was =
      if s.pressure.ref.autoSwitch = true ∧ s.secondaryValid = true then s.lock .secondary else s.loseSource was.primary := by
  simp only [State.judgeSource, hs, hp, Bool.false_eq_true, if_false, Bool.and_eq_true]

/-- A secondary that is lost gives way to the fallback (R160). -/
theorem judgeSource_secondary_lost (hs : s.pressure.source = .secondary) (hq : s.secondaryValid = false) :
    s.judgeSource was = s.loseSource was.secondary := by
  simp only [State.judgeSource, hs, hq, Bool.false_eq_true, if_false]

/-- From PLANT or HOLD a valid secondary is promoted with auto-switch and no valid primary, and otherwise the fallback rule holds
(R161). -/
theorem judgeSource_resting (hs : s.pressure.source = .plant ∨ s.pressure.source = .hold) :
    s.judgeSource was =
      if s.pressure.ref.autoSwitch = true ∧ s.primaryValid = false ∧ s.secondaryValid = true then s.lock .secondary
      else s.setSource s.fallbackSource := by
  rcases hs with hs | hs <;> simp [State.judgeSource, hs, and_assoc]

/-- A source that the judging leaves at PLANT is what the fallback rule gives (R161). -/
theorem fallbackSource_of_plant (h : (s.judgeSource was).pressure.source = .plant) : s.fallbackSource = .plant := by
  have hlost (n : Option (Fin 48)) : (s.loseSource n).pressure.source = s.fallbackSource :=
    congrArg PressureUnit.source (pressure_loseSource s n)
  unfold State.judgeSource at h
  split at h
  · next hs =>
    split at h
    · exact absurd (hs.symm.trans h) nofun
    · split at h
      · exact absurd h nofun
      · exact (hlost _).symm.trans h
  · next hs =>
    split at h
    · exact absurd (hs.symm.trans h) nofun
    · exact (hlost _).symm.trans h
  all_goals
    split at h
    · exact absurd h nofun
    · exact h

end

/-! ### The revert timer that runs where it is called for (R162) -/

/-- The revert timer runs wherever the primary is valid and not the source, as R162 has it. -/
def State.timed (s : State) : Prop := s.primaryValid = false ∨ s.pressure.revertTimer ≠ none

/-- Where the revert timer runs as R162 has it, its judging writes no more than the timer. -/
theorem judgeRevert_of_timed {s : State} (h : s.timed) : ∃ k, s.judgeRevert = s.setRevert k := by
  unfold State.judgeRevert
  split
  · exact ⟨_, rfl⟩
  · next hc =>
    split
    · exact ⟨s.pressure.revertTimer, rfl⟩
    · next hn => exact absurd h (not_or.mpr ⟨(not_or.mp hc).2, not_not.mpr hn⟩)

/-- Where the revert timer runs as R162 has it, the source and the entries are those the judging of the source leaves. -/
theorem finishPressure_of_timed {s : State} (h : s.timed) (before : State) :
    (s.finishPressure before).pressure.source = (s.judgeSource before.pressure.ref).pressure.source ∧
      (s.finishPressure before).faults.entries = (s.judgeSource before.pressure.ref).faults.entries := by
  have ht : (s.judgeSource before.pressure.ref).timed := by
    have hv := primaryValid_of_unjudged (unjudged_judgeSource s before.pressure.ref)
    have hr := congrArg PressureUnit.revertTimer (pressure_judgeSource s before.pressure.ref)
    exact h.imp hv.trans fun hn e => hn (hr.symm.trans e)
  unfold State.finishPressure State.judgePressure
  generalize s.judgeSource before.pressure.ref = v at ht
  obtain ⟨k, hk⟩ := judgeRevert_of_timed ht
  rw [hk]
  exact ⟨rfl, rfl⟩

/-- With no fresh plant DP the source is not PLANT at the end of an event that judges it. -/
theorem source_finishPressure_ne_plant {s : State} (h : s.plantDpFresh = false) (before : State) :
    (s.finishPressure before).pressure.source ≠ .plant := by
  have hj : (s.judgeSource before.pressure.ref).pressure.source ≠ .plant := fun e => by
    have hf := fallbackSource_of_plant _ e
    simp [State.fallbackSource, h] at hf
  show (s.judgeSource before.pressure.ref).judgeRevert.pressure.source ≠ .plant
  generalize s.judgeSource before.pressure.ref = v at hj
  unfold State.judgeRevert
  split
  · exact hj
  · split
    · exact hj
    · split
      · nofun
      · exact hj

/-! ### INDEX_LOST (R164) -/

/-- No INDEX_LOST entry stays active where the source is locked. -/
theorem quiet_lock (s : State) (c : Source) (x : Nat) : (s.lock c).faults.quiet .indexLost x := by
  intro e he hk _
  obtain ⟨d, hd, hde⟩ := List.mem_filterMap.mp he
  split at hde
  · split at hde
    · cases hde
    · rw [← Option.some.inj hde]
  · next hn =>
    obtain rfl := Option.some.inj hde
    simpa [hk] using hn

theorem quiet_of_entries {l l' : FaultList} (h : l'.entries = l.entries) {k : FaultKind} {x : Nat} (hq : l.quiet k x) :
    l'.quiet k x := by
  unfold FaultList.quiet
  rwa [h]

theorem shows_of_entries {l l' : FaultList} (h : l'.entries = l.entries) {k : FaultKind} {x : Nat} (hs : l.shows k x) :
    l'.shows k x := by
  unfold FaultList.shows
  rwa [h]

/-- A source lost to the fallback, up to the end of its event: the fallback rule's source, and INDEX_LOST shown. -/
theorem lost_finishPressure {s before : State} (h : s.timed) {n : Fin 48}
    (hj : s.judgeSource before.pressure.ref = s.loseSource (some n)) :
    (s.finishPressure before).pressure.source = s.fallbackSource ∧
      (s.faults.records .indexLost n.val → (s.finishPressure before).faults.shows .indexLost n.val) := by
  obtain ⟨hs, he⟩ := finishPressure_of_timed h before
  rw [hj] at hs he
  rw [pressure_loseSource] at hs
  exact ⟨hs, fun hr => shows_of_entries he ((faults_loseSource s (some n)).2.1 n rfl hr)⟩

/-- A secondary taken as the source, up to the end of its event: no INDEX_LOST entry stays active. -/
theorem locked_finishPressure {s before : State} (h : s.timed)
    (hj : s.judgeSource before.pressure.ref = s.lock .secondary) :
    (s.finishPressure before).pressure.source = .secondary ∧
      ∀ x, (s.finishPressure before).faults.quiet .indexLost x := by
  obtain ⟨hs, he⟩ := finishPressure_of_timed h before
  rw [hj] at hs he
  exact ⟨hs, fun x => quiet_of_entries he (quiet_lock s _ x)⟩

/-- The end of an event in which the primary is lost as the source (R159, R164). -/
theorem primary_lost_finishPressure {s before : State} {n : Fin 48} (hs : s.pressure.source = .primary)
    (hp : s.primaryValid = false) (hn : before.pressure.ref.primary = some n) :
    let t := s.finishPressure before
    (s.pressure.ref.autoSwitch = true → s.secondaryValid = true →
      t.pressure.source = .secondary ∧ ∀ x, t.faults.quiet .indexLost x) ∧
    (s.pressure.ref.autoSwitch = false ∨ s.secondaryValid = false →
      t.pressure.source = s.fallbackSource ∧ (s.faults.records .indexLost n.val → t.faults.shows .indexLost n.val)) := by
  have hj := judgeSource_primary_lost before.pressure.ref hs hp
  refine ⟨fun ha hq => ?_, fun h => ?_⟩
  · rw [if_pos ⟨ha, hq⟩] at hj
    exact locked_finishPressure (.inl hp) hj
  · have hno : ¬ (s.pressure.ref.autoSwitch = true ∧ s.secondaryValid = true) := by
      rintro ⟨ha, hq⟩
      simp [ha, hq] at h
    rw [if_neg hno, hn] at hj
    exact lost_finishPressure (.inl hp) hj

/-- The end of an event in which the secondary is lost as the source (R160, R164). -/
theorem secondary_lost_finishPressure {s before : State} {n : Fin 48} (ht : s.timed) (hs : s.pressure.source = .secondary)
    (hq : s.secondaryValid = false) (hn : before.pressure.ref.secondary = some n) :
    (s.finishPressure before).pressure.source = s.fallbackSource ∧
      (s.faults.records .indexLost n.val → (s.finishPressure before).faults.shows .indexLost n.val) :=
  lost_finishPressure ht ((judgeSource_secondary_lost before.pressure.ref hs hq).trans (congrArg _ hn))

/-- The source at the end of an event that finds it PLANT or HOLD (R161). -/
theorem resting_finishPressure {s before : State} (ht : s.timed)
    (hs : s.pressure.source = .plant ∨ s.pressure.source = .hold) :
    (s.finishPressure before).pressure.source =
      if s.pressure.ref.autoSwitch = true ∧ s.primaryValid = false ∧ s.secondaryValid = true then .secondary
      else s.fallbackSource := by
  rw [(finishPressure_of_timed ht before).1, judgeSource_resting _ hs]
  exact apply_ite (fun v : State => v.pressure.source) _ _ _

/-- With no secondary to promote, an event that finds the source PLANT or HOLD leaves the entries alone. -/
theorem entries_resting_finishPressure {s before : State} (ht : s.timed)
    (hs : s.pressure.source = .plant ∨ s.pressure.source = .hold)
    (hn : ¬ (s.pressure.ref.autoSwitch = true ∧ s.primaryValid = false ∧ s.secondaryValid = true)) :
    (s.finishPressure before).faults.entries = s.faults.entries := by
  rw [(finishPressure_of_timed ht before).2, judgeSource_resting _ hs, if_neg hn]
  rfl

/-! ### A pressure that goes stale (R158) -/

/-- A pressure whose age has passed the freshness setting is not fresh. -/
theorem dpFresh_past (f : Nat) (d : Option DpReading) : dpFresh f (d.map (DpReading.past f)) = false := by
  cases d with
  | none => rfl
  | some d =>
    refine decide_eq_false fun (h : max d.age (f + 1) ≤ f) => ?_
    omega

/-- The state with a station's index DP aged past the freshness setting. -/
def State.indexAged (s : State) (n : Fin 48) : State :=
  s.setStn n { s.stn n with indexDp := (s.stn n).indexDp.map (DpReading.past s.pressure.ref.freshness) }

/-- The state with the plant DP aged past the freshness setting. -/
def State.plantAged (s : State) : State := { s with plantDp := s.plantDp.map (DpReading.past s.pressure.ref.freshness) }

/-- The age of a candidate's index DP passes the freshness setting: the source is judged over the aged record. -/
theorem exec_indexDpStale {s : State} {n : Fin 48} (hp : s.powered = true)
    (h : s.pressure.ref.primary = some n ∨ s.pressure.ref.secondary = some n) :
    exec (.indexDpStale n) s = .next ((s.indexAged n).finishPressure s) :=
  (exec_on (·.indexDpStale n) rfl hp).trans (congrArg _ (if_pos h))

theorem kept_indexAged {s : State} {n : Fin 48} {d : DpReading} (hd : (s.stn n).indexDp = some d) :
    ((s.indexAged n).finishPressure s).kept = s.kept.withStation n
      { s.stn n with indexDp := some { d with age := max d.age (s.pressure.ref.freshness + 1) } } := by
  rw [kept_finishPressure, State.indexAged, hd]
  exact kept_setStn_with s n _

theorem kept_plantAged {s : State} {d : DpReading} (hd : s.plantDp = some d) :
    (s.plantAged.finishPressure s).kept =
      { s.kept with plantDp := some { d with age := max d.age (s.pressure.ref.freshness + 1) } } := by
  rw [kept_finishPressure, State.plantAged, hd]
  rfl

theorem candidateValid_indexAged (s : State) (n : Fin 48) : (s.indexAged n).candidateValid (some n) = false := by
  have hdp : ((s.indexAged n).stn n).indexDp = (s.stn n).indexDp.map (DpReading.past s.pressure.ref.freshness) :=
    congrArg Station.indexDp (stn_setStn_same s n _)
  have hf : dpFresh (s.indexAged n).pressure.ref.freshness ((s.indexAged n).stn n).indexDp = false := by
    rw [hdp]
    exact dpFresh_past _ _
  simp only [State.candidateValid, hf, Bool.and_false]

/-- A candidate that is not valid does not become so where an index DP goes stale. -/
theorem candidateValid_indexAged_of_invalid {s : State} {c : Option (Fin 48)} (h : s.candidateValid c = false) (n : Fin 48) :
    (s.indexAged n).candidateValid c = false := by
  cases c with
  | none => rfl
  | some m =>
    by_cases hm : m = n
    · rw [hm]
      exact candidateValid_indexAged s n
    · have hstn : (s.indexAged n).stn m = s.stn m := stn_setStn_ne s hm _
      rw [← h]
      simp only [State.candidateValid, hstn]
      rfl

theorem timed_indexAged {s : State} (h : s.timed) (n : Fin 48) : (s.indexAged n).timed :=
  h.imp (fun h => candidateValid_indexAged_of_invalid h n) id

theorem plantDpFresh_of_unjudged {s t : State} (h : t.unjudged = s.unjudged) : t.plantDpFresh = s.plantDpFresh :=
  (congrArg State.plantDpFresh h :)

theorem candidateValid_of_unjudged {s t : State} (h : t.unjudged = s.unjudged) (c : Option (Fin 48)) :
    t.candidateValid c = s.candidateValid c := (congrArg (fun s => s.candidateValid c) h :)

theorem plantDpFresh_plantAged (s : State) : s.plantAged.plantDpFresh = false := dpFresh_past _ _

theorem fallbackSource_plantAged (s : State) : s.plantAged.fallbackSource = .hold :=
  if_neg fun h => Bool.false_ne_true ((plantDpFresh_plantAged s).symm.trans h.2)

/-! ### The revert timer runs out (R162) -/

/-- A revert timer that runs out while the primary is valid locks the source to PRIMARY, and stands still. -/
theorem revertExpiry_eq {s : State} (ht : s.pressure.revertTimer ≠ none) (hv : s.primaryValid = true) :
    s.revertExpiry = (((s.setRevert none).lock .primary).setRevert none).judgeRelay := by
  have hp : ((s.setRevert none).lock .primary).primaryValid = true :=
    (primaryValid_of_unjudged (unjudged_lock (s.setRevert none) .primary)).trans hv
  have hj : ((s.setRevert none).lock .primary).judgeSource s.pressure.ref = (s.setRevert none).lock .primary := if_pos hp
  rw [State.revertExpiry, if_pos (Option.isSome_iff_ne_none.mpr ht), State.finishPressure, State.judgePressure, hj]
  exact congrArg State.judgeRelay (if_pos (.inl rfl))

/-- The source is PRIMARY from then on, the timer stands still, and no INDEX_LOST entry stays active (R162, R164). -/
theorem reverted {s : State} (ht : s.pressure.revertTimer ≠ none) (hv : s.primaryValid = true) :
    s.revertExpiry.pressure.source = .primary ∧ s.revertExpiry.pressure.revertTimer = none ∧
      ∀ x, s.revertExpiry.faults.quiet .indexLost x := by
  rw [revertExpiry_eq ht hv]
  exact ⟨rfl, rfl, quiet_lock (s.setRevert none) .primary⟩

/-- Settles O53: each pressure aged and the source judged, and the revert timer's end. -/
theorem pressureTimersRunOut : Obligations.PressureTimersRunOut := by
  intro s hp auto rests timed
  refine ⟨fun n d hd hc => ?_, fun d hd => ?_, fun ht hv => ?_⟩
  · have hexec := exec_indexDpStale hp hc
    have hk := kept_indexAged hd
    have hu := unjudged_finishPressure (s.indexAged n) s
    have hinv := candidateValid_indexAged s n
    have hlaw := sourceLawful_finishPressure (s.indexAged n) s
    have hprimary := primary_lost_finishPressure (s := s.indexAged n) (before := s) (n := n)
    have hsecondary := secondary_lost_finishPressure (s := s.indexAged n) (before := s) (n := n)
    have hresting := resting_finishPressure (s := s.indexAged n) (before := s)
    generalize (s.indexAged n).finishPressure s = t at hexec hk hu hlaw hprimary hsecondary hresting
    obtain ⟨hbus, hbranches⟩ := busSent_of_unjudged hu
    have hpv : t.primaryValid = (s.indexAged n).primaryValid := primaryValid_of_unjudged hu
    have hsv : t.secondaryValid = (s.indexAged n).secondaryValid := secondaryValid_of_unjudged hu
    have hstale (c : Option (Fin 48)) (h : c = some n) : (s.indexAged n).candidateValid c = false := h ▸ hinv
    refine ⟨t, hexec, hk, (candidateValid_of_unjudged hu _).trans hinv, hbranches, hbus, fun h e => ?_,
      fun h e => ?_, fun hs h => ?_, fun hs h ht => ?_, fun hs ht => ?_⟩
    · exact Bool.false_ne_true ((hstale _ h).symm.trans (hpv.symm.trans (hlaw.1 e)))
    · exact Bool.false_ne_true ((hstale _ h).symm.trans (hsv.symm.trans (hlaw.2 e)))
    · rw [hsv]
      exact hprimary hs (hstale _ h) h
    · exact hsecondary (timed_indexAged ht n) hs (hstale _ h) h
    · rw [hpv, hsv]
      exact hresting (timed_indexAged ht n) hs
  · have hexec : exec .plantDpStale s = .next (s.plantAged.finishPressure s) := exec_on (·.plantDpStale) rfl hp
    have hk := kept_plantAged hd
    have hu := unjudged_finishPressure s.plantAged s
    have hplant := source_finishPressure_ne_plant (plantDpFresh_plantAged s) s
    have hresting := resting_finishPressure (s := s.plantAged) (before := s)
    have hentries := entries_resting_finishPressure (s := s.plantAged) (before := s)
    have hfresh := plantDpFresh_of_unjudged hu
    generalize s.plantAged.finishPressure s = t at hexec hk hu hplant hresting hentries hfresh
    obtain ⟨hbus, hbranches⟩ := busSent_of_unjudged hu
    refine ⟨t, hexec, hk, hfresh.trans (plantDpFresh_plantAged s), hplant, fun hs ht => ?_, (congrArg State.stations hu :),
      hbranches, hbus⟩
    split
    · next hq => exact (hresting ht hs).trans (if_pos hq)
    · next hq => exact ⟨((hresting ht hs).trans (if_neg hq)).trans (fallbackSource_plantAged s), hentries ht hs hq⟩
  · have hexec : exec .revertExpiry s = .next s.revertExpiry := exec_on (·.revertExpiry) rfl hp
    have hk : s.revertExpiry.kept = s.kept := by
      rw [revertExpiry_eq ht hv, kept_judgeRelay, kept_setRevert, kept_lock, kept_setRevert]
    have hu : s.revertExpiry.unjudged = s.unjudged := by
      rw [revertExpiry_eq ht hv, unjudged_judgeRelay, unjudged_setRevert, unjudged_lock, unjudged_setRevert]
    obtain ⟨hs, hr, hq⟩ := reverted ht hv
    generalize s.revertExpiry = t at hexec hk hu hs hr hq
    obtain ⟨hbus, hbranches⟩ := busSent_of_unjudged hu
    exact ⟨t, hexec, hk, hs, hr, hq, (congrArg State.stations hu :), hbranches, hbus⟩

end Sys2Proof.Machine
end

section
/-!
SUPPORT. The law of the fault list (R170) through the operations of Section 10, and what an event carries of it and of the relay's contact
(R175): an operation that is no fault's leaves both alone, and the end of an event judges the contact afresh.
-/

namespace Sys2Proof.Machine

/-! ### The law of the fault list (R170) -/

/-- What tells the entries of a fault list apart: kind and subject (R170). -/
def FaultEntry.key (e : FaultEntry) : FaultKind × Nat := (e.kind, e.subject)

/-- The kinds and subjects of a fault list, in its order. -/
def FaultList.keys (l : FaultList) : List (FaultKind × Nat) := l.entries.map FaultEntry.key

theorem lawful_iff_keys (l : FaultList) : l.lawful ↔ l.keys.length ≤ 32 ∧ l.keys.Nodup := by
  simp [FaultList.lawful, FaultList.keys, FaultEntry.key, List.Nodup, List.pairwise_map]

/-- Entries that go leave the list lawful, and so does a change of what tells none apart. -/
theorem FaultList.lawful.of_sublist {l l' : FaultList} (h : l.lawful) (hk : l'.keys.Sublist l.keys) : l'.lawful := by
  rw [lawful_iff_keys] at h ⊢
  exact ⟨hk.length_le.trans h.1, h.2.sublist hk⟩

/-- Where each entry either goes or keeps its kind and subject, the keys are some of those before, in their order. -/
theorem keys_filterMap_sublist {f : FaultEntry → Option FaultEntry} (hf : ∀ e d, f e = some d → d.key = e.key)
    (l : List FaultEntry) : ((l.filterMap f).map FaultEntry.key).Sublist (l.map FaultEntry.key) := by
  induction l with
  | nil => exact .refl _
  | cons e l ih =>
    rw [List.filterMap_cons, List.map_cons]
    split
    · exact ih.cons _
    · next d hd =>
      rw [List.map_cons, hf e d hd]
      exact ih.cons_cons _

theorem lawful_endActive {l : FaultList} (h : l.lawful) (p : FaultEntry → Bool) : (l.endActive p).lawful := by
  refine h.of_sublist (keys_filterMap_sublist (fun e d hd => ?_) l.entries)
  repeat' split at hd
  all_goals cases hd
  all_goals rfl

theorem lawful_ack {l : FaultList} (h : l.lawful) (p : FaultEntry → Bool) : (l.ack p).lawful := by
  refine h.of_sublist (keys_filterMap_sublist (fun e d hd => ?_) l.entries)
  repeat' split at hd
  all_goals cases hd
  all_goals rfl

theorem keys_countAgain (l : FaultList) (k : FaultKind) (x : Nat) : (l.countAgain k x).keys = l.keys := by
  unfold FaultList.countAgain FaultList.keys
  rw [List.map_map]
  refine List.map_congr_left fun e _ => ?_
  rw [Function.comp_apply]
  split <;> rfl

/-- An entry is appended where none of its kind and subject stands and a place is free (R171). -/
theorem lawful_append {l : FaultList} (h : l.lawful) {k : FaultKind} {x : Nat} (hx : ¬ l.holds k x = true)
    (hroom : l.entries.length < 32) (clock : Option Nat) : (l.append (.first k x clock)).lawful := by
  have hnew : (k, x) ∉ l.keys := fun hmem => by
    obtain ⟨e, he, hk⟩ := List.mem_map.mp hmem
    exact hx ((holds_iff l k x).mpr ⟨e, he, congrArg Prod.fst hk, congrArg Prod.snd hk⟩)
  have hkeys : (l.append (.first k x clock)).keys = l.keys ++ [(k, x)] := List.map_append
  have hlength : l.keys.length = l.entries.length := List.length_map _
  rw [lawful_iff_keys, hkeys, List.length_append, List.length_singleton, hlength]
  exact ⟨hroom, List.concat_eq_append ▸ ((lawful_iff_keys l).mp h).2.concat hnew⟩

/-- A raise counts in the entry of its kind and subject, appends one where there is none, or is an overflow (R171). -/
theorem lawful_raise {s : State} (h : s.faults.lawful) (k : FaultKind) (x : Nat) : (s.raise k x).faults.lawful := by
  rw [faults_raise]
  split
  · exact h.of_sublist (by rw [keys_countAgain])
  · next hx =>
    split
    · next hroom => exact lawful_append h hx hroom s.clock
    · exact h

theorem settled_lawful : FaultList.Settled FaultList.lawful where
  raised _ k x _ h := lawful_raise h k x
  ended _ h := lawful_endActive h _
  relay _ _ h := h

/-! ### What an event carries of the two laws -/

/-- The relay's contact of a powered card, where R175 has it. -/
def FaultList.judged (l : FaultList) : Prop := l.relayClosed = l.alarm

theorem relayLawful_iff_judged {s : State} (h : s.powered = true) : s.relayLawful ↔ s.faults.judged := by
  rw [State.relayLawful, h, Bool.true_and, FaultList.judged]

theorem judged_judgeRelay (s : State) : s.judgeRelay.faults.judged := rfl

/-- What of the state the laws of the fault list and of the relay look at. -/
def State.panel (s : State) : Bool × FaultList := (s.powered, s.faults)

/-- What an event has kept before its end: the power, and the law of the fault list. -/
structure FaultsCarried (s t : State) : Prop where
  powered : t.powered = s.powered
  lawful : s.faults.lawful → t.faults.lawful

/-- What an event on a powered card keeps: the law of the fault list, and the relay's contact where R175 has it. -/
structure FaultsKept (s t : State) : Prop extends FaultsCarried s t where
  relay : s.faults.judged → t.faults.judged

/-- An event that is of no fault. -/
theorem FaultsKept.quiet {s t : State} (h : t.panel = s.panel) : FaultsKept s t := by
  obtain ⟨hp, hf⟩ := Prod.mk.inj h
  exact ⟨⟨hp, hf ▸ id⟩, hf ▸ id⟩

theorem FaultsCarried.of_panel {s t : State} (h : t.panel = s.panel) : FaultsCarried s t := (FaultsKept.quiet h).toFaultsCarried

theorem FaultsCarried.refl (s : State) : FaultsCarried s s := .of_panel rfl

theorem FaultsCarried.trans {s t u : State} (h : FaultsCarried s t) (k : FaultsCarried t u) : FaultsCarried s u :=
  ⟨k.powered.trans h.powered, k.lawful ∘ h.lawful⟩

theorem FaultsKept.trans {s t u : State} (h : FaultsKept s t) (k : FaultsKept t u) : FaultsKept s u :=
  ⟨h.toFaultsCarried.trans k.toFaultsCarried, k.relay ∘ h.relay⟩

/-- An event that begins from the same fault list. -/
theorem FaultsKept.from {s u t : State} (h : FaultsKept u t) (hu : u.panel = s.panel) : FaultsKept s t := (quiet hu).trans h

/-! ### Faults raised and ended, and the end of an event -/

section
variable {s t : State} (h : FaultsCarried s t)
include h

theorem FaultsCarried.raise (k : FaultKind) (x : Nat) : FaultsCarried s (t.raise k x) :=
  ⟨(congrArg Kept.powered (kept_raise t k x) :).trans h.powered, fun hl => lawful_raise (h.lawful hl) k x⟩

theorem FaultsCarried.endCondition (k : FaultKind) (x : Nat) : FaultsCarried s (t.endCondition k x) :=
  ⟨h.powered, fun hl => lawful_endActive (h.lawful hl) _⟩

theorem FaultsCarried.endSilence (a : Fin 11) : FaultsCarried s (t.endSilence a) :=
  (h.trans (.of_panel rfl) : FaultsCarried s (t.setWatch a ⟨false, 0⟩)).endCondition _ _

/-- The relay is judged at the end of an event (R175). -/
theorem FaultsCarried.judgeRelay : FaultsKept s t.judgeRelay := ⟨⟨h.powered, h.lawful⟩, fun _ => judged_judgeRelay t⟩

theorem FaultsCarried.judgePressure (was : RefSettings) : FaultsCarried s (t.judgePressure was) :=
  ⟨(congrArg Kept.powered (kept_judgePressure t was) :).trans h.powered, fun hl => settled_lawful.judgePressure (h.lawful hl) was⟩

theorem FaultsCarried.settle (before : State) (c r : Bool) : FaultsKept s (t.settle before c r) :=
  ⟨⟨(congrArg Kept.powered (kept_settle t before c r) :).trans h.powered, fun hl => settled_lawful.settle (h.lawful hl) before c r⟩,
    fun _ => judged_judgeRelay _⟩

theorem FaultsCarried.finishPressure (before : State) : FaultsKept s (t.finishPressure before) :=
  (h.judgePressure before.pressure.ref).judgeRelay

end

section
variable {s : State} {e : Event} (h : FaultsCarried s e.st)
include h

theorem FaultsCarried.allocate : FaultsCarried s (Machine.allocate e) :=
  ⟨(congrArg Kept.powered (kept_allocate e) :).trans h.powered, fun hl => settled_lawful.allocate (h.lawful hl)⟩

theorem FaultsCarried.finish (before : State) : FaultsKept s (e.finish before) := h.allocate.settle before _ _

end

/-- An event in which A is worked out again (R39). -/
theorem FaultsCarried.recapped {s v : State} (h : FaultsCarried s v) (before : State) :
    FaultsKept s (v.event.recapacity.finish before) :=
  FaultsCarried.finish (e := v.event.recapacity) (h.trans (.of_panel rfl)) before

/-! ### Operations that are of no fault -/

theorem panel_of_ungranted {s t : State} (h : t.ungranted = s.ungranted) : t.panel = s.panel := (congrArg State.panel h :)

theorem panel_of_unsent {s t : State} (h : t.unsent = s.unsent) : t.panel = s.panel := (congrArg State.panel h :)

theorem panel_of_unstored {s t : State} (h : t.unstored = s.unstored) : t.panel = s.panel := (congrArg State.panel h :)

section
variable (s : State) (b : Fin 6) (n : Fin 48)

theorem panel_release (k : Nat) : (s.release n k).panel = s.panel := panel_of_ungranted (ungranted_release s n k)

theorem panel_notify (x : Notice) : (s.notify x).panel = s.panel := rfl

theorem panel_setStn (r : Station) : (s.setStn n r).panel = s.panel := rfl

theorem panel_detach : (s.detach n).panel = s.panel := rfl

theorem panel_appendEntry (g f d : Nat) : (s.appendEntry b n g f d).panel = s.panel :=
  panel_of_ungranted (ungranted_appendEntry s b n g f d)

theorem panel_judgeOffering : (s.judgeOffering b).panel = s.panel := by
  unfold State.judgeOffering
  split <;> rfl

theorem panel_judgeOfferingOf : (s.judgeOfferingOf n).panel = s.panel := by
  unfold State.judgeOfferingOf
  split
  · exact panel_judgeOffering s _
  · rfl

theorem panel_standings (l : List (Fin 48)) (x : Standing) : (l.foldl (fun s n => s.setStanding n x) s).panel = s.panel :=
  foldl_keeps State.panel (fun s n => s.setStanding n x) (fun _ _ => rfl) l s

theorem panel_enterOffering : (s.enterOffering b).panel = s.panel := by
  unfold State.enterOffering
  extract_lets act v w x
  have hreleased : w.panel = s.panel := foldl_keeps State.panel _ (fun s n => panel_release s n 0) act v
  exact (panel_judgeOffering x b).trans ((panel_standings w act .offerOwed).trans hreleased)

theorem panel_enterWaking : (s.enterWaking b).panel = s.panel := panel_standings (s.startWaking b) _ .wakeOwed

theorem panel_wakeReason : (s.wakeReason b).panel = s.panel := by
  unfold State.wakeReason
  split
  · exact panel_enterWaking s b
  · rfl

theorem panel_endRotation : (s.endRotation b).panel = s.panel := panel_of_unsent (endRotation_arbitrated s b).unsent

theorem panel_endRead (o : MeterOutcome) : (s.endRead b n o).panel = s.panel := by
  unfold State.endRead
  repeat' split
  all_goals rfl

theorem panel_endReads (o : MeterOutcome) : (s.endReads n o).panel = s.panel :=
  foldl_keeps State.panel _ (fun s b => panel_endRead s b n o) allBranches s

theorem panel_takeOff (o : MeterOutcome) (r : Station) : (s.takeOff n o r).panel = s.panel := by
  rw [State.takeOff, panel_setStn, panel_endReads, panel_detach]

theorem panel_confirmCap : (s.confirmCap b n).panel = s.panel := by
  unfold State.confirmCap
  split
  · next e rest _ =>
    split
    · next f _ =>
      split
      · next hn =>
        subst hn
        dsimp only
        split
        · exact panel_appendEntry (s.headAcked b e f rest) b e.station _ _ _
        · rfl
      · rfl
    · rfl
  · rfl

theorem panel_missKind (x : Txn) : (s.missKind b x).panel = s.panel := by
  rcases missKind_cases s b x with e | ⟨rest, -, -, e⟩ | e <;> rw [e]
  · unfold State.requeue
    split <;> rfl
  · rcases missMeter_cases s b x.station with e | ⟨r, e⟩ | e <;> rw [e]
    · rfl
    · exact panel_endRead s b _ _

theorem panel_closeSession (r : Request) (reply : Reply) : (s.closeSession r reply).panel = s.panel := by
  unfold State.closeSession
  split <;> rfl

end

theorem panel_recompute (e : Event) (n : Fin 48) : (e.recompute n).st.panel = e.st.panel := by
  unfold Event.recompute
  rw [callPass_st]
  dsimp only
  split
  · exact (panel_of_ungranted (ungranted_handGrant _ n)).trans (rfl : (e.st.updStn n _).panel = e.st.panel)
  · rfl

theorem panel_recomputeAll (e : Event) : e.recomputeAll.st.panel = e.st.panel :=
  foldl_keeps (fun e : Event => e.st.panel) _ (fun e n => by
    unfold Event.recomputeExact
    split
    · exact panel_recompute e n
    · rfl) allStations e

theorem panel_recomputeDeadband (e : Event) (n : Fin 48) : (e.recomputeDeadband n).st.panel = e.st.panel := by
  rcases recomputeDeadband_cases n e with ⟨-, h⟩ | ⟨-, h⟩ <;> rw [h]
  exact panel_recompute e n

end Sys2Proof.Machine
end

section
/-!
SUPPORT. The laws of the fault list and of the relay (R170, R175) through the host's requests and the supervisory link.
-/

namespace Sys2Proof.Machine

/-! ### The plant's records (R26, R28, R36) -/

section
variable {s t : State} (h : FaultsCarried s t)
include h

theorem FaultsCarried.judgeStorage (soc : Nat) : FaultsCarried s (t.judgeStorage soc) := by
  have hset (on : Bool) : FaultsCarried s { t with tank := { t.tank with enabled := on } } := h.trans (.of_panel rfl)
  have henable (on : Bool) : FaultsCarried s (t.enableStorage on) := by
    unfold State.enableStorage
    dsimp only
    split
    · exact (hset false).raise _ _
    · exact (hset true).endCondition _ _
    · exact hset true
    · exact hset false
  exact henable _

/-- The first state of charge after none ends STORAGE_RESERVE or raises it, by the reserves (R36). -/
theorem FaultsCarried.firstStorage (soc : Nat) : FaultsCarried s (t.firstStorage soc) := by
  have hset (on : Bool) : FaultsCarried s { t with tank := { t.tank with enabled := on } } := h.trans (.of_panel rfl)
  unfold State.firstStorage
  dsimp only
  split
  · split
    · exact ((hset _).endCondition _ _).raise _ _
    · exact (hset _).raise _ _
  · split
    · exact (hset _).endCondition _ _
    · exact hset _

theorem FaultsCarried.refitTank (old : Nat) : FaultsCarried s (t.refitTank old) := by
  have htank (k : Tank) (c : Option TankCommand) : FaultsCarried s { t with tank := k, lastTankCommand := c } :=
    h.trans (.of_panel rfl)
  unfold State.refitTank
  split
  · split
    · exact h
    · exact ((htank _ _).endCondition _ _).endSilence _
  split
  · exact (htank _ _).endSilence _
  split
  · exact (htank _ _).judgeStorage _
  · exact h

theorem FaultsCarried.defineChiller (u : Fin 8) (c : ChillerSettings) : FaultsCarried s (t.defineChiller u c) := by
  have hset (d : Chiller) : FaultsCarried s (t.setChiller u d) := h.trans (.of_panel rfl)
  unfold State.defineChiller
  dsimp only
  split
  · rw [setChiller_setChiller]
    exact (hset _).endSilence _
  split
  · exact (hset _).endSilence _
  · exact hset _

end

section
variable (s : State)

/-! ### Requests of the plant, the schedule and the pressures -/

theorem faultsKept_onClock (tod : Nat) : FaultsKept s (s.onClock tod).1 := by
  unfold State.onClock State.setClock
  split
  · exact .quiet rfl
  · dsimp only
    split
    · exact .quiet rfl
    · exact FaultsCarried.recapped (s := s) (v := { s with clock := some tod }) (.of_panel rfl) s

theorem faultsKept_onChDef (f : ChDefFields) : FaultsKept s (s.onChDef f).1 := by
  unfold State.onChDef
  split
  · split
    · exact ((FaultsCarried.refl s).defineChiller _ _).recapped s
    · exact .quiet rfl
  · exact .quiet rfl

theorem faultsKept_onChCmd (unit command : Nat) : FaultsKept s (s.onChCmd unit command).1 := by
  unfold State.onChCmd
  split
  · unfold State.chillerStart
    dsimp only
    repeat' split
    all_goals exact .quiet rfl
  · unfold State.chillerStop
    dsimp only
    split
    · split
      · exact FaultsCarried.recapped (s := s) (v := s.stopChiller _) (.of_panel rfl) s
      · exact .quiet rfl
    all_goals exact .quiet rfl
  · exact .quiet rfl

theorem faultsKept_onPlantDef (p : PlantSettings) : FaultsKept s (s.onPlantDef p).1 := by
  cases hr : p.inRange with
  | false =>
    rw [onPlantDef_refused s hr]
    exact .quiet rfl
  | true =>
    have hplanted : FaultsCarried s (s.replanted p) :=
      FaultsCarried.refitTank (s := s) (t := { s with plant := p }) (.of_panel rfl) s.plant.tankCapacity
    have hfit : FaultsCarried s (s.replanted p).event.recapacity.st := hplanted.trans (.of_panel rfl)
    have hrecomputed : FaultsCarried s (s.recomputedPlant p).st := by
      unfold State.recomputedPlant
      split
      · exact hfit
      · exact hfit.trans (.of_panel (panel_recomputeAll _))
    rw [onPlantDef_accepted s hr, applyPlant_eq]
    exact FaultsCarried.finish (e := (s.recomputedPlant p).callPass _) (by rw [callPass_st]; exact hrecomputed) s

theorem faultsKept_onSchedWin (first last : Nat) : FaultsKept s (s.onSchedWin first last).1 := by
  unfold State.onSchedWin
  split <;> exact .quiet rfl

theorem faultsKept_onSchedData (flag : Nat) (records : List SlotFields) : FaultsKept s (s.onSchedData flag records).1 := by
  have hload (l : LoadSession) (start : Nat) (w : LoadWork) : FaultsKept s (s.loadEnd l start w) := by
    unfold State.loadEnd
    split
    · have hloaded : FaultsCarried s (s.withLoad l w).event.recapacity.st := .of_panel rfl
      exact hloaded.allocate.settle s true false
    · exact .quiet rfl
  unfold State.onSchedData
  split
  · exact .quiet rfl
  split
  · exact .quiet rfl
  split
  · exact .quiet rfl
  · rw [loadSlots_eq]
    exact hload _ _ _

theorem faultsKept_onRefDef (f : RefDefFields) : FaultsKept s (s.onRefDef f).1 := by
  unfold State.onRefDef
  split
  · next r _ => exact FaultsCarried.finishPressure (s := s) (t := s.setRef r) (.of_panel rfl) s
  · exact .quiet rfl

theorem faultsKept_onPumpDef (p : PumpSettings) : FaultsKept s (s.onPumpDef p).1 := by
  unfold State.onPumpDef State.setPump
  dsimp only
  repeat' split
  all_goals exact .quiet rfl

/-! ### Requests of the stations and the branches -/

theorem faultsKept_onStnDef (f : StnDefFields) : FaultsKept s (s.onStnDef f).1 := by
  have hredefined (n : Fin 48) (h : HostFields) : (s.event.redefine n h).st.panel = s.panel := by
    have hwoken : (s.rewoken n h).panel = s.panel := by
      have hclass : (s.reclassed n h).panel = s.panel := by
        unfold State.reclassed
        split <;> rfl
      unfold State.rewoken State.restLost
      repeat' split
      · exact (panel_wakeReason _ _).trans hclass
      · exact hclass
      · exact hclass
    have hreleased : ((s.rewoken n h).release n h.contractKw).panel = s.panel := (panel_release _ n _).trans hwoken
    unfold Event.redefine
    extract_lets old new e1 e2 e3 e4
    split
    · exact (panel_recomputeAll e4).trans hreleased
    · exact hreleased
  unfold State.onStnDef
  split
  · next n h _ _ =>
    dsimp only
    split
    · exact FaultsCarried.finish (s := s) (e := ⟨s.setStn n (.define h (rangeHolds s.isolation n.val)), false⟩) (.of_panel rfl) s
    · exact (FaultsCarried.of_panel (hredefined n h)).finish s
  · exact .quiet rfl

theorem faultsKept_onStnDrop (station : Nat) : FaultsKept s (s.onStnDrop station).1 := by
  unfold State.onStnDrop
  split
  · next n _ =>
    split
    · exact .quiet rfl
    · have hdropped : (s.event.drop n).st.panel = s.panel := by
        rw [drop_st, panel_judgeOfferingOf, panel_takeOff]
      exact (FaultsCarried.of_panel hdropped).finish s
  · exact .quiet rfl

theorem panel_isolateStation (old new : Option Range) (e : Event) (n : Fin 48) :
    (e.isolateStation old new n).st.panel = e.st.panel := by
  rcases isolateStation_cases old new e n with ⟨-, h⟩ | ⟨-, h⟩ <;> rw [h]
  · exact (panel_judgeOfferingOf _ n).trans (panel_takeOff _ n _ _)
  · rfl

theorem faultsKept_onIsolate (base limit : Nat) : FaultsKept s (s.onIsolate base limit).1 := by
  unfold State.onIsolate
  split
  · next new _ =>
    split
    · exact .quiet rfl
    · have hisolated : (s.event.setIsolation new).st.panel = s.panel :=
        foldl_keeps (fun e : Event => e.st.panel) _ (panel_isolateStation s.isolation new) allStations
          ({ s with isolation := new } : State).event
      exact (FaultsCarried.of_panel hisolated).finish s
  · exact .quiet rfl

theorem panel_moveWindow (e : Event) (n : Fin 48) : (e.moveWindow n).st.panel = e.st.panel := by
  unfold Event.moveWindow
  split
  · rw [returnToSeeking_st, panel_setStn, map_st, panel_detach]
  · rfl

theorem faultsKept_onBrDef (f : BrDefFields) : FaultsKept s (s.onBrDef f).1 := by
  have happlied (b : Fin 6) (c : BranchSettings) : (s.event.applyBranch b c).st.panel = s.panel := by
    by_cases hw : (s.br b).settings.window = c.window
    · rw [applyBranch_same s b c hw]
      rfl
    · rw [applyBranch_moves s b c hw]
      exact foldl_keeps (fun e : Event => e.st.panel) _ panel_moveWindow _ _
  unfold State.onBrDef
  repeat' split
  case h_1.isFalse.isFalse.isFalse => exact (FaultsCarried.of_panel (happlied _ _)).finish s
  all_goals exact .quiet rfl

theorem faultsKept_onBrRest (branch : Nat) : FaultsKept s (s.onBrRest branch).1 := by
  unfold State.onBrRest
  repeat' split
  case h_4.isTrue => exact FaultsCarried.finish (e := (s.enterOffering _).event) (.of_panel (panel_enterOffering s _)) s
  all_goals exact .quiet rfl

theorem faultsKept_onBrWake (branch : Nat) : FaultsKept s (s.onBrWake branch).1 := by
  have hwake (b : Fin 6) : FaultsKept s ((s.enterWaking b).settle s false false) :=
    (FaultsCarried.of_panel (panel_enterWaking s b)).settle s false false
  unfold State.onBrWake
  split
  · exact .quiet rfl
  split
  · exact .quiet rfl
  split
  · exact hwake _
  · exact hwake _
  · exact .quiet rfl
  · exact .quiet rfl

theorem faultsKept_onMeter (tag station : Nat) : FaultsKept s (s.onMeter tag station).1 := by
  unfold State.onMeter
  repeat' split
  case isFalse => exact (FaultsCarried.of_panel (s := s) (t := s.updBr _ _) rfl).settle s false false
  all_goals exact .quiet rfl

/-! ### FAULT-ACK and FAULT-MASK (R173, R174) -/

theorem faultsKept_onFaultAck (kind subject : Nat) : FaultsKept s (s.onFaultAck kind subject).1 := by
  have hacked (l : FaultList) (hl : s.faults.lawful → l.lawful) : FaultsKept s { s with faults := l }.judgeRelay :=
    FaultsCarried.judgeRelay ⟨rfl, hl⟩
  unfold State.onFaultAck
  split
  · exact hacked _ fun h => lawful_ack h _
  split
  · exact hacked _ fun h => lawful_ack h _
  · exact .quiet rfl

theorem faultsKept_onFaultMask (mask : Nat) : FaultsKept s (s.onFaultMask mask).1 := by
  have hmasked (m : BitVec 10) : FaultsCarried s { s with faults := { s.faults with mask := m } } := ⟨rfl, id⟩
  unfold State.onFaultMask
  split
  · exact (hmasked _).judgeRelay
  · exact .quiet rfl

/-! ### A request carried out, and the supervisory link -/

theorem faultsKept_carryOut (tag : Nat) (r : Request) : FaultsKept s (s.carryOut tag r).1 := by
  cases r with
  | clock tod => exact faultsKept_onClock s tod
  | stnDef f => exact faultsKept_onStnDef s f
  | stnDrop n => exact faultsKept_onStnDrop s n
  | brDef f => exact faultsKept_onBrDef s f
  | isolate base limit => exact faultsKept_onIsolate s base limit
  | chDef f => exact faultsKept_onChDef s f
  | chCmd unit command => exact faultsKept_onChCmd s unit command
  | plantDef p => exact faultsKept_onPlantDef s p
  | schedWin first last => exact faultsKept_onSchedWin s first last
  | schedData flag records => exact faultsKept_onSchedData s flag records
  | refDef f => exact faultsKept_onRefDef s f
  | pumpDef p => exact faultsKept_onPumpDef s p
  | brRest b => exact faultsKept_onBrRest s b
  | brWake b => exact faultsKept_onBrWake s b
  | meter n => exact faultsKept_onMeter s tag n
  | faultAck kind subject => exact faultsKept_onFaultAck s kind subject
  | faultMask mask => exact faultsKept_onFaultMask s mask
  | getStn n => exact .quiet (congrArg State.panel (onGetStn_fst s n))
  | getBr b part => exact .quiet (congrArg State.panel (onGetBr_fst s b part))
  | getPlant part => exact .quiet (congrArg State.panel (onGetPlant_fst s part))
  | getFaults part => exact .quiet (congrArg State.panel (onGetFaults_fst s part))
  | getRef | save | restart | unknown | badFormat => exact .quiet rfl

theorem faultsKept_handle (f : HostFrame) : FaultsKept s (s.handle f) := by
  obtain ⟨tag, r⟩ := f
  by_cases hsave : r = .save
  · subst hsave
    exact .quiet rfl
  by_cases hrestart : r = .restart
  · subst hrestart
    exact .quiet rfl
  rw [handle_eq hsave hrestart]
  exact (faultsKept_carryOut s tag r).trans (.quiet (panel_closeSession _ _ _))

theorem faultsKept_takeNext : FaultsKept s s.takeNext := by
  unfold State.takeNext
  split
  · exact (faultsKept_handle _ _).from rfl
  · exact .quiet rfl

/-- A frame that finds the buffer full raises LINK_OVERRUN (R179). -/
theorem faultsKept_receive (f : HostFrame) : FaultsKept s (s.receive f) := by
  unfold State.receive
  split
  · have hcounted : FaultsCarried s { s with link := { s.link with overruns := countUp s.link.overruns } } := .of_panel rfl
    exact (hcounted.raise .linkOverrun 0).judgeRelay
  · exact (faultsKept_takeNext _).from rfl

theorem faultsKept_frameSent : FaultsKept s s.frameSent := by
  unfold State.frameSent
  split
  · exact .quiet rfl
  dsimp only
  split
  · exact .quiet rfl
  split
  · exact (faultsKept_takeNext _).from rfl
  all_goals exact .quiet rfl

theorem faultsKept_saveReadBack (agrees : Bool) : FaultsKept s (s.saveReadBack agrees) := by
  unfold State.saveReadBack
  split
  · split
    · exact .quiet (panel_closeSession _ _ _)
    · exact .quiet rfl
  all_goals exact .quiet rfl

end

end Sys2Proof.Machine
end

section
/-!
The laws of the fault list and of the relay through a step (R170, R175): what comes in on a segment, the plant bus, the timers and the
starts, and the two statements.
-/

namespace Sys2Proof.Machine

/-! ### Replies (R7, R17, R124, R134, R137, R147, R151) -/

section
variable (s : State) (b : Fin 6) (n : Fin 48)

theorem panel_replying : (s.replying b n).panel = s.panel := rfl

theorem panel_noteDemand (kw : Nat) : (s.noteDemand b kw).panel = s.panel := by
  unfold State.noteDemand
  split <;> rfl

theorem panel_heard (f : ReportFields) : (s.heard b n f).panel = s.panel := panel_noteDemand _ b _

/-- A station that enters ACTIVE ends its STATION_LOST, and no other report has a part in the faults (R10, R172). -/
theorem faultsCarried_reporting (f : ReportFields) (c : Bool) : FaultsCarried s (Event.reporting s b n f c).st := by
  have hheard : FaultsCarried s (s.heard b n f) := .of_panel (panel_heard s b n f)
  unfold Event.reporting
  split
  · have hrelieved : ((s.heard b n f).relieved b n f.standalone).panel = (s.heard b n f).panel :=
      panel_of_ungranted (ungranted_relieved ..)
    rw [reportActive_st]
    exact hheard.trans (.of_panel ((panel_recomputeDeadband _ n).trans hrelieved))
  · unfold Event.reportAttaching
    split
    · have hset (r : Station) : FaultsCarried s ((s.heard b n f).setStn n r) := hheard.trans (.of_panel rfl)
      exact (hset _).endCondition .stationLost n.val
    · exact hheard.trans (.of_panel rfl)

theorem panel_afterReport (newcomer wakes : Bool) : (s.afterReport b n newcomer wakes).panel = s.panel :=
  Prod.ext (congrArg Kept.powered (kept_afterReport s b n newcomer wakes) :) (faults_afterReport s b n newcomer wakes)

theorem faultsKept_report (f : ReportFields) : FaultsKept s ((s.replying b n).report s b n f) := by
  obtain ⟨c, hc⟩ := report_eq s b n f
  rw [State.replying, hc]
  exact ((faultsCarried_reporting s b n f c).allocate.trans (.of_panel (panel_afterReport _ b n _ _))).settle s _ _

theorem faultsKept_capAck : FaultsKept s ((s.replying b n).capAck s b n) := by
  have hacked : ((s.replying b n).confirmCap b n).panel = s.panel := panel_confirmCap (s.replying b n) b n
  exact FaultsCarried.finish (s := s) (e := ⟨((s.replying b n).confirmCap b n).updStn n Station.woken, _⟩) (.of_panel hacked) s

theorem faultsKept_restAnswer (before : State) (answer : Nat) : FaultsKept s (s.restAnswer before b n answer) := by
  unfold State.restAnswer
  dsimp only
  refine FaultsCarried.settle ?_ before false false
  split
  · exact .refl s
  split
  · exact .of_panel (panel_enterWaking s b)
  split
  · exact .of_panel (panel_judgeOffering (s.setStanding n .accepted) b)
  · exact .refl s

theorem faultsKept_takeReply (r : FieldReply) : FaultsKept s ((s.replying b n).takeReply s b n r) := by
  cases r with
  | report f => exact faultsKept_report s b n f
  | advertise caps kw cap rev =>
    exact FaultsCarried.finish (s := s) (e := (s.replying b n).event.putStn n _) (.of_panel rfl) s
  | capAck seq => exact faultsKept_capAck s b n
  | restAnswer answer => exact (faultsKept_restAnswer (s.replying b n) b n s answer).from rfl
  | wakeAck => exact FaultsCarried.settle (s := s) (t := (s.replying b n).updStn n Station.woken) (.of_panel rfl) s false false
  | meterData energy volume =>
    exact (FaultsCarried.of_panel ((panel_endRead (s.replying b n) b n _).trans (panel_replying s b n))).settle s false false

theorem faultsKept_fieldFrame (address : Nat) (r : Option FieldReply) : FaultsKept s (s.fieldFrame b address r) := by
  unfold State.fieldFrame
  split
  · exact .quiet rfl
  next x _ =>
  split
  · exact .quiet rfl
  split
  · next r =>
    split
    · unfold State.replied
      split
      · exact FaultsCarried.settle (s := s) (t := s.endTxn b) (.of_panel rfl) s false false
      · exact faultsKept_takeReply s b x.station r
    · exact .quiet rfl
  · exact .quiet rfl

/-! ### A miss (R11, R126) -/

/-- A station that is lost raises STATION_LOST, and no other miss has a part in the faults (R11). -/
theorem faultsCarried_miss (e : Event) (x : Txn) : FaultsCarried e.st (e.miss b x).st := by
  unfold Event.miss
  dsimp only
  split
  · split
    · have htaken (r : Station) : FaultsCarried e.st (e.st.takeOff x.station .lost r) := .of_panel (panel_takeOff ..)
      rw [lose_st]
      exact ((htaken _).raise .stationLost _).trans (.of_panel (panel_judgeOfferingOf _ _))
    · rw [map_st]
      exact .of_panel (panel_missKind (e.st.updStn x.station _) b x)
  · split
    · rw [returnToSeeking_st]
      exact .of_panel rfl
    · exact .of_panel rfl
  all_goals exact .refl _

theorem faultsKept_replyTimeout : FaultsKept s (s.replyTimeout b) := by
  have hend : FaultsCarried s (s.endTxn b) := .of_panel rfl
  unfold State.replyTimeout
  split
  · exact .quiet rfl
  split
  · exact hend.settle s false false
  · exact (hend.trans (faultsCarried_miss b (s.endTxn b).event _)).finish s

/-! ### The plant bus (R25, R33, R36, R38) -/

theorem faultsCarried_chillerReport (u : Fin 8) (condition : RunCondition) (available : Nat) :
    FaultsCarried s (s.chillerReport u condition available) := by
  have hheard : FaultsCarried s (s.unitHeard u condition available) :=
    ((FaultsCarried.refl s).endSilence _).trans (.of_panel rfl)
  rw [chillerReport_eq]
  split
  · exact hheard.raise _ _
  · exact hheard

theorem faultsCarried_tankReport (soc : Nat) (mode : TankMode) (rate : Nat) : FaultsCarried s (s.tankReport soc mode rate) := by
  have hheard (k : Tank) : FaultsCarried s { s.endSilence tankAddress with tank := k } :=
    ((FaultsCarried.refl s).endSilence tankAddress).trans (.of_panel rfl)
  unfold State.tankReport
  dsimp only
  split
  · exact (hheard _).firstStorage _
  · exact (hheard _).judgeStorage _

theorem faultsCarried_pumpReport (running : Bool) (speed : Nat) : FaultsCarried s (s.pumpReport running speed) := by
  rw [pumpReport_eq]
  exact ((FaultsCarried.refl s).endSilence pumpAddress).trans (.of_panel rfl)

theorem faultsCarried_plantDpReport (dp : Nat) : FaultsCarried s (s.plantDpReport dp) := by
  have hheard : FaultsCarried s (s.endSilence transmitterAddress) := (FaultsCarried.refl s).endSilence _
  unfold State.plantDpReport
  dsimp only
  split
  · exact hheard.trans (.of_panel rfl)
  · exact hheard

/-! ### The timers -/

theorem panel_age : s.age.panel = s.panel := by simp only [State.age, State.panel]

theorem faultsKept_clockTick : FaultsKept s s.clockTick := by
  have hage : FaultsCarried s s.age := .of_panel (panel_age s)
  by_cases hc : s.age.currentSlot = s.currentSlot
  · rw [clockTick_within hc]
    exact hage.finishPressure s
  · rw [clockTick_change hc]
    exact hage.recapped s

theorem faultsKept_holdExpiry : FaultsKept s (s.holdExpiry n) := by
  unfold State.holdExpiry
  dsimp only
  split
  · exact FaultsCarried.finish (s := s) (e := s.event.putStn n _) (.of_panel rfl) s
  · exact .quiet rfl

/-- A device that falls silent raises DEVICE_SILENT (R26). -/
theorem faultsKept_silence (a : Fin 11) : FaultsKept s (s.silence a) := by
  have hraised : FaultsCarried s ((s.setWatch a ⟨true, 15⟩).raise .deviceSilent a.val) :=
    FaultsCarried.raise (s := s) (t := s.setWatch a ⟨true, 15⟩) (.of_panel rfl) _ _
  have hdevice (v : State) : (v.deviceSilent a).panel = v.panel := by
    unfold State.deviceSilent
    repeat' split
    all_goals rfl
  unfold State.silence
  split
  · exact (hraised.trans (.of_panel (hdevice _)) : FaultsCarried s (s.fallSilent a)).recapped s
  · exact .quiet rfl

theorem faultsKept_minRunExpiry (u : Fin 8) : FaultsKept s (s.minRunExpiry u) := by
  have hout : (s.minRunOut u).panel = s.panel := by
    unfold State.minRunOut
    dsimp only
    split <;> rfl
  unfold State.minRunExpiry
  split
  · exact (FaultsCarried.of_panel hout).recapped s
  · exact .quiet rfl

theorem faultsKept_minOffExpiry (u : Fin 8) : FaultsKept s (s.minOffExpiry u) := by
  unfold State.minOffExpiry State.minOffOut
  dsimp only
  repeat' split
  all_goals exact .quiet rfl

/-- A start that has failed and a stop that has not been seen are raised (R32). -/
theorem faultsKept_confirmExpiry (u : Fin 8) : FaultsKept s (s.confirmExpiry u) := by
  have hset : FaultsCarried s (s.setChiller u (s.chiller u).unconfirmed) := .of_panel rfl
  unfold State.confirmExpiry
  split
  · rcases confirmOut_cases s u with e | ⟨k, e⟩ <;> rw [e]
    · exact hset.judgeRelay
    · exact (hset.raise k _).judgeRelay
  · exact .quiet rfl

theorem faultsKept_indexDpStale : FaultsKept s (s.indexDpStale n) := by
  unfold State.indexDpStale
  dsimp only
  split
  · exact FaultsCarried.finishPressure (s := s) (t := s.setStn n _) (.of_panel rfl) s
  · exact .quiet rfl

theorem faultsKept_plantDpStale : FaultsKept s s.plantDpStale := by
  have hpast (d : Option DpReading) : FaultsCarried s { s with plantDp := d } := .of_panel rfl
  exact (hpast _).finishPressure s

/-- The change to PRIMARY ends every INDEX_LOST (R162, R164). -/
theorem faultsKept_revertExpiry : FaultsKept s s.revertExpiry := by
  have hlock : FaultsCarried s ((s.setRevert none).lock .primary) := ⟨rfl, fun h => lawful_endActive h _⟩
  unfold State.revertExpiry
  split
  · exact hlock.finishPressure s
  · exact .quiet rfl

theorem faultsKept_trimExpiry : FaultsKept s s.trimExpiry := by
  unfold State.trimExpiry State.trim
  dsimp only
  repeat' split
  all_goals exact .quiet rfl

theorem faultsKept_emptyRotationEnd : FaultsKept s (s.emptyRotationEnd b) := by
  unfold State.emptyRotationEnd
  split
  · exact (FaultsCarried.of_panel (panel_endRotation s b)).settle s false false
  · exact .quiet rfl

theorem faultsKept_restPollDue : FaultsKept s (s.restPollDue n) := by
  unfold State.restPollDue
  split
  · split
    · exact FaultsCarried.settle (s := s) (t := s.updStn n _) (.of_panel rfl) s false false
    · exact .quiet rfl
  · exact .quiet rfl

theorem faultsKept_wakeExpiry : FaultsKept s (s.wakeExpiry b) := by
  unfold State.wakeExpiry
  split
  · exact FaultsCarried.finish (s := s) (e := (s.enterLive b).event.callPass true) (.of_panel rfl) s
  · exact .quiet rfl

end

/-! ### The starts (R175, R177, R185) -/

theorem faultsKept_warmRestart (s : State) : FaultsKept s s.warmRestart := by
  have hrestarted : s.restarted.panel = s.panel := by simp only [State.restarted, State.panel]
  have hsent : s.restarted.arbitrateAll.panel = s.panel := (panel_of_unsent (unsent_arbitrateAll s.restarted)).trans hrestarted
  have hresettled : FaultsCarried s s.resettled := .of_panel ((panel_of_unstored (unstored_settleStorage ..)).trans hsent)
  have hjudged := hresettled.judgePressure s.pressure.ref
  rw [warmRestart_eq, ← State.resettled]
  exact (hjudged.trans (.of_panel (panel_notify _ _))).judgeRelay

/-- What a command does to the laws of the fault list and of the relay. -/
structure FaultLaws (s t : State) : Prop where
  lawful : s.faults.lawful → t.faults.lawful
  relay : s.relayLawful → t.relayLawful

/-- A cold start begins with an empty list, CONFIG_LOST raised in it where the image is bad, and judges the relay (R177, R185). -/
theorem faultLaws_coldStart (s : State) : FaultLaws s s.coldStart := by
  have hlaws {i : Image} {c : ConfigSource} {v : State} (h : FaultsCarried (s.cutSave.startFrom i c) v) :
      FaultLaws s v.arbitrateAll.judgeRelay := by
    have hsent := (h.trans (.of_panel (panel_of_unsent (unsent_arbitrateAll v)))).judgeRelay
    exact ⟨fun _ => hsent.lawful ⟨Nat.zero_le _, .nil⟩,
      fun _ => (relayLawful_iff_judged hsent.powered).mpr (judged_judgeRelay _)⟩
  unfold State.coldStart
  dsimp only
  split
  · exact hlaws (.refl _)
  · exact hlaws ((FaultsCarried.refl _).raise _ _)

/-- Without power the relay is open (R175). -/
theorem faultLaws_powerLoss (s : State) : FaultLaws s s.powerLoss := by
  have hcut : s.cutSave.faults = s.faults := by
    unfold State.cutSave
    dsimp only
    split <;> rfl
  exact ⟨fun h => (hcut ▸ h : s.cutSave.faults.lawful), fun _ => rfl⟩

/-! ### A step -/

/-- On a powered card the law of the relay is that its contact is where the list calls for it (R175). -/
theorem FaultsKept.laws {s t : State} (h : FaultsKept s t) (hp : s.powered = true) : FaultLaws s t := by
  refine ⟨h.lawful, fun hr => ?_⟩
  rw [relayLawful_iff_judged hp] at hr
  rw [relayLawful_iff_judged (h.powered.trans hp)]
  exact h.relay hr

/-- A row that means `f` while the unit is powered. -/
theorem faultLaws_row {c : Instr} {s t : State} (f : State → State) (hc : exec c = whilePowered f) (he : exec c s = .next t)
    (hf : s.powered = true → FaultLaws s (f s)) : FaultLaws s t := by
  rw [hc] at he
  cases hp : s.powered with
  | true =>
    rw [whilePowered_on f s hp] at he
    cases he
    exact hf hp
  | false =>
    rw [whilePowered_off f s hp] at he
    cases he
    exact ⟨id, id⟩

/-- Every command keeps the two laws: a request through the link, and any other by its own event. -/
theorem faultLaws_exec {s t : State} (c : Instr) (he : exec c s = .next t) : FaultLaws s t := by
  have hon (f : State → State) (hc : exec c = whilePowered f) (hf : FaultsKept s (f s)) : FaultLaws s t :=
    faultLaws_row f hc he hf.laws
  have hframe (b : Fin 6) (address : Nat) (r : Option FieldReply) (hc : exec c = whilePowered (·.fieldFrame b address r)) :
      FaultLaws s t := hon _ hc (faultsKept_fieldFrame s b address r)
  rcases hr : c.asRequest with _ | ⟨tag, r⟩
  · cases c with
    | coldStart => cases he; exact faultLaws_coldStart s
    | powerLoss => exact faultLaws_row (·.powerLoss) rfl he fun _ => faultLaws_powerLoss s
    | supervisoryFrameReceived kind tag body => exact hon (·.receive ⟨tag, parseRequest kind body⟩) rfl (faultsKept_receive s _)
    | supervisoryBadFrame =>
      exact hon (fun s => { s with link := { s.link with badFrames := countUp s.link.badFrames } }) rfl (.quiet rfl)
    | supervisoryGapTimeout =>
      exact hon (fun s => { s with link := { s.link with gaps := countUp s.link.gaps } }) rfl (.quiet rfl)
    | frameSent => exact hon (·.frameSent) rfl (faultsKept_frameSent s)
    | saveReadBack agrees => exact hon (·.saveReadBack agrees) rfl (faultsKept_saveReadBack s agrees)
    | warmRestart =>
      refine hon (fun s => if s.link.phase = .restartDue then s.warmRestart else s) rfl ?_
      split
      · exact faultsKept_warmRestart s
      · exact .quiet rfl
    | clockTick => exact hon (·.clockTick) rfl (faultsKept_clockTick s)
    | holdExpiry n => exact hon (·.holdExpiry n) rfl (faultsKept_holdExpiry s n)
    | deviceSilent a => exact hon (·.silence a) rfl (faultsKept_silence s a)
    | minRunExpiry u => exact hon (·.minRunExpiry u) rfl (faultsKept_minRunExpiry s u)
    | minOffExpiry u => exact hon (·.minOffExpiry u) rfl (faultsKept_minOffExpiry s u)
    | confirmExpiry u => exact hon (·.confirmExpiry u) rfl (faultsKept_confirmExpiry s u)
    | chillerReport u condition available =>
      refine hon _ rfl ?_
      split
      · exact (faultsCarried_chillerReport s u condition available).recapped s
      · exact .quiet rfl
    | tankReport soc mode rate =>
      refine hon _ rfl ?_
      split
      · have h : FaultsCarried s (s.tankReport soc mode rate).event.recapacity.st :=
          (faultsCarried_tankReport s soc mode rate).trans (.of_panel rfl)
        exact h.allocate.settle s true true
      · exact .quiet rfl
    | pumpReport running speed =>
      exact hon (fun s => (s.pumpReport running speed).judgeRelay) rfl (faultsCarried_pumpReport s running speed).judgeRelay
    | plantDpReport dp =>
      exact hon (fun s => (s.plantDpReport dp).finishPressure s) rfl ((faultsCarried_plantDpReport s dp).finishPressure s)
    | plantFrameDiscarded => exact hon (fun s => s) rfl (.quiet rfl)
    | indexDpStale n => exact hon (·.indexDpStale n) rfl (faultsKept_indexDpStale s n)
    | plantDpStale => exact hon (·.plantDpStale) rfl (faultsKept_plantDpStale s)
    | revertExpiry => exact hon (·.revertExpiry) rfl (faultsKept_revertExpiry s)
    | trimExpiry => exact hon (·.trimExpiry) rfl (faultsKept_trimExpiry s)
    | replyTimeout b => exact hon (·.replyTimeout b) rfl (faultsKept_replyTimeout s b)
    | fieldGapTimeout b => exact hon (·.countBad b) rfl (.quiet rfl)
    | fieldBadFrame b => exact hon (·.countBad b) rfl (.quiet rfl)
    | fieldInvalidReply b frame => exact hframe b frame.address (parseReply frame) rfl
    | fieldUnawaitedFrame b frame => exact hframe b frame.address (parseReply frame) rfl
    | report b address f => exact hframe b address (some (.report f)) rfl
    | advertise b address caps kw cap rev => exact hframe b address (some (.advertise caps kw cap rev)) rfl
    | capAck b address seq => exact hframe b address (some (.capAck seq)) rfl
    | restAnswer b address answer => exact hframe b address (some (.restAnswer answer)) rfl
    | wakeAck b address => exact hframe b address (some .wakeAck) rfl
    | meterData b address energy volume => exact hframe b address (some (.meterData energy volume)) rfl
    | emptyRotationEnd b => exact hon (·.emptyRotationEnd b) rfl (faultsKept_emptyRotationEnd s b)
    | restPollDue n => exact hon (·.restPollDue n) rfl (faultsKept_restPollDue s n)
    | wakeTimerExpiry b => exact hon (·.wakeExpiry b) rfl (faultsKept_wakeExpiry s b)
    | _ => cases hr
  · exact hon (·.receive ⟨tag, r⟩) (funext fun v => exec_asRequest hr v) (faultsKept_receive s _)

/-- The command at the front of the queue is carried out, and without one nothing happens. -/
theorem faultLaws_step {s t : State} (h : step s = .next t) : FaultLaws s t := by
  unfold step at h
  split at h
  · cases h
    exact ⟨id, id⟩
  · next c rest _ =>
    obtain ⟨hlawful, hrelay⟩ := faultLaws_exec (s := { s with pending := rest }) c h
    exact ⟨hlawful, hrelay⟩

/-- Settles O5: a step keeps the law of the fault list, whatever its command. -/
theorem faultListStaysLawful : Obligations.FaultListStaysLawful := fun _ _ hs h => (faultLaws_step h).lawful hs

/-- Settles O6: a step keeps the relay's contact where R175 has it, whatever its command. -/
theorem relayFollowsTheFaultList : Obligations.RelayFollowsTheFaultList := fun _ _ hs h => (faultLaws_step h).relay hs

end Sys2Proof.Machine
end

section
/-!
FAULT-ACK and FAULT-MASK (R173, R174): each puts another fault list in place, whose relay is judged within the event.
-/

namespace Sys2Proof.Machine

/-! ### Entries acknowledged (R173) -/

/-- Of the entries that an acknowledgement meets, the active ones stay, acknowledged; any other entry stays as it is. -/
theorem entries_ack (l : FaultList) (p : FaultEntry → Bool) :
    (l.ack p).entries =
      (l.entries.filter fun e => !(p e && !e.active)).map fun e => if p e then { e with acked := true } else e := by
  unfold FaultList.ack
  dsimp only
  induction l.entries with
  | nil => rfl
  | cons e l ih =>
    rw [List.filterMap_cons, ih]
    cases hp : p e <;> cases ha : e.active <;> simp [hp, ha]

theorem entries_ackAll (l : FaultList) :
    l.ackAll.entries = (l.entries.filter fun e => e.active).map fun e => { e with acked := true } :=
  (entries_ack l fun _ => true).trans (by simp)

/-- With every entry and the overflow acknowledged, nothing holds the relay closed (R175). -/
theorem alarm_ackAll (l : FaultList) : l.ackAll.alarm = false := by
  rw [FaultList.alarm, entries_ackAll]
  simp [FaultList.ackAll]

/-! ### The requests -/

theorem faultKindOfCode_code (k : FaultKind) : faultKindOfCode k.code = some k := by cases k <;> rfl

theorem faultKindOfCode_above {n : Nat} (h : 9 < n) : faultKindOfCode n = none := by
  unfold faultKindOfCode
  split
  case h_11 => rfl
  all_goals omega

theorem onFaultAck_range (s : State) {kind : Nat} (subject : Nat) (h : 9 < kind) (ha : kind ≠ 0xFF) :
    s.onFaultAck kind subject = s.refuse .range := by
  rw [State.onFaultAck, if_neg ha, faultKindOfCode_above h]

theorem onFaultAck_kind (s : State) (k : FaultKind) (subject : Nat) :
    s.onFaultAck k.code subject =
      ({ s with faults := s.faults.ack fun e => e.names k subject }.judgeRelay, .done []) := by
  have hcode : k.code ≠ 0xFF := by cases k <;> decide
  rw [State.onFaultAck, if_neg hcode, faultKindOfCode_code]
  rfl

theorem onFaultAck_all (s : State) (subject : Nat) :
    s.onFaultAck 0xFF subject = ({ s with faults := s.faults.ackAll }.judgeRelay, .done []) := if_pos rfl

theorem onFaultMask_range (s : State) {mask : Nat} (h : 1023 < mask) : s.onFaultMask mask = s.refuse .range := if_neg (by omega)

theorem onFaultMask_within (s : State) {mask : Nat} (h : mask ≤ 1023) :
    s.onFaultMask mask = ({ s with faults := { s.faults with mask := BitVec.ofNat 10 mask } }.judgeRelay, .done []) :=
  if_pos (by omega)

/-- A request that puts another fault list in place, with its relay judged, is answered DONE and does nothing else (R173 to R175). -/
theorem exec_relisted {c : Instr} {tag : Nat} {r : Request} {s : State} {l : FaultList} (hc : c.asRequest = some (tag, r))
    (hs : s.ready) (h : s.carryOut tag r = ({ s with faults := l }.judgeRelay, .done [])) (hk : r.keepsSession = false)
    (h1 : r ≠ .save) (h2 : r ≠ .restart) :
    exec c s =
      .next (State.answeredOnly { s with session := none, faults := { l with relayClosed := l.alarm } } tag (.done [])) := by
  rw [exec_ready hc hs, handle_done h1 h2 h rfl hk]
  rfl

/-- Settles O45: the ranges, and the fault list that each request puts in place. -/
theorem faultsAreAcknowledged : Obligations.FaultsAreAcknowledged := by
  refine fun s tag hs => ⟨fun kind subject h ha => ?_, fun k subject => ?_, ?_, fun mask h => ?_, fun mask h => ?_⟩
  · exact exec_refused rfl hs (onFaultAck_range s subject h ha)
  · exact ⟨_, exec_relisted rfl hs (onFaultAck_kind s k subject) rfl nofun nofun, rfl, entries_ack _ _, rfl, rfl, rfl, rfl⟩
  · refine ⟨_, exec_relisted rfl hs (onFaultAck_all s 0) rfl nofun nofun, rfl, ?_⟩
    show ({ s.faults.ackAll with relayClosed := s.faults.ackAll.alarm } : FaultList) = _
    rw [alarm_ackAll, ← entries_ackAll]
    rfl
  · exact exec_refused rfl hs (onFaultMask_range s h)
  · refine ⟨_, exec_relisted rfl hs (onFaultMask_within s h) rfl nofun nofun, rfl, ?_, rfl, rfl, rfl, rfl⟩
    exact (BitVec.toNat_ofNat mask 10).trans (Nat.mod_eq_of_lt (by omega))

end Sys2Proof.Machine
end

section
/-!
SUPPORT. The supervisory link through the operations of an event (R179, R180, R187): what notices do to its queue and its counts, and that
no block of the part does anything else to it.
-/

namespace Sys2Proof.Machine

/-! ### Notices issued (R180) -/

/-- From `l` to `m` notices have been issued, and nothing else has happened to the link. -/
def Link.Noticed : Link → Link → Prop := Relation.ReflTransGen fun l m => ∃ n, m = l.issueNotice n

theorem Link.Noticed.refl (l : Link) : l.Noticed l := Relation.ReflTransGen.refl

theorem Link.Noticed.trans {l m k : Link} (h : l.Noticed m) (h' : m.Noticed k) : l.Noticed k := Relation.ReflTransGen.trans h h'

theorem Link.Noticed.of_issue {l m : Link} (h : m = l ∨ ∃ n, m = l.issueNotice n) : l.Noticed m := by
  rcases h with rfl | h
  · exact .refl m
  · exact Relation.ReflTransGen.single h

/-- What issuing one notice keeps, issuing many keeps. -/
theorem Link.Noticed.keeps {l m : Link} (h : l.Noticed m) {P : Link → Prop} (hP : ∀ l n, P l → P (l.issueNotice n)) (hl : P l) :
    P m := by
  induction h with
  | refl => exact hl
  | tail _ hn ih =>
    obtain ⟨n, rfl⟩ := hn
    exact hP _ n ih

theorem Link.Noticed.kept {l m : Link} (h : l.Noticed m) : m.kept = l.kept :=
  h.keeps (P := fun m => m.kept = l.kept) (fun m n hm => (link_kept_issueNotice m n).trans hm) rfl

/-! ### The queue under a notice (R180) -/

/-- What the law of the link asks of the frames that wait: at most 16 notices, and nothing behind a free transmitter. -/
def Link.queueLawful (l : Link) : Prop := l.waitingNotices.length ≤ 16 ∧ (l.sending = none → l.waiting = [])

/-- A notice that displaces the oldest waiting one leaves as many waiting. -/
theorem length_displaced {l : List OutFrame} (h : 0 < (l.filter OutFrame.isNotice).length) (n : Notice) :
    ((l.eraseP OutFrame.isNotice ++ [OutFrame.notice n]).filter OutFrame.isNotice).length = (l.filter OutFrame.isNotice).length := by
  obtain ⟨o, ho⟩ := List.exists_mem_of_length_pos h
  obtain ⟨hmem, hnotice⟩ := List.mem_filter.mp ho
  obtain ⟨x, front, back, -, hx, hl, he⟩ := List.exists_of_eraseP hmem hnotice
  have hnew : [OutFrame.notice n].filter OutFrame.isNotice = [.notice n] := rfl
  rw [he, hl, List.filter_append, List.filter_append, List.filter_append, List.filter_cons_of_pos hx, hnew]
  simp only [List.length_append, List.length_cons, List.length_nil]
  omega

theorem queueLawful_issueNotice {l : Link} (h : l.queueLawful) (n : Notice) : (l.issueNotice n).queueLawful := by
  refine ⟨?_, nothing_waits_issueNotice l n⟩
  have hcount : (l.waiting.filter OutFrame.isNotice).length ≤ 16 := h.1
  unfold Link.issueNotice Link.waitingNotices
  split
  · next hfull =>
    have hpos : 16 ≤ (l.waiting.filter OutFrame.isNotice).length := of_decide_eq_true (Bool.and_eq_true_iff.mp hfull).2
    exact (length_displaced (by omega) n).trans_le hcount
  · next hroom =>
    unfold Link.issue
    split
    · exact hcount
    · next o ho =>
      have hfree : ¬ 16 ≤ (l.waiting.filter OutFrame.isNotice).length := by
        simpa [ho, Link.waitingNotices] using hroom
      have hnew : ([OutFrame.notice n].filter OutFrame.isNotice).length = 1 := rfl
      rw [List.filter_append, List.length_append, hnew]
      omega

/-! ### The counts under a notice (R187) -/

/-- From `l` to `m` no count has fallen, and each is in its range still. -/
def Link.Counted (l m : Link) : Prop :=
  l.countsLawful → m.countsLawful ∧ l.badFrames ≤ m.badFrames ∧ l.gaps ≤ m.gaps ∧ l.overruns ≤ m.overruns ∧
    l.noticeLosses ≤ m.noticeLosses

/-- The four counts of the link. -/
def Link.counts (l : Link) : Nat × Nat × Nat × Nat := (l.badFrames, l.gaps, l.overruns, l.noticeLosses)

theorem Link.Counted.of_counts {l m : Link} (h : m.counts = l.counts) : l.Counted m := by
  obtain ⟨hb, hg, ho, hn⟩ : m.badFrames = l.badFrames ∧ m.gaps = l.gaps ∧ m.overruns = l.overruns ∧ m.noticeLosses = l.noticeLosses := by
    simpa [Link.counts] using h
  intro hl
  unfold Link.countsLawful
  rw [hb, hg, ho, hn]
  exact ⟨hl, le_rfl, le_rfl, le_rfl, le_rfl⟩

theorem Link.Counted.trans {l m k : Link} (h : l.Counted m) (h' : m.Counted k) : l.Counted k := by
  intro hl
  obtain ⟨hm, hb, hg, ho, hn⟩ := h hl
  obtain ⟨hk, hb', hg', ho', hn'⟩ := h' hm
  exact ⟨hk, hb.trans hb', hg.trans hg', ho.trans ho', hn.trans hn'⟩

theorem countUp_le (n : Nat) : countUp n ≤ 65535 := Nat.min_le_left ..

theorem le_countUp {n : Nat} (h : n ≤ 65535) : n ≤ countUp n := le_min h (Nat.le_succ n)

theorem counted_badFrames (l : Link) : l.Counted { l with badFrames := countUp l.badFrames } :=
  fun ⟨hb, hg, ho, hn⟩ => ⟨⟨countUp_le _, hg, ho, hn⟩, le_countUp hb, le_rfl, le_rfl, le_rfl⟩

theorem counted_gaps (l : Link) : l.Counted { l with gaps := countUp l.gaps } :=
  fun ⟨hb, hg, ho, hn⟩ => ⟨⟨hb, countUp_le _, ho, hn⟩, le_rfl, le_countUp hg, le_rfl, le_rfl⟩

theorem counted_overruns (l : Link) : l.Counted { l with overruns := countUp l.overruns } :=
  fun ⟨hb, hg, ho, hn⟩ => ⟨⟨hb, hg, countUp_le _, hn⟩, le_rfl, le_rfl, le_countUp ho, le_rfl⟩

theorem counts_issue (l : Link) (f : OutFrame) : (l.issue f).counts = l.counts := by
  unfold Link.issue
  split <;> rfl

theorem counted_issueNotice (l : Link) (n : Notice) : l.Counted (l.issueNotice n) := by
  unfold Link.issueNotice
  split
  · exact fun ⟨hb, hg, ho, hn⟩ => ⟨⟨hb, hg, ho, countUp_le _⟩, le_rfl, le_rfl, le_rfl, le_countUp hn⟩
  · exact .of_counts (counts_issue l _)

theorem Link.Noticed.counted {l m : Link} (h : l.Noticed m) : l.Counted m :=
  h.keeps (P := l.Counted) (fun m n hm => hm.trans (counted_issueNotice m n)) (.of_counts rfl)

/-! ### Faults and the end of an event -/

theorem noticed_of_eq {s t : State} (h : t.link = s.link) : s.link.Noticed t.link := .of_issue (.inl h)

/-- A fold of an operation that issues notices alone. -/
theorem noticed_foldl {α σ : Type} (view : σ → Link) (f : σ → α → σ) (h : ∀ s a, (view s).Noticed (view (f s a))) (l : List α)
    (s : σ) : (view s).Noticed (view (l.foldl f s)) := by
  induction l generalizing s with
  | nil => exact .refl _
  | cons a l ih => exact (h s a).trans (ih (f s a))

section
variable {l : Link} {t : State} (h : l.Noticed t.link)
include h

/-- What leaves the link alone follows notices. -/
theorem Link.Noticed.still {u : State} (hu : u.link = t.link) : l.Noticed u.link := hu ▸ h

theorem Link.Noticed.raise (k : FaultKind) (x : Nat) : l.Noticed (t.raise k x).link := h.trans (.of_issue (link_raise t k x))

theorem Link.Noticed.judgePressure (was : RefSettings) : l.Noticed (t.judgePressure was).link :=
  h.trans (.of_issue (link_judgePressure t was))

theorem Link.Noticed.settle (before : State) (c r : Bool) : l.Noticed (t.settle before c r).link :=
  h.trans (.of_issue (link_settle t before c r))

theorem Link.Noticed.finishPressure (before : State) : l.Noticed (t.finishPressure before).link :=
  h.judgePressure before.pressure.ref

end

section
variable {l : Link} {e : Event} (h : l.Noticed e.st.link)
include h

/-- The allocator raises FIRM_CUT, and has no other part in the link (R78). -/
theorem Link.Noticed.allocate : l.Noticed (Machine.allocate e).link := by
  have hs : l.Noticed (sheds e.st).1.link := CutStep.run_keeps (P := fun w => l.Noticed w.1.link)
    (fun w w' hw hp => by
      cases hw with
      | moved a => exact hp
      | cut n k hg => exact hp
      | raised n => exact Link.Noticed.raise hp .firmCut n.val) (sheds_steps e.st) h
  have hpass (l : List (Fin 48)) : (grantPass (sheds e.st).1 l).st.link = (sheds e.st).1.link :=
    link_of_ungranted (ungranted_grantPass _ _)
  unfold Machine.allocate
  generalize sheds e.st = w at hs hpass
  dsimp only
  split
  · exact hs.still ((link_of_ungranted (ungranted_handChanges _ _ _)).trans (hpass _))
  · exact hs.still (link_of_ungranted (ungranted_handChanges _ _ _))

theorem Link.Noticed.finish (before : State) : l.Noticed (e.finish before).link := h.allocate.settle before _ _

end

/-- An event in which A is worked out again (R39). -/
theorem Link.Noticed.recapped {l : Link} {v : State} (h : l.Noticed v.link) (before : State) :
    l.Noticed (v.event.recapacity.finish before).link := Link.Noticed.finish (e := v.event.recapacity) h before

/-! ### Operations that leave the link alone -/

section
variable (s : State) (b : Fin 6) (n : Fin 48)

theorem link_release (k : Nat) : (s.release n k).link = s.link := link_of_ungranted (ungranted_release s n k)

theorem link_judgeOffering : (s.judgeOffering b).link = s.link := by
  unfold State.judgeOffering
  split <;> rfl

theorem link_standings (l : List (Fin 48)) (x : Standing) : (l.foldl (fun s n => s.setStanding n x) s).link = s.link :=
  foldl_keeps State.link (fun s n => s.setStanding n x) (fun _ _ => rfl) l s

theorem link_enterOffering : (s.enterOffering b).link = s.link := by
  unfold State.enterOffering
  extract_lets act v w x
  have hreleased : w.link = s.link := foldl_keeps State.link _ (fun s n => link_release s n 0) act v
  exact (link_judgeOffering x b).trans ((link_standings w act .offerOwed).trans hreleased)

theorem link_enterWaking : (s.enterWaking b).link = s.link := link_standings (s.startWaking b) _ .wakeOwed

theorem link_wakeReason : (s.wakeReason b).link = s.link := by
  unfold State.wakeReason
  split
  · exact link_enterWaking s b
  · rfl

theorem link_joinRest : (s.joinRest b n).link = s.link := by
  unfold State.joinRest
  split
  · rfl
  · rfl
  · split
    · rfl
    · exact link_enterWaking s b
  · split
    · rfl
    · exact link_enterWaking s b

theorem link_afterReport (newcomer wakes : Bool) : (s.afterReport b n newcomer wakes).link = s.link := by
  have hjoined : (if newcomer then (s.queueUnlessHeld b n).joinRest b n else s).link = s.link := by
    split
    · exact (link_joinRest _ b n).trans (link_of_ungranted (ungranted_queueUnlessHeld s b n))
    · rfl
  unfold State.afterReport
  dsimp only
  split
  · exact (link_wakeReason _ b).trans hjoined
  · exact hjoined

theorem link_confirmCap : (s.confirmCap b n).link = s.link := by
  unfold State.confirmCap
  repeat' split
  all_goals rfl

theorem link_closeSession (r : Request) (reply : Reply) : (s.closeSession r reply).link = s.link := by
  unfold State.closeSession
  split <;> rfl

end

theorem link_recompute (e : Event) (n : Fin 48) : (e.recompute n).st.link = e.st.link := by
  unfold Event.recompute
  rw [callPass_st]
  dsimp only
  split
  · exact (link_of_ungranted (ungranted_handGrant _ n)).trans (rfl : (e.st.updStn n _).link = e.st.link)
  · rfl

theorem link_recomputeAll (e : Event) : e.recomputeAll.st.link = e.st.link := by
  unfold Event.recomputeAll
  refine foldl_keeps (fun e : Event => e.st.link) _ (fun e n => ?_) allStations e
  unfold Event.recomputeExact
  split
  · exact link_recompute e n
  · rfl

theorem link_recomputeDeadband (e : Event) (n : Fin 48) : (e.recomputeDeadband n).st.link = e.st.link := by
  rcases recomputeDeadband_cases n e with ⟨-, h⟩ | ⟨-, h⟩ <;> rw [h]
  exact link_recompute e n

/-! ### The reads of a station that end (R138) -/

section
variable (s : State) (b : Fin 6) (n : Fin 48) (o : MeterOutcome)

theorem noticed_endRead : s.link.Noticed (s.endRead b n o).link := by
  rcases endRead_cases s b n o with ⟨e, -⟩ | ⟨r, -, -, hl⟩
  · exact noticed_of_eq (congrArg State.link e)
  · exact .of_issue (.inr ⟨_, hl⟩)

theorem noticed_endReads : s.link.Noticed (s.endReads n o).link := by
  unfold State.endReads
  exact noticed_foldl State.link _ (fun s b => noticed_endRead s b n o) allBranches s

theorem noticed_takeOff (r : Station) : s.link.Noticed (s.takeOff n o r).link := by
  have hset (v : State) : (v.setStn n r).link = v.link := rfl
  have hdetached : (s.detach n).link = s.link := rfl
  rw [State.takeOff, hset, ← hdetached]
  exact noticed_endReads (s.detach n) n o

/-- A read that has had no reply to its third METER-ASK ends (R137). -/
theorem noticed_missKind (x : Txn) : s.link.Noticed (s.missKind b x).link := by
  rcases missKind_cases s b x with e | ⟨rest, -, -, e⟩ | e <;> rw [e]
  · exact .refl _
  · unfold State.requeue
    split
    · exact .refl _
    · exact .refl _
  · rcases missMeter_cases s b x.station with e | ⟨r, e⟩ | e <;> rw [e]
    · exact .refl _
    · exact .refl _
    · exact noticed_endRead s b _ _

end

end Sys2Proof.Machine
end

section
/-!
SUPPORT. A request carried out (R181): it is refused and the state left as it was, or it is answered otherwise and has issued notices alone.
-/

namespace Sys2Proof.Machine

/-- What a request does to the state `s` and the reply it brings: a refusal changes nothing, and one that is not refused does no more to
the link than to issue notices. -/
inductive State.Answers (s : State) : State × Reply → Prop where
  | refused (reason : Reason) : s.Answers (s, .refused reason)
  | taken {t : State} {reply : Reply} (h : s.link.Noticed t.link) (hr : reply.isRefusal = false) : s.Answers (t, reply)

theorem State.Answers.done {s t : State} (h : s.link.Noticed t.link) : s.Answers t.doneEmpty := .taken h rfl

theorem State.Answers.noticed {s : State} {p : State × Reply} (h : s.Answers p) : s.link.Noticed p.1.link := by
  cases h with
  | refused reason => exact .refl _
  | taken h hr => exact h

/-- A refused request changes nothing (R181). -/
theorem State.Answers.unchanged {s : State} {p : State × Reply} (h : s.Answers p) {reason : Reason} (hp : p.2 = .refused reason) :
    p = (s, .refused reason) := by
  cases h with
  | refused r => exact congrArg (Prod.mk s) hp
  | taken h hr =>
    cases hp
    cases hr

/-- STORAGE_RESERVE is raised where the state of charge calls for it (R36). -/
theorem Link.Noticed.judgeStorage {l : Link} {t : State} (h : l.Noticed t.link) (soc : Nat) : l.Noticed (t.judgeStorage soc).link := by
  have hset (on : Bool) : l.Noticed ({ t with tank := { t.tank with enabled := on } } : State).link := h
  have henable (on : Bool) : l.Noticed (t.enableStorage on).link := by
    unfold State.enableStorage
    dsimp only
    split
    · exact (hset false).raise _ _
    all_goals exact h
  exact henable _

section
variable (s : State)

/-! ### The plant, the schedule and the pressures -/

theorem answers_onClock (tod : Nat) : s.Answers (s.onClock tod) := by
  unfold State.onClock State.setClock
  split
  · exact .refused _
  · dsimp only
    split
    · exact .done (.refl _)
    · exact .done (Link.Noticed.recapped (v := { s with clock := some tod }) (.refl s.link) s)

theorem answers_onChDef (f : ChDefFields) : s.Answers (s.onChDef f) := by
  have hdefined (u : Fin 8) : (s.defineChiller u f.settings).link = s.link := by
    unfold State.defineChiller
    dsimp only
    repeat' split
    all_goals rfl
  unfold State.onChDef
  split
  · split
    · exact .done ((noticed_of_eq (hdefined _)).recapped s)
    · exact .refused _
  · exact .refused _

theorem answers_onChCmd (unit command : Nat) : s.Answers (s.onChCmd unit command) := by
  unfold State.onChCmd
  split
  · unfold State.chillerStart
    dsimp only
    split
    · split
      · exact .done (.refl _)
      · exact .done (.refl _)
    case h_6 | h_7 | h_8 => exact .refused _
    all_goals exact .done (.refl _)
  · unfold State.chillerStop
    dsimp only
    split
    · split
      · exact .done (Link.Noticed.recapped (v := s.stopChiller _) (.refl s.link) s)
      · exact .done (.refl _)
    case h_3 => exact .refused _
    all_goals exact .done (.refl _)
  · exact .refused _

theorem noticed_refitTank (old : Nat) : s.link.Noticed (s.refitTank old).link := by
  have htank (k : Tank) (c : Option TankCommand) : s.link.Noticed ({ s with tank := k, lastTankCommand := c } : State).link :=
    .refl _
  unfold State.refitTank
  split
  · split <;> exact .refl _
  split
  · exact .refl _
  split
  · exact (htank _ _).judgeStorage _
  · exact .refl _

theorem answers_onPlantDef (p : PlantSettings) : s.Answers (s.onPlantDef p) := by
  cases hr : p.inRange with
  | false =>
    rw [onPlantDef_refused s hr]
    exact .refused _
  | true =>
    have hplanted : s.link.Noticed (s.replanted p).link := noticed_refitTank { s with plant := p } s.plant.tankCapacity
    have hfit : s.link.Noticed (s.replanted p).event.recapacity.st.link := hplanted
    have hrecomputed : s.link.Noticed (s.recomputedPlant p).st.link := by
      unfold State.recomputedPlant
      split
      · exact hfit
      · exact hfit.still (link_recomputeAll _)
    rw [onPlantDef_accepted s hr, applyPlant_eq]
    exact .done (Link.Noticed.finish (e := (s.recomputedPlant p).callPass _) (by rw [callPass_st]; exact hrecomputed) s)

theorem answers_onSchedWin (first last : Nat) : s.Answers (s.onSchedWin first last) := by
  unfold State.onSchedWin
  split
  · exact .refused _
  · exact .taken (.refl _) rfl

theorem answers_onSchedData (flag : Nat) (records : List SlotFields) : s.Answers (s.onSchedData flag records) := by
  have hload (l : LoadSession) (start : Nat) (w : LoadWork) : s.link.Noticed (s.loadEnd l start w).link := by
    unfold State.loadEnd
    split
    · have hloaded : s.link.Noticed (s.withLoad l w).event.recapacity.st.link := .refl _
      exact hloaded.allocate.settle s true false
    · exact .refl _
  unfold State.onSchedData
  split
  · exact .refused _
  split
  · exact .refused _
  split
  · exact .refused _
  · rw [loadSlots_eq]
    exact .taken (hload _ _ _) rfl

theorem answers_onRefDef (f : RefDefFields) : s.Answers (s.onRefDef f) := by
  unfold State.onRefDef
  split
  · next r _ => exact .done (Link.Noticed.finishPressure (t := s.setRef r) (.refl s.link) s)
  · exact .refused _

theorem answers_onPumpDef (p : PumpSettings) : s.Answers (s.onPumpDef p) := by
  have hset : (s.setPump p).link = s.link := by
    unfold State.setPump
    dsimp only
    repeat' split
    all_goals rfl
  unfold State.onPumpDef
  split
  · exact .done (noticed_of_eq hset)
  · exact .refused _

/-! ### Stations and branches -/

theorem answers_onStnDef (f : StnDefFields) : s.Answers (s.onStnDef f) := by
  have hredefined (n : Fin 48) (h : HostFields) : (s.event.redefine n h).st.link = s.link := by
    have hwoken : (s.rewoken n h).link = s.link := by
      have hclass : (s.reclassed n h).link = s.link := by
        unfold State.reclassed
        split <;> rfl
      unfold State.rewoken State.restLost
      repeat' split
      · exact (link_wakeReason _ _).trans hclass
      · exact hclass
      · exact hclass
    have hreleased : ((s.rewoken n h).release n h.contractKw).link = s.link := (link_release _ n _).trans hwoken
    unfold Event.redefine
    extract_lets old new e1 e2 e3 e4
    split
    · exact (link_recomputeAll e4).trans hreleased
    · exact hreleased
  unfold State.onStnDef
  split
  · next n h _ _ =>
    dsimp only
    split
    · exact .done (Link.Noticed.finish (e := ⟨s.setStn n (.define h (rangeHolds s.isolation n.val)), false⟩) (.refl s.link) s)
    · exact .done ((noticed_of_eq (hredefined n h)).finish s)
  · exact .refused _

theorem answers_onStnDrop (station : Nat) : s.Answers (s.onStnDrop station) := by
  unfold State.onStnDrop
  split
  · next n _ =>
    split
    · exact .refused _
    · have hdropped : s.link.Noticed (s.event.drop n).st.link := by
        rw [drop_st]
        exact (noticed_takeOff s n _ _).still (judgeOfferingOf_same _ n).2.1
      exact .done (hdropped.finish s)
  · exact .refused _

theorem noticed_isolateStation (old new : Option Range) (e : Event) (n : Fin 48) :
    e.st.link.Noticed (e.isolateStation old new n).st.link := by
  rcases isolateStation_cases old new e n with ⟨-, h⟩ | ⟨-, h⟩ <;> rw [h]
  · exact (noticed_takeOff _ n _ _).still (judgeOfferingOf_same _ n).2.1
  · exact .refl _

theorem answers_onIsolate (base limit : Nat) : s.Answers (s.onIsolate base limit) := by
  unfold State.onIsolate
  split
  · next new _ =>
    split
    · exact .done (.refl _)
    · have hisolated : s.link.Noticed (s.event.setIsolation new).st.link := by
        unfold Event.setIsolation
        generalize allStations = l
        exact noticed_foldl (fun e : Event => e.st.link) _ (noticed_isolateStation s.isolation new) l
          ({ s with isolation := new } : State).event
      exact .done (hisolated.finish s)
  · exact .refused _

theorem link_moveWindow (e : Event) (n : Fin 48) : (e.moveWindow n).st.link = e.st.link := by
  unfold Event.moveWindow
  split
  · rw [returnToSeeking_st]
    rfl
  · rfl

theorem answers_onBrDef (f : BrDefFields) : s.Answers (s.onBrDef f) := by
  have happlied (b : Fin 6) (c : BranchSettings) : (s.event.applyBranch b c).st.link = s.link := by
    by_cases hw : (s.br b).settings.window = c.window
    · rw [applyBranch_same s b c hw]
      rfl
    · rw [applyBranch_moves s b c hw]
      exact foldl_keeps (fun e : Event => e.st.link) _ link_moveWindow _ _
  unfold State.onBrDef
  split
  · split
    · exact .refused _
    split
    · exact .refused _
    split
    · exact .done (.refl _)
    · exact .done ((noticed_of_eq (happlied _ _)).finish s)
  · exact .refused _

theorem answers_onBrRest (branch : Nat) : s.Answers (s.onBrRest branch) := by
  unfold State.onBrRest
  split
  · exact .refused _
  split
  · exact .refused _
  split
  · exact .done (.refl _)
  · exact .done (.refl _)
  · exact .refused _
  · split
    · exact .done (Link.Noticed.finish (e := (s.enterOffering _).event) (noticed_of_eq (link_enterOffering s _)) s)
    · exact .refused _

theorem answers_onBrWake (branch : Nat) : s.Answers (s.onBrWake branch) := by
  have hwake (b : Fin 6) : s.link.Noticed ((s.enterWaking b).settle s false false).link :=
    (noticed_of_eq (link_enterWaking s b)).settle s false false
  unfold State.onBrWake
  split
  · exact .refused _
  split
  · exact .refused _
  split
  · exact .done (hwake _)
  · exact .done (hwake _)
  · exact .done (.refl _)
  · exact .done (.refl _)

theorem answers_onMeter (tag station : Nat) : s.Answers (s.onMeter tag station) := by
  have hread (b : Fin 6) (r : MeterRead) : s.link.Noticed ((s.updBr b fun c => { c with read := some r }).settle s false false).link :=
    Link.Noticed.settle (t := s.updBr b _) (.refl s.link) s false false
  unfold State.onMeter
  split
  · exact .refused _
  split
  · exact .refused _
  split
  · exact .refused _
  split
  · exact .refused _
  split
  · exact .refused _
  · exact .taken (hread _ _) rfl

/-! ### Faults, and the GET requests -/

theorem answers_onFaultAck (kind subject : Nat) : s.Answers (s.onFaultAck kind subject) := by
  unfold State.onFaultAck
  split
  · exact .done (.refl _)
  split
  · exact .done (.refl _)
  · exact .refused _

theorem answers_onFaultMask (mask : Nat) : s.Answers (s.onFaultMask mask) := by
  unfold State.onFaultMask
  split
  · exact .done (.refl _)
  · exact .refused _

theorem answers_onGetStn (n : Nat) : s.Answers (s.onGetStn n) := by
  unfold State.onGetStn
  split
  · exact .taken (.refl _) rfl
  · exact .refused _

theorem answers_onGetBr (b part : Nat) : s.Answers (s.onGetBr b part) := by
  unfold State.onGetBr
  split
  · exact .taken (.refl _) rfl
  · exact .taken (.refl _) rfl
  · exact .refused _

theorem answers_onGetPlant (part : Nat) : s.Answers (s.onGetPlant part) := by
  unfold State.onGetPlant
  split
  · exact .taken (.refl _) rfl
  · exact .taken (.refl _) rfl
  · exact .refused _

theorem answers_onGetFaults (part : Nat) : s.Answers (s.onGetFaults part) := by
  unfold State.onGetFaults
  split
  · exact .taken (.refl _) rfl
  · exact .taken (.refl _) rfl
  · exact .refused _

/-- Every request is refused with nothing changed, or answered otherwise with notices alone issued (R181). -/
theorem answers_carryOut (tag : Nat) (r : Request) : s.Answers (s.carryOut tag r) := by
  cases r with
  | clock tod => exact answers_onClock s tod
  | stnDef f => exact answers_onStnDef s f
  | stnDrop n => exact answers_onStnDrop s n
  | brDef f => exact answers_onBrDef s f
  | isolate base limit => exact answers_onIsolate s base limit
  | chDef f => exact answers_onChDef s f
  | chCmd unit command => exact answers_onChCmd s unit command
  | plantDef p => exact answers_onPlantDef s p
  | schedWin first last => exact answers_onSchedWin s first last
  | schedData flag records => exact answers_onSchedData s flag records
  | refDef f => exact answers_onRefDef s f
  | pumpDef p => exact answers_onPumpDef s p
  | brRest b => exact answers_onBrRest s b
  | brWake b => exact answers_onBrWake s b
  | meter n => exact answers_onMeter s tag n
  | getStn n => exact answers_onGetStn s n
  | getBr b part => exact answers_onGetBr s b part
  | getPlant part => exact answers_onGetPlant s part
  | getRef => exact .taken (.refl _) rfl
  | getFaults part => exact answers_onGetFaults s part
  | faultAck kind subject => exact answers_onFaultAck s kind subject
  | faultMask mask => exact answers_onFaultMask s mask
  | save => exact .done (.refl _)
  | restart => exact .done (.refl _)
  | unknown k => exact .refused _
  | badFormat k => exact .refused _

end

end Sys2Proof.Machine
end

section
/-!
SUPPORT. What comes in on a segment or on the plant bus and what a timer brings: of the supervisory link's, notices alone (R180).
-/

namespace Sys2Proof.Machine

/-! ### Replies (R7, R17, R124, R134, R137, R147, R151) -/

section
variable (s : State) (b : Fin 6) (n : Fin 48)

theorem link_heard (f : ReportFields) : (s.heard b n f).link = s.link := by
  unfold State.heard State.noteDemand
  split <;> rfl

theorem link_reporting (f : ReportFields) (c : Bool) : (Event.reporting s b n f c).st.link = s.link := by
  have hheard := link_heard s b n f
  unfold Event.reporting
  split
  · have hrelieved : ((s.heard b n f).relieved b n f.standalone).link = (s.heard b n f).link :=
      link_of_ungranted (ungranted_relieved ..)
    rw [reportActive_st]
    exact (link_recomputeDeadband _ n).trans (hrelieved.trans hheard)
  · unfold Event.reportAttaching
    split <;> exact hheard

theorem noticed_report (f : ReportFields) : s.link.Noticed ((s.replying b n).report s b n f).link := by
  obtain ⟨c, hc⟩ := report_eq s b n f
  rw [State.replying, hc]
  exact ((noticed_of_eq (link_reporting s b n f c)).allocate.still (link_afterReport _ b n _ _)).settle s _ _

theorem noticed_capAck : s.link.Noticed ((s.replying b n).capAck s b n).link := by
  have hacked : ((s.replying b n).confirmCap b n).link = s.link := link_confirmCap (s.replying b n) b n
  exact Link.Noticed.finish (e := ⟨((s.replying b n).confirmCap b n).updStn n Station.woken, _⟩) (noticed_of_eq hacked) s

theorem noticed_restAnswer (before : State) (answer : Nat) : s.link.Noticed (s.restAnswer before b n answer).link := by
  unfold State.restAnswer
  dsimp only
  refine Link.Noticed.settle ?_ before false false
  split
  · exact .refl _
  split
  · exact noticed_of_eq (link_enterWaking s b)
  split
  · exact noticed_of_eq (link_judgeOffering (s.setStanding n .accepted) b)
  · exact .refl _

theorem noticed_takeReply (r : FieldReply) : s.link.Noticed ((s.replying b n).takeReply s b n r).link := by
  cases r with
  | report f => exact noticed_report s b n f
  | advertise caps kw cap rev =>
    exact Link.Noticed.finish (e := (s.replying b n).event.putStn n _) (.refl s.link) s
  | capAck seq => exact noticed_capAck s b n
  | restAnswer answer => exact noticed_restAnswer (s.replying b n) b n s answer
  | wakeAck => exact Link.Noticed.settle (t := (s.replying b n).updStn n Station.woken) (.refl s.link) s false false
  | meterData energy volume => exact (noticed_endRead (s.replying b n) b n _).settle s false false

theorem noticed_fieldFrame (address : Nat) (r : Option FieldReply) : s.link.Noticed (s.fieldFrame b address r).link := by
  unfold State.fieldFrame
  split
  · exact .refl _
  next x _ =>
  split
  · exact .refl _
  split
  · next r =>
    split
    · unfold State.replied
      split
      · exact Link.Noticed.settle (t := s.endTxn b) (.refl s.link) s false false
      · exact noticed_takeReply s b x.station r
    · exact .refl _
  · exact .refl _

/-! ### A miss (R11, R126) -/

/-- A station that is lost raises STATION_LOST and ends its reads, and a read with no reply to its third METER-ASK ends. -/
theorem noticed_miss (e : Event) (x : Txn) : e.st.link.Noticed (e.miss b x).st.link := by
  unfold Event.miss
  dsimp only
  split
  · split
    · rw [lose_st]
      exact ((noticed_takeOff e.st x.station .lost _).raise .stationLost _).still (judgeOfferingOf_same _ _).2.1
    · rw [map_st]
      exact noticed_missKind (e.st.updStn x.station _) b x
  · split
    · rw [returnToSeeking_st]
      exact .refl _
    · exact .refl _
  all_goals exact .refl _

theorem noticed_replyTimeout : s.link.Noticed (s.replyTimeout b).link := by
  have hend : s.link.Noticed (s.endTxn b).link := .refl _
  unfold State.replyTimeout
  split
  · exact .refl _
  split
  · exact hend.settle s false false
  · exact (hend.trans (noticed_miss b (s.endTxn b).event _)).finish s

/-! ### The plant bus (R25, R33, R36, R38) -/

theorem noticed_chillerReport (u : Fin 8) (condition : RunCondition) (available : Nat) :
    s.link.Noticed (s.chillerReport u condition available).link := by
  have hheard : s.link.Noticed (s.unitHeard u condition available).link := .refl _
  rw [chillerReport_eq]
  split
  · exact hheard.raise _ _
  · exact hheard

/-- The first state of charge after none may raise STORAGE_RESERVE (R36). -/
theorem Link.Noticed.firstStorage {l : Link} {t : State} (h : l.Noticed t.link) (soc : Nat) : l.Noticed (t.firstStorage soc).link := by
  have hset (on : Bool) : l.Noticed ({ t with tank := { t.tank with enabled := on } } : State).link := h
  have hend (on : Bool) :
      l.Noticed (State.endCondition { t with tank := { t.tank with enabled := on } } .storageReserve storageSubject).link := h
  unfold State.firstStorage
  dsimp only
  split
  · split
    · exact (hend _).raise _ _
    · exact (hset _).raise _ _
  · split <;> exact h

theorem noticed_tankReport (soc : Nat) (mode : TankMode) (rate : Nat) : s.link.Noticed (s.tankReport soc mode rate).link := by
  have hheard (k : Tank) : s.link.Noticed ({ s.endSilence tankAddress with tank := k } : State).link := .refl _
  unfold State.tankReport
  dsimp only
  split
  · exact (hheard _).firstStorage _
  · exact (hheard _).judgeStorage _

theorem link_plantDpReport (dp : Nat) : (s.plantDpReport dp).link = s.link := by
  unfold State.plantDpReport
  dsimp only
  split <;> rfl

/-! ### The timers -/

theorem noticed_clockTick : s.link.Noticed s.clockTick.link := by
  have hage : s.link.Noticed s.age.link := noticed_of_eq (by simp only [State.age])
  by_cases hc : s.age.currentSlot = s.currentSlot
  · rw [clockTick_within hc]
    exact hage.finishPressure s
  · rw [clockTick_change hc]
    exact hage.recapped s

theorem noticed_holdExpiry : s.link.Noticed (s.holdExpiry n).link := by
  unfold State.holdExpiry
  dsimp only
  split
  · exact Link.Noticed.finish (e := s.event.putStn n _) (.refl s.link) s
  · exact .refl _

/-- A device that falls silent raises DEVICE_SILENT (R26). -/
theorem noticed_silence (a : Fin 11) : s.link.Noticed (s.silence a).link := by
  have hraised : s.link.Noticed ((s.setWatch a ⟨true, 15⟩).raise .deviceSilent a.val).link :=
    Link.Noticed.raise (t := s.setWatch a ⟨true, 15⟩) (.refl s.link) _ _
  have hdevice (v : State) : (v.deviceSilent a).link = v.link := by
    unfold State.deviceSilent
    repeat' split
    all_goals rfl
  unfold State.silence
  split
  · exact (hraised.still (hdevice _) : s.link.Noticed (s.fallSilent a).link).recapped s
  · exact .refl _

theorem noticed_minRunExpiry (u : Fin 8) : s.link.Noticed (s.minRunExpiry u).link := by
  have hout : (s.minRunOut u).link = s.link := by
    unfold State.minRunOut
    dsimp only
    split <;> rfl
  unfold State.minRunExpiry
  split
  · exact (noticed_of_eq hout).recapped s
  · exact .refl _

theorem link_minOffExpiry (u : Fin 8) : (s.minOffExpiry u).link = s.link := by
  unfold State.minOffExpiry State.minOffOut
  dsimp only
  repeat' split
  all_goals rfl

/-- A start that has failed and a stop that has not been seen are raised (R32). -/
theorem noticed_confirmExpiry (u : Fin 8) : s.link.Noticed (s.confirmExpiry u).link := by
  have hset : s.link.Noticed (s.setChiller u (s.chiller u).unconfirmed).link := .refl _
  unfold State.confirmExpiry
  split
  · rcases confirmOut_cases s u with e | ⟨k, e⟩ <;> rw [e]
    · exact hset
    · exact hset.raise k _
  · exact .refl _

theorem noticed_indexDpStale : s.link.Noticed (s.indexDpStale n).link := by
  unfold State.indexDpStale
  dsimp only
  split
  · exact Link.Noticed.finishPressure (t := s.setStn n _) (.refl s.link) s
  · exact .refl _

theorem noticed_plantDpStale : s.link.Noticed s.plantDpStale.link := by
  have hpast (d : Option DpReading) : s.link.Noticed ({ s with plantDp := d } : State).link := .refl _
  exact (hpast _).finishPressure s

theorem noticed_revertExpiry : s.link.Noticed s.revertExpiry.link := by
  unfold State.revertExpiry
  split
  · exact Link.Noticed.finishPressure (t := (s.setRevert none).lock .primary) (.refl s.link) s
  · exact .refl _

theorem link_trimExpiry : s.trimExpiry.link = s.link := by
  unfold State.trimExpiry State.trim
  dsimp only
  repeat' split
  all_goals rfl

theorem noticed_emptyRotationEnd : s.link.Noticed (s.emptyRotationEnd b).link := by
  unfold State.emptyRotationEnd
  split
  · exact (noticed_of_eq (link_of_unsent (endRotation_arbitrated s b).unsent)).settle s false false
  · exact .refl _

theorem noticed_restPollDue : s.link.Noticed (s.restPollDue n).link := by
  unfold State.restPollDue
  split
  · split
    · exact Link.Noticed.settle (t := s.updStn n _) (.refl s.link) s false false
    · exact .refl _
  · exact .refl _

theorem noticed_wakeExpiry : s.link.Noticed (s.wakeExpiry b).link := by
  unfold State.wakeExpiry
  split
  · exact Link.Noticed.finish (e := (s.enterLive b).event.callPass true) (.refl s.link) s
  · exact .refl _

end

end Sys2Proof.Machine
end

section
/-!
SUPPORT. The supervisory link's own operations (R179 to R181, R184 to R186): what each does to the frames, the phase and the counts.
-/

namespace Sys2Proof.Machine

/-! ### The law of the link in two parts (R179, R180) -/

/-- The part of the law that notices do not touch: the buffer's bound, and the replies and the buffer by the phase. -/
def LinkKept.lawful (k : LinkKept) : Prop :=
  k.rx.length ≤ 2 ∧
    match k.phase with
    | .idle => k.rx = [] ∧ k.replies = []
    | .replying _ => k.replies.length = 1
    | .saving _ _ => k.replies = []
    | .restartDue => k.replies = []

theorem lawful_iff_kept (l : Link) : l.lawful ↔ l.queueLawful ∧ l.kept.lawful := by
  unfold Link.lawful Link.queueLawful LinkKept.lawful
  constructor
  · exact fun ⟨hrx, hn, hw, hp⟩ => ⟨⟨hn, hw⟩, hrx, hp⟩
  · exact fun ⟨⟨hn, hw⟩, hrx, hp⟩ => ⟨hrx, hn, hw, hp⟩

/-- A link within its bounds with no reply to send. -/
structure Link.Silent (l : Link) : Prop where
  rx : l.rx.length ≤ 2
  queue : l.queueLawful
  replies : l.replies = []

section
variable {l m : Link} (h : l.Noticed m)
include h

theorem Link.Noticed.queueLawful (hl : l.queueLawful) : m.queueLawful := h.keeps (fun _ n hl => queueLawful_issueNotice hl n) hl

theorem Link.Noticed.lawful (hl : l.lawful) : m.lawful := by
  rw [lawful_iff_kept] at hl ⊢
  exact ⟨h.queueLawful hl.1, h.kept ▸ hl.2⟩

theorem Link.Noticed.silent (hl : l.Silent) : m.Silent where
  rx := (congrArg (fun k => k.rx.length) h.kept).trans_le hl.rx
  queue := h.queueLawful hl.queue
  replies := (congrArg LinkKept.replies h.kept).trans hl.replies

end

/-! ### A reply issued (R180) -/

/-- What issuing a reply leaves alone: the buffer, and how many notices wait. -/
theorem issue_reply_same (l : Link) (tag : Nat) (r : Reply) :
    (l.issue (.reply tag r)).rx = l.rx ∧ (l.issue (.reply tag r)).waitingNotices = l.waitingNotices ∧
      (l.issue (.reply tag r)).sending ≠ none := by
  unfold Link.issue Link.waitingNotices
  split
  · exact ⟨rfl, rfl, nofun⟩
  · next o ho =>
    have hnone : [OutFrame.reply tag r].filter OutFrame.isNotice = [] := rfl
    refine ⟨rfl, ?_, fun hn => nomatch ho.symm.trans hn⟩
    rw [List.filter_append, hnone, List.append_nil]

/-- The one reply is on its way once it is issued. -/
theorem lawful_reply {s : State} (h : s.link.Silent) (tag : Nat) (r : Reply) (restart : Bool) :
    (s.reply tag r (.replying restart)).link.lawful := by
  obtain ⟨hrx, hn, hs⟩ := issue_reply_same s.link tag r
  refine (lawful_iff_kept _).mpr ⟨⟨?_, fun hnone => absurd hnone hs⟩, ?_, ?_⟩
  · exact (congrArg List.length hn).trans_le h.queue.1
  · exact (congrArg List.length hrx).trans_le h.rx
  · exact congrArg List.length (replies_issue_first s.link h.replies tag r)

theorem counted_reply (s : State) (tag : Nat) (r : Reply) (p : LinkPhase) : s.link.Counted (s.reply tag r p).link :=
  .of_counts (counts_issue s.link _)

/-! ### A request taken (R179, R181, R184, R186) -/

/-- What a request other than SAVE and RESTART has done to the link before its reply is issued. -/
theorem noticed_request (s : State) (tag : Nat) (r : Request) :
    s.link.Noticed ((s.carryOut tag r).1.closeSession r (s.carryOut tag r).2).link :=
  (answers_carryOut s tag r).noticed.still (link_closeSession _ _ _)

theorem lawful_handle {s : State} (h : s.link.Silent) (f : HostFrame) : (s.handle f).link.lawful := by
  obtain ⟨tag, r⟩ := f
  by_cases hsave : r = .save
  · subst hsave
    exact ⟨h.rx, h.queue.1, h.queue.2, h.replies⟩
  by_cases hrestart : r = .restart
  · subst hrestart
    exact lawful_reply (s := s.closeSession .restart (.done [])) ((noticed_of_eq (link_closeSession ..)).silent h) tag (.done []) true
  · rw [handle_eq hsave hrestart]
    exact lawful_reply ((noticed_request s tag r).silent h) tag _ false

theorem counted_handle (s : State) (f : HostFrame) : s.link.Counted (s.handle f).link := by
  obtain ⟨tag, r⟩ := f
  by_cases hsave : r = .save
  · subst hsave
    exact .of_counts rfl
  by_cases hrestart : r = .restart
  · subst hrestart
    exact (noticed_of_eq (link_closeSession ..)).counted.trans (counted_reply (s.closeSession .restart (.done [])) tag (.done []) _)
  · rw [handle_eq hsave hrestart]
    exact (noticed_request s tag r).counted.trans (counted_reply _ tag _ _)

/-- A link that is not idle takes nothing. -/
theorem takeNext_of_busy {s : State} (h : s.link.phase ≠ .idle) : s.takeNext = s := by
  unfold State.takeNext
  split
  · next hp _ => exact absurd hp h
  · rfl

/-- An idle link takes the oldest received frame. -/
theorem takeNext_of_idle {s : State} (h : s.link.phase = .idle) {f : HostFrame} {rest : List HostFrame} (hrx : s.link.rx = f :: rest) :
    s.takeNext = State.handle { s with link := { s.link with rx := rest } } f := by
  unfold State.takeNext
  rw [h, hrx]

theorem takeNext_of_empty {s : State} (hrx : s.link.rx = []) : s.takeNext = s := by
  unfold State.takeNext
  rw [hrx]
  split
  · next h => cases h
  · rfl

theorem lawful_takeNext {s : State} (hp : s.link.phase = .idle) (h : s.link.Silent) : s.takeNext.link.lawful := by
  cases hrx : s.link.rx with
  | nil =>
    rw [takeNext_of_empty hrx, Link.lawful, hp]
    exact ⟨h.rx, h.queue.1, h.queue.2, hrx, h.replies⟩
  | cons f rest =>
    rw [takeNext_of_idle hp hrx]
    have hlen := h.rx
    rw [hrx] at hlen
    exact lawful_handle (s := { s with link := { s.link with rx := rest } })
      ⟨(Nat.le_succ _).trans hlen, h.queue, h.replies⟩ f

theorem counted_takeNext (s : State) : s.link.Counted s.takeNext.link := by
  unfold State.takeNext
  split
  · next f rest _ _ => exact counted_handle { s with link := { s.link with rx := rest } } f
  · exact .of_counts rfl

/-! ### A frame received (R179) -/

/-- A frame that finds two waiting is discarded, and the overrun counted and raised. -/
theorem receive_full {s : State} (h : 2 ≤ s.link.rx.length) (f : HostFrame) :
    s.receive f = (State.raise { s with link := { s.link with overruns := countUp s.link.overruns } } .linkOverrun 0).judgeRelay :=
  if_pos h

/-- A frame that finds room joins the buffer, from which an idle link takes the oldest. -/
theorem receive_room {s : State} (h : s.link.rx.length < 2) (f : HostFrame) :
    s.receive f = State.takeNext { s with link := { s.link with rx := s.link.rx ++ [f] } } := if_neg (by omega)

theorem noticed_receive_full {s : State} (h : 2 ≤ s.link.rx.length) (f : HostFrame) :
    ({ s.link with overruns := countUp s.link.overruns } : Link).Noticed (s.receive f).link := by
  rw [receive_full h]
  exact Link.Noticed.raise (t := { s with link := { s.link with overruns := countUp s.link.overruns } }) (.refl _) _ _

theorem lawful_receive {s : State} (hl : s.link.lawful) (f : HostFrame) : (s.receive f).link.lawful := by
  by_cases hfull : 2 ≤ s.link.rx.length
  · exact (noticed_receive_full hfull f).lawful hl
  have hroom : s.link.rx.length < 2 := by omega
  have hlen : (s.link.rx ++ [f]).length ≤ 2 := by
    rw [List.length_append]
    exact hroom
  obtain ⟨-, hn, hw, hp⟩ := hl
  rw [receive_room hroom]
  cases hphase : s.link.phase with
  | idle =>
    rw [hphase] at hp
    exact lawful_takeNext hphase ⟨hlen, ⟨hn, hw⟩, hp.2⟩
  | replying | saving | restartDue =>
    rw [takeNext_of_busy (hphase ▸ nofun), Link.lawful]
    rw [hphase] at hp ⊢
    exact ⟨hlen, hn, hw, hp⟩

theorem counted_receive (s : State) (f : HostFrame) : s.link.Counted (s.receive f).link := by
  by_cases hfull : 2 ≤ s.link.rx.length
  · exact (counted_overruns s.link).trans (noticed_receive_full hfull f).counted
  · rw [receive_room (by omega)]
    exact counted_takeNext { s with link := { s.link with rx := s.link.rx ++ [f] } }

/-! ### A frame sent (R179, R180) -/

theorem advance_eq (l : Link) : l.advance = { l with sending := l.waiting.head?, waiting := l.waiting.tail } := by
  obtain ⟨rx, phase, sending, waiting, b, g, o, n, source⟩ := l
  cases waiting <;> rfl

/-- The frames left once the one on the line has gone are those that waited. -/
theorem replies_advance {l : Link} {f : OutFrame} (h : l.sending = some f) : l.replies = f.asReply.toList ++ l.advance.replies := by
  have hline (w : List OutFrame) : w.head?.toList ++ w.tail = w := by cases w <;> rfl
  rw [advance_eq, Link.replies, Link.replies, h, hline]
  cases f <;> rfl

theorem queueLawful_advance {l : Link} (h : l.queueLawful) : l.advance.queueLawful := by
  rw [advance_eq]
  refine ⟨(((List.tail_sublist l.waiting).filter _).length_le).trans h.1, fun hnone => ?_⟩
  rw [show l.waiting = [] from List.head?_eq_none_iff.mp hnone]
  rfl

section
variable {s : State} {f : OutFrame} (h : s.link.sending = some f)
include h

theorem frameSent_notice (hf : f.isNotice = true) : s.frameSent = { s with link := s.link.advance } := by
  simp only [State.frameSent, h, hf, if_true]

/-- After the DONE to a RESTART the warm restart falls due (R186). -/
theorem frameSent_restart (hf : f.isNotice = false) (hp : s.link.phase = .replying true) :
    s.frameSent = { s with link := { s.link.advance with phase := .restartDue } } := by
  have hphase : s.link.advance.phase = .replying true := by rw [advance_eq, hp]
  simp only [State.frameSent, h, hf, Bool.false_eq_true, if_false, hphase]

theorem frameSent_reply (hf : f.isNotice = false) (hp : s.link.phase = .replying false) :
    s.frameSent = State.takeNext { s with link := { s.link.advance with phase := .idle } } := by
  have hphase : s.link.advance.phase = .replying false := by rw [advance_eq, hp]
  simp only [State.frameSent, h, hf, Bool.false_eq_true, if_false, hphase]

end

theorem lawful_frameSent {s : State} (hl : s.link.lawful) : s.frameSent.link.lawful := by
  cases hs : s.link.sending with
  | none =>
    rw [show s.frameSent = s by simp only [State.frameSent, hs]]
    exact hl
  | some f =>
    have hreplies := replies_advance hs
    have hqueue : s.link.advance.queueLawful := queueLawful_advance ((lawful_iff_kept _).mp hl).1
    have hrx : s.link.advance.rx.length ≤ 2 := by
      rw [advance_eq]
      exact hl.1
    cases f with
    | notice n =>
      have hkept : s.link.advance.kept = s.link.kept := by
        rw [Link.kept, Link.kept, hreplies, advance_eq]
        rfl
      rw [frameSent_notice hs rfl, lawful_iff_kept]
      exact ⟨hqueue, hkept ▸ ((lawful_iff_kept _).mp hl).2⟩
    | reply tag r =>
      obtain ⟨-, -, -, hp⟩ := hl
      rw [hreplies] at hp
      cases hphase : s.link.phase with
      | replying restart =>
        rw [hphase] at hp
        have hnone : s.link.advance.replies = [] := List.eq_nil_of_length_eq_zero (Nat.succ.inj hp)
        cases restart with
        | true =>
          rw [frameSent_restart hs rfl hphase, lawful_iff_kept]
          exact ⟨hqueue, hrx, hnone⟩
        | false =>
          rw [frameSent_reply hs rfl hphase]
          exact lawful_takeNext rfl ⟨hrx, hqueue, hnone⟩
      | idle =>
        rw [hphase] at hp
        cases hp.2
      | saving | restartDue =>
        rw [hphase] at hp
        cases hp

theorem counted_frameSent (s : State) : s.link.Counted s.frameSent.link := by
  have hadvance (p : LinkPhase) : s.link.Counted { s.link.advance with phase := p } := by
    rw [advance_eq]
    exact .of_counts rfl
  unfold State.frameSent
  split
  · exact .of_counts rfl
  dsimp only
  split
  · exact hadvance _
  split
  · exact (hadvance .idle).trans (counted_takeNext { s with link := { s.link.advance with phase := .idle } })
  · exact hadvance .restartDue
  all_goals exact hadvance _

/-! ### SAVE_READ_BACK (R184) -/

theorem lawful_saveReadBack {s : State} (hl : s.link.lawful) (agrees : Bool) : (s.saveReadBack agrees).link.lawful := by
  cases hphase : s.link.phase with
  | saving tag i =>
    obtain ⟨hrx, hn, hw, hp⟩ := hl
    rw [hphase] at hp
    have hsilent : s.link.Silent := ⟨hrx, ⟨hn, hw⟩, hp⟩
    simp only [State.saveReadBack, hphase]
    split
    · exact lawful_reply (s := State.closeSession _ _ _) ((noticed_of_eq (link_closeSession { s with stored := some i } _ _)).silent hsilent) _ _ _
    · exact lawful_reply (s := s.spoilImage) hsilent _ _ _
  | idle | replying | restartDue =>
    simp only [State.saveReadBack, hphase]
    exact hl

theorem counted_saveReadBack (s : State) (agrees : Bool) : s.link.Counted (s.saveReadBack agrees).link := by
  unfold State.saveReadBack
  split
  · split
    · exact (noticed_of_eq (link_closeSession { s with stored := some _ } _ _)).counted.trans (counted_reply _ _ _ _)
    · exact counted_reply s.spoilImage _ _ _
  all_goals exact .of_counts rfl

/-! ### The starts (R175, R185, R186) -/

/-- A cold start puts HELLO COLD on the line, behind which CONFIG_LOST may be raised (R177, R185). -/
theorem link_coldStart (s : State) :
    ∃ c, s.coldStart.link = Link.fresh c ∨ ∃ n, s.coldStart.link = (Link.fresh c).issueNotice n := by
  have hrelay (v : State) : v.judgeRelay.link = v.link := rfl
  have hsent (v : State) : v.arbitrateAll.judgeRelay.link = v.link := (hrelay _).trans (link_of_unsent (unsent_arbitrateAll v))
  unfold State.coldStart
  dsimp only
  split
  · exact ⟨.stored, .inl (hsent _)⟩
  · rw [hsent]
    exact ⟨.defaults, link_raise (s.cutSave.startFrom Image.defaults .defaults) .configLost 0⟩

theorem lawful_coldStart (s : State) : s.coldStart.link.lawful := by
  obtain ⟨c, h⟩ := link_coldStart s
  exact (Link.Noticed.of_issue h).lawful ⟨Nat.zero_le _, Nat.zero_le _, fun _ => rfl, rfl, rfl⟩

theorem counts_coldStart (s : State) : s.coldStart.link.counts = (0, 0, 0, 0) := by
  obtain ⟨c, h | ⟨n, h⟩⟩ := link_coldStart s <;> rw [h] <;> rfl

/-- Without power nothing waits and nothing is on the line (R184). -/
theorem link_powerLoss (s : State) : s.powerLoss.link = { s.link with rx := [], phase := .idle, sending := none, waiting := [] } := by
  unfold State.powerLoss State.cutSave
  dsimp only
  split <;> rfl

/-- A warm restart empties the buffer, and issues HELLO WARM last (R186). -/
theorem noticed_warmRestart (s : State) :
    ({ s.link with rx := [], phase := .idle } : Link).Noticed s.warmRestart.link := by
  have hresettled : s.resettled.link = { s.link with rx := [], phase := .idle } := (same_resettled s).2.1
  have hjudged := (Link.Noticed.refl s.resettled.link).judgePressure s.pressure.ref
  rw [warmRestart_eq, ← State.resettled, link_answering, ← hresettled]
  exact hjudged.trans (.of_issue (.inr ⟨_, rfl⟩))

theorem lawful_warmRestart {s : State} (hl : s.link.lawful) (hp : s.link.phase = .restartDue) : s.warmRestart.link.lawful := by
  obtain ⟨-, hn, hw, hphase⟩ := hl
  rw [hp] at hphase
  exact (noticed_warmRestart s).lawful ⟨Nat.zero_le _, hn, hw, rfl, hphase⟩

end Sys2Proof.Machine
end

section
/-!
The supervisory link through a step (R179, R180, R187), and the two statements: it stays within its bounds, and its counts only rise.
-/

namespace Sys2Proof.Machine

/-- What a command does to the laws of the link and of its counts. -/
structure LinkLaws (s t : State) : Prop where
  lawful : s.link.lawful → t.link.lawful
  counted : s.link.Counted t.link

theorem LinkLaws.of_noticed {s t : State} (h : s.link.Noticed t.link) : LinkLaws s t := ⟨h.lawful, h.counted⟩

theorem LinkLaws.refl (s : State) : LinkLaws s s := .of_noticed (.refl _)

theorem linkLaws_receive (s : State) (f : HostFrame) : LinkLaws s (s.receive f) :=
  ⟨fun h => lawful_receive h f, counted_receive s f⟩

theorem linkLaws_powerLoss (s : State) : LinkLaws s s.powerLoss := by
  constructor <;> rw [link_powerLoss]
  · exact fun _ => ⟨Nat.zero_le _, Nat.zero_le _, fun _ => rfl, rfl, rfl⟩
  · exact .of_counts rfl

/-- The warm restart is carried out once it is due, and not otherwise. -/
theorem linkLaws_warmRestart (s : State) : LinkLaws s (if s.link.phase = .restartDue then s.warmRestart else s) := by
  split
  · next hp =>
    have hstart : s.link.Counted { s.link with rx := [], phase := .idle } := .of_counts rfl
    exact ⟨fun h => lawful_warmRestart h hp, hstart.trans (noticed_warmRestart s).counted⟩
  · exact .refl s

/-- A row that means `f` while the unit is powered. -/
theorem linkLaws_row {c : Instr} {s t : State} (f : State → State) (hc : exec c = whilePowered f) (he : exec c s = .next t)
    (hf : LinkLaws s (f s)) : LinkLaws s t := by
  rw [hc] at he
  cases hp : s.powered with
  | true =>
    rw [whilePowered_on f s hp] at he
    cases he
    exact hf
  | false =>
    rw [whilePowered_off f s hp] at he
    cases he
    exact .refl s

/-- Every command but COLD_START keeps the two laws: those of the link by its own operations, and any other issues notices alone. -/
theorem linkLaws_exec {s t : State} (c : Instr) (hcold : c ≠ .coldStart) (he : exec c s = .next t) : LinkLaws s t := by
  have hon (f : State → State) (hc : exec c = whilePowered f) (hf : LinkLaws s (f s)) : LinkLaws s t := linkLaws_row f hc he hf
  have hevent (f : State → State) (hc : exec c = whilePowered f) (hf : s.link.Noticed (f s).link) : LinkLaws s t :=
    hon f hc (.of_noticed hf)
  have hframe (b : Fin 6) (address : Nat) (r : Option FieldReply) (hc : exec c = whilePowered (·.fieldFrame b address r)) :
      LinkLaws s t := hevent _ hc (noticed_fieldFrame s b address r)
  rcases hr : c.asRequest with _ | ⟨tag, r⟩
  · cases c with
    | coldStart => exact absurd rfl hcold
    | powerLoss => exact hon (·.powerLoss) rfl (linkLaws_powerLoss s)
    | supervisoryFrameReceived kind tag body => exact hon (·.receive ⟨tag, parseRequest kind body⟩) rfl (linkLaws_receive s _)
    | supervisoryBadFrame =>
      exact hon (fun s => { s with link := { s.link with badFrames := countUp s.link.badFrames } }) rfl ⟨id, counted_badFrames _⟩
    | supervisoryGapTimeout =>
      exact hon (fun s => { s with link := { s.link with gaps := countUp s.link.gaps } }) rfl ⟨id, counted_gaps _⟩
    | frameSent => exact hon (·.frameSent) rfl ⟨lawful_frameSent, counted_frameSent s⟩
    | saveReadBack agrees =>
      exact hon (·.saveReadBack agrees) rfl ⟨fun h => lawful_saveReadBack h agrees, counted_saveReadBack s agrees⟩
    | warmRestart => exact hon (fun s => if s.link.phase = .restartDue then s.warmRestart else s) rfl (linkLaws_warmRestart s)
    | clockTick => exact hevent (·.clockTick) rfl (noticed_clockTick s)
    | holdExpiry n => exact hevent (·.holdExpiry n) rfl (noticed_holdExpiry s n)
    | deviceSilent a => exact hevent (·.silence a) rfl (noticed_silence s a)
    | minRunExpiry u => exact hevent (·.minRunExpiry u) rfl (noticed_minRunExpiry s u)
    | minOffExpiry u => exact hevent (·.minOffExpiry u) rfl (noticed_of_eq (link_minOffExpiry s u))
    | confirmExpiry u => exact hevent (·.confirmExpiry u) rfl (noticed_confirmExpiry s u)
    | chillerReport u condition available =>
      refine hevent _ rfl ?_
      split
      · exact (noticed_chillerReport s u condition available).recapped s
      · exact .refl _
    | tankReport soc mode rate =>
      refine hevent _ rfl ?_
      split
      · have h : s.link.Noticed (s.tankReport soc mode rate).event.recapacity.st.link := noticed_tankReport s soc mode rate
        exact h.allocate.settle s true true
      · exact .refl _
    | pumpReport running speed =>
      refine hevent (fun s => (s.pumpReport running speed).judgeRelay) rfl ?_
      rw [pumpReport_eq]
      exact .refl _
    | plantDpReport dp =>
      exact hevent (fun s => (s.plantDpReport dp).finishPressure s) rfl ((noticed_of_eq (link_plantDpReport s dp)).finishPressure s)
    | plantFrameDiscarded => exact hevent (fun s => s) rfl (.refl _)
    | indexDpStale n => exact hevent (·.indexDpStale n) rfl (noticed_indexDpStale s n)
    | plantDpStale => exact hevent (·.plantDpStale) rfl (noticed_plantDpStale s)
    | revertExpiry => exact hevent (·.revertExpiry) rfl (noticed_revertExpiry s)
    | trimExpiry => exact hevent (·.trimExpiry) rfl (noticed_of_eq (link_trimExpiry s))
    | replyTimeout b => exact hevent (·.replyTimeout b) rfl (noticed_replyTimeout s b)
    | fieldGapTimeout b => exact hevent (·.countBad b) rfl (.refl _)
    | fieldBadFrame b => exact hevent (·.countBad b) rfl (.refl _)
    | fieldInvalidReply b frame => exact hframe b frame.address (parseReply frame) rfl
    | fieldUnawaitedFrame b frame => exact hframe b frame.address (parseReply frame) rfl
    | report b address f => exact hframe b address (some (.report f)) rfl
    | advertise b address caps kw cap rev => exact hframe b address (some (.advertise caps kw cap rev)) rfl
    | capAck b address seq => exact hframe b address (some (.capAck seq)) rfl
    | restAnswer b address answer => exact hframe b address (some (.restAnswer answer)) rfl
    | wakeAck b address => exact hframe b address (some .wakeAck) rfl
    | meterData b address energy volume => exact hframe b address (some (.meterData energy volume)) rfl
    | emptyRotationEnd b => exact hevent (·.emptyRotationEnd b) rfl (noticed_emptyRotationEnd s b)
    | restPollDue n => exact hevent (·.restPollDue n) rfl (noticed_restPollDue s n)
    | wakeTimerExpiry b => exact hevent (·.wakeExpiry b) rfl (noticed_wakeExpiry s b)
    | _ => cases hr
  · exact hon (·.receive ⟨tag, r⟩) (funext fun v => exec_asRequest hr v) (linkLaws_receive s _)

/-- Settles O7: the command at the front of the queue keeps the law of the link, a cold start from whatever link it finds. -/
theorem linkStaysLawful : Obligations.LinkStaysLawful := by
  intro s t hs h
  unfold step at h
  split at h
  · cases h
    exact hs
  · next c rest _ =>
    by_cases hc : c = .coldStart
    · subst hc
      cases h
      exact lawful_coldStart _
    · exact (linkLaws_exec (s := { s with pending := rest }) c hc h).lawful hs

/-- Settles O12: each count only rises and stays in its range, but for a cold start, after which it is 0. -/
theorem linkCountsOnlyRise : Obligations.LinkCountsOnlyRise := by
  refine ⟨fun c s t hc hs h => (linkLaws_exec c hc h).counted hs, fun s t h => ?_⟩
  cases h
  have hzero := counts_coldStart s
  simpa only [Link.counts, Prod.mk.injEq] using hzero

end Sys2Proof.Machine
end

section
/-!
The requests read back from their bodies (R181, R182, Table 11-2), and each request row as the frame that carries it (notes/assumptions/1.md).
-/

namespace Sys2Proof.Machine

/-! ### The records of a SCHED-DATA (R53) -/

/-- A slot record as the fields it is sent in. -/
def SlotFields.fields (r : SlotFields) : List Field := [⟨1, r.mode⟩, ⟨2, r.kw⟩]

theorem encodeBody_append (fs gs : List Field) : encodeBody (fs ++ gs) = encodeBody fs ++ encodeBody gs := List.flatMap_append

/-- A slot record takes three bytes. -/
theorem encodeBody_slot (r : SlotFields) : encodeBody r.fields = bytesOf 1 r.mode ++ bytesOf 2 r.kw := by
  simp [encodeBody, SlotFields.fields, Field.encode]

theorem length_encodeBody_slots (rs : List SlotFields) : (encodeBody (rs.flatMap SlotFields.fields)).length = 3 * rs.length := by
  induction rs with
  | nil => rfl
  | cons r rs ih =>
    rw [List.flatMap_cons, encodeBody_append, encodeBody_slot, List.length_append, ih, List.length_append, length_bytesOf,
      length_bytesOf, List.length_cons]
    omega

/-- Slot records are read back from their bytes. -/
theorem slots_encodeBody {rs : List SlotFields} (h : fieldsFit (rs.flatMap SlotFields.fields) = true) :
    parseRequest.slots rs.length (encodeBody (rs.flatMap SlotFields.fields)) = rs := by
  induction rs with
  | nil => rfl
  | cons r rs ih =>
    rw [List.flatMap_cons, fieldsFit_append, Bool.and_eq_true] at h
    obtain ⟨hr, hrs⟩ := h
    obtain ⟨hmodeFits, hkwFits⟩ : r.mode < 256 ^ 1 ∧ r.kw < 256 ^ 2 := by
      simpa only [fieldsFit, SlotFields.fields, List.all_cons, List.all_nil, Bool.and_true, Bool.and_eq_true, decide_eq_true_eq] using hr
    rw [List.flatMap_cons, encodeBody_append, encodeBody_slot, List.length_cons, parseRequest.slots]
    have hmode : ((bytesOf 1 r.mode ++ bytesOf 2 r.kw ++ encodeBody (rs.flatMap SlotFields.fields)).take 1) = bytesOf 1 r.mode := by
      rw [List.append_assoc]
      exact List.take_left' (length_bytesOf 1 r.mode)
    have hkw : (((bytesOf 1 r.mode ++ bytesOf 2 r.kw ++ encodeBody (rs.flatMap SlotFields.fields)).drop 1).take 2) = bytesOf 2 r.kw := by
      rw [List.append_assoc, List.drop_left' (length_bytesOf 1 r.mode)]
      exact List.take_left' (length_bytesOf 2 r.kw)
    have hrest : ((bytesOf 1 r.mode ++ bytesOf 2 r.kw ++ encodeBody (rs.flatMap SlotFields.fields)).drop 3) =
        encodeBody (rs.flatMap SlotFields.fields) :=
      List.drop_left' (by rw [List.length_append, length_bytesOf, length_bytesOf])
    rw [hmode, hkw, hrest, ofBytes_bytesOf hmodeFits, ofBytes_bytesOf hkwFits, ih hrs]

/-- A SCHED-DATA of 1 to 24 records is read back from its body. -/
theorem parseRequest_schedData {flag : Nat} {rs : List SlotFields} (h : fieldsFit (Request.schedData flag rs).fields = true)
    (hlen : 1 ≤ rs.length ∧ rs.length ≤ 24) :
    parseRequest 0x0A (encodeRequest (.schedData flag rs)) = .schedData flag rs := by
  have hfields : (Request.schedData flag rs).fields = [⟨1, flag⟩, ⟨1, rs.length⟩] ++ rs.flatMap SlotFields.fields := rfl
  rw [hfields, fieldsFit_append, Bool.and_eq_true] at h
  obtain ⟨hhead, hrs⟩ := h
  have hflag : flag < 256 := of_decide_eq_true (Bool.and_eq_true_iff.mp (hhead : (_ && _) = true)).1
  have hcount : (BitVec.ofNat 8 rs.length : Byte).toNat = rs.length := toNat_byte (by omega)
  have hbody : encodeRequest (.schedData flag rs) =
      BitVec.ofNat 8 flag :: BitVec.ofNat 8 rs.length :: encodeBody (rs.flatMap SlotFields.fields) := by
    rw [encodeRequest, hfields, encodeBody_append]
    simp [encodeBody, Field.encode, bytesOf_one]
  rw [hbody]
  simp only [parseRequest, hcount, toNat_byte hflag, length_encodeBody_slots, slots_encodeBody hrs]
  exact if_pos ⟨hlen.1, hlen.2, trivial⟩

/-! ### The other requests (Table 11-2) -/

theorem fieldsFit_of_requestFits {tag : Nat} {r : Request} (h : requestFits tag r = true) : fieldsFit r.fields = true := by
  rw [requestFits, Bool.and_eq_true, Bool.and_eq_true] at h
  exact h.1.2

/-- A request whose body is a run of fields is read back by the byte counts of its kind. -/
theorem parseRequest_encodeRequest {r : Request} (h : fieldsFit r.fields = true) (hu : ∀ k, r ≠ .unknown k) (hf : ∀ k, r ≠ .badFormat k)
    (hs : ∀ flag rs, r = .schedData flag rs → 1 ≤ rs.length ∧ rs.length ≤ 24) : parseRequest r.kindCode (encodeRequest r) = r := by
  have hbody : splitBody (r.fields.map Field.bytes) (encodeRequest r) = some (r.fields.map Field.value) := splitBody_encodeBody h
  cases r with
  | schedData flag rs => exact parseRequest_schedData h (hs flag rs rfl)
  | getRef | save | restart => rfl
  | unknown k => exact absurd rfl (hu k)
  | badFormat k => exact absurd rfl (hf k)
  | _ =>
    simp only [Request.fields, PlantSettings.fields, PumpSettings.fields, List.map_cons, List.map_nil] at hbody
    simp only [Request.kindCode, parseRequest, hbody]

/-- Settles O13: each body is read by the byte counts of its kind's fields, and a SCHED-DATA record by record. -/
theorem requestsRoundTrip : Obligations.RequestsRoundTrip :=
  fun _ _ h => parseRequest_encodeRequest (fieldsFit_of_requestFits h)

/-! ### Request rows and their frames -/

/-- A KIND that names no request is read as unknown, whatever the body (R181). -/
theorem parseRequest_unknown {kind : Nat} (h : isRequestKind kind = false) (body : List Byte) : parseRequest kind body = .unknown kind := by
  have hkind : ¬ (1 ≤ kind ∧ kind ≤ 0x18) := of_decide_eq_false h
  unfold parseRequest
  split
  case h_25 => rfl
  all_goals exact absurd (by decide) hkind

/-- A well-formed request row carries a request that fits its frame, or a KIND that names none. -/
theorem fits_or_unknown {c : Instr} {tag : Nat} {r : Request} (hc : c.asRequest = some (tag, r)) (hw : c.wellFormed = true) :
    (∃ k, r = .unknown k ∧ isRequestKind k = false) ∨
      (fieldsFit r.fields = true ∧ (∀ k, r ≠ .unknown k) ∧ ∀ k, r ≠ .badFormat k) := by
  cases c <;> simp only [Instr.asRequest, reduceCtorEq, Option.some.injEq, Prod.mk.injEq] at hc <;> obtain ⟨rfl, rfl⟩ := hc
  case unknownRequest kind =>
    rw [Instr.wellFormed, Bool.and_eq_true] at hw
    exact .inl ⟨kind, rfl, by simpa using hw.2⟩
  case faultAck =>
    rw [Instr.wellFormed, Bool.and_eq_true] at hw
    exact .inr ⟨fieldsFit_of_requestFits hw.1, nofun, nofun⟩
  all_goals exact .inr ⟨fieldsFit_of_requestFits hw, nofun, nofun⟩

/-- Settles O15: the frame of a row is read back as the request that the row receives. -/
theorem requestRowsAreFrames : Obligations.RequestRowsAreFrames := by
  intro c tag r s hc hw hs
  have hparse : parseRequest r.kindCode (encodeRequest r) = r := by
    rcases fits_or_unknown hc hw with ⟨k, rfl, hk⟩ | ⟨hfit, hu, hf⟩
    · exact parseRequest_unknown hk _
    · exact parseRequest_encodeRequest hfit hu hf hs
  rw [exec_asRequest hc]
  show _ = whilePowered (fun s => s.receive ⟨tag, parseRequest r.kindCode (encodeRequest r)⟩) s
  rw [hparse]

end Sys2Proof.Machine
end

section
/-!
A frame received by a busy link, a frame sent, and a request refused (R179 to R181, R186).
-/

namespace Sys2Proof.Machine

/-- A frame received on a powered card. -/
theorem exec_frame {s : State} (h : s.powered = true) (kind tag : Nat) (body : List Byte) :
    exec (.supervisoryFrameReceived kind tag body) s = .next (s.receive ⟨tag, parseRequest kind body⟩) :=
  exec_on (·.receive ⟨tag, parseRequest kind body⟩) rfl h

/-! ### A frame received (R179) -/

/-- Settles O21: a busy link takes nothing from its buffer, and an overrun is a raise over the link with one more counted. -/
theorem receivedFramesWaitOrOverrun : Obligations.ReceivedFramesWaitOrOverrun := by
  refine fun s kind tag body hp => ⟨fun hroom hbusy => ?_, fun hfull => ⟨_, exec_frame hp kind tag body, ?_⟩⟩
  · rw [exec_frame hp, receive_room hroom]
    exact congrArg Host.Outcome.next (takeNext_of_busy hbusy)
  · rw [receive_full hfull]
    refine ⟨?_, stations_raise _ _ _, branches_raise _ _ _, (congrArg State.busSent (unraised_raise ..) :), fun hr => ?_⟩
    · rw [kept_judgeRelay, kept_raise]
      rfl
    · exact shows_raise_self (s := { s with link := { s.link with overruns := countUp s.link.overruns } }) hr

/-! ### A frame sent (R179, R180, R186) -/

/-- Settles O23: the line moves on, and after the reply the idle link takes the oldest received frame. -/
theorem sentFramesMakeRoom : Obligations.SentFramesMakeRoom := by
  intro s f hp hs next
  have hnext : s.link.advance = next := advance_eq s.link
  have hexec : exec .frameSent s = .next s.frameSent := exec_on (·.frameSent) rfl hp
  refine ⟨fun hf => ?_, fun hf hphase => ?_, fun hf hphase hrx => ?_, fun g rest hf hphase hrx => ?_⟩
  · rw [hexec, frameSent_notice hs hf, hnext]
  · rw [hexec, frameSent_restart hs hf hphase, hnext]
  · rw [hexec, frameSent_reply hs hf hphase, hnext]
    exact congrArg Host.Outcome.next (takeNext_of_empty hrx)
  · intro idle
    have hsent : exec .frameSent s = .next (State.handle idle g) := by
      rw [hexec, frameSent_reply hs hf hphase, hnext]
      exact congrArg Host.Outcome.next (takeNext_of_idle rfl hrx)
    refine ⟨hsent, fun c hc hrest hreplies => ?_⟩
    have hready : idle.ready := ⟨hp, rfl, hrest, hreplies⟩
    rw [hsent, exec_ready hc hready]

/-! ### A request refused (R181) -/

/-- A request that a ready link takes is a SAVE begun, or leaves one reply, and a refusal leaves nothing else. -/
theorem handle_answers {s : State} (hs : s.ready) (tag : Nat) (r : Request) :
    (∃ i, (s.handle ⟨tag, r⟩).link.phase = .saving tag i ∧ (s.handle ⟨tag, r⟩).link.replies = []) ∨
      ∃ reply, (s.handle ⟨tag, r⟩).link.replies = [(tag, reply)] ∧
        ∀ reason, reply = .refused reason → s.handle ⟨tag, r⟩ = s.answeredOnly tag reply := by
  obtain ⟨-, -, -, hnone⟩ := hs
  by_cases hsave : r = .save
  · subst hsave
    exact .inl ⟨s.image, rfl, hnone⟩
  right
  by_cases hrestart : r = .restart
  · subst hrestart
    refine ⟨.done [], ?_, nofun⟩
    exact replies_issue_first (s.closeSession .restart (.done [])).link (by rw [link_closeSession, hnone]) tag (.done [])
  · have hreplies : ((s.carryOut tag r).1.closeSession r (s.carryOut tag r).2).link.replies = [] :=
      (congrArg LinkKept.replies (noticed_request s tag r).kept).trans hnone
    refine ⟨(s.carryOut tag r).2, ?_, fun reason hreason => ?_⟩
    · rw [handle_eq hsave hrestart]
      exact replies_issue_first _ hreplies tag _
    · rw [handle_refused ((answers_carryOut s tag r).unchanged hreason), hreason]

/-- Settles O26: the two refusals of the link's own, and any request by what handling it answers. -/
theorem refusedRequestsChangeNothing : Obligations.RefusedRequestsChangeNothing := by
  refine fun s tag kind body hs => ⟨exec_refused rfl hs rfl, fun hkind => ?_, fun ⟨k, hk⟩ => ?_,
    _, exec_frame_ready hs kind tag body, handle_answers hs tag _⟩
  · rw [exec_frame_ready hs, parseRequest_unknown hkind, handle_refused rfl]
  · rw [exec_frame_ready hs, hk, handle_refused rfl]

end Sys2Proof.Machine
end
